-- ==== Sys2Proof/Word.lean ====
section
/-! DEFINITION. The words of the part and the fixed-length tables its state is built from.
Octets and ASCII text are what the dispatch link and the station ports carry (R205); the line time is
the 32-bit count of centiseconds of 00_scope.md ("Units and the time base"). -/

namespace Sys2Proof

/-- One octet of a frame, a tag or a name (R205). -/
abbrev Octet := BitVec 8

/-- ASCII text, one octet a character (R205). -/
abbrev Text := List Octet

/-- The line time: centiseconds since the last full reset, 32 bits, wrapping (00_scope.md, "Units and the time base"). -/
abbrev LineTime := BitVec 32

/-- Entry `i` of a table of fixed length. -/
def tget {α : Type} {n : Nat} (v : Vector α n) (i : Fin n) : α := v[i]

/-- The table with entry `i` replaced. -/
def tset {α : Type} {n : Nat} (v : Vector α n) (i : Fin n) (x : α) : Vector α n := v.set i x i.isLt

/-- The table with every entry mapped. -/
def tmap {α β : Type} {n : Nat} (f : α → β) (v : Vector α n) : Vector β n :=
  ⟨(v.toList.map f).toArray, by simp⟩

/-- The table with entry `i` changed by `f`. -/
def tmod {α : Type} {n : Nat} (v : Vector α n) (i : Fin n) (f : α → α) : Vector α n := tset v i (f (tget v i))

end Sys2Proof
end

