-- ==== Sys2Proof/Syntax.lean ====
section
/-! DEFINITION. The commands of the part: one constructor of `Instr` for each row of spec/opcode_table.json, with the
operands its rule names, and the names of the physical line (00_scope.md, "The line") that the operands use. -/

namespace Sys2Proof

/-- The three infeeds (00_scope.md, "The line"). -/
inductive Infeed | a | b | c
  deriving DecidableEq, Repr

/-- The first or the second of a pair: staging positions 1 and 2, wrappers 1 and 2. -/
inductive Side | one | two
  deriving DecidableEq, Repr

/-- The two reject spurs, places 27 and 28 (R36). -/
inductive Spur | check | finish
  deriving DecidableEq, Repr

/-- Dock lane 1 to 6; lane n is `n - 1` here. -/
abbrev Lane := Fin 6

/-- Buffer position 1 to 16; position n is `n - 1` here (R151). -/
abbrev Position := Fin 16

/-- The six drive zones (R34), numbered 1 to 6 in this order (R35). -/
inductive Zone | infeed (i : Infeed) | centre | buffer | lanes
  deriving DecidableEq, Repr

/-- The five tag scanners (00_scope.md): 1 to 3 at the infeed entries, 4 at the check station, 5 label verify. -/
inductive Scanner | entry (i : Infeed) | check | verify
  deriving DecidableEq, Repr

/-- The 59 filtered field inputs of R28 (66 less ESTOP and the six encoders, which have rows of their own). -/
inductive Input
  | entry (i : Infeed) | head (i : Infeed) | gateAt (i : Infeed)
  | checkArrival | checkExit
  | staging (k : Side) | wrapper (k : Side)
  | labelArrival | labelExit
  | shuttleLoaded
  | position (p : Position)
  | spurEntry (sp : Spur) | spurEnd (sp : Spur)
  | laneEntry (l : Lane) | laneEnd (l : Lane) | laneDoor (l : Lane)
  | op1 | op2 | key
  deriving DecidableEq, Repr

/-- The lamps and beacons of R31. -/
inductive Lamp | lane (l : Lane) | stop (i : Infeed) | spur (sp : Spur) | fault
  deriving DecidableEq, Repr

/-- What a READING of the scale carries (R94). -/
inductive Reading | value (g : Int) | overload
  deriving DecidableEq, Repr

/-- The four overhang flags of PROFILE (R86). -/
structure Overhang where
  front : Bool
  back : Bool
  left : Bool
  right : Bool
  deriving DecidableEq, Repr

/-- The codes a wrapper's FAULT carries (R121). -/
inductive WrapFault | filmBreak | tension | turntable | guardOpen
  deriving DecidableEq, Repr

/-- An article line of a slot (R7). -/
structure ArticleLine where
  article : Nat
  count : Nat
  deriving DecidableEq, Repr

/-- A mass tolerance band (R4). -/
structure Band where
  edge : Nat
  fixed : Nat
  perMille : Nat
  deriving DecidableEq, Repr

/-- An entry of the base table (R2). -/
structure Base where
  tare : Nat
  length : Nat
  width : Nat
  deriving DecidableEq, Repr

/-- A wrap recipe (R3). -/
structure Recipe where
  bottom : Nat
  top : Nat
  overlap : Nat
  prestretch : Nat
  topSheet : Bool
  tension : Nat
  deriving DecidableEq, Repr

/-- A lane window: the positions from `base` to `base + size - 1` (R152). -/
structure Window where
  base : Nat
  size : Nat
  deriving DecidableEq, Repr

/-- How a request reached the part (R191, R193): at its station address or at address 15, and whether its payload has
the length its contents require (R205). A request that is not `whole` is refused with BAD_ARGUMENT, its fields unread. -/
structure Req where
  broadcast : Bool
  whole : Bool
  deriving DecidableEq, Repr

/-- The form of ARTICLE_GET (R18). -/
inductive ArticleForm | exact | next
  deriving DecidableEq, Repr

/-- The commands: one constructor for each row of spec/opcode_table.json, in the table's order. -/
inductive Instr
  | powerOn
  | resetPin
  | inputChange (i : Input) (active : Bool)
  | inputFilterExpiry (i : Input)
  | estop
  | estopClear
  | encoderEdge (z : Zone)
  | speedWindowEnd (z : Zone)
  | travelLimitExpiry (track : Nat)
  | purgeHoldExpiry
  | wakeHoldExpiry (i : Infeed)
  | answerLimitExpiry (sc : Scanner)
  | deferralDeadlineExpiry (track : Nat)
  | gateLimitExpiry
  | settleDelayEnd
  | settleLimitExpiry
  | zeroSettleEnd
  | zeroLimitExpiry
  | wrapperAckLimitExpiry (w : Side)
  | wrapLimitExpiry (w : Side)
  | jobAckLimitExpiry
  | purgeAckLimitExpiry
  | printLimitExpiry
  | applyLimitExpiry
  | drainLimitExpiry
  | gapLimitExpiry
  | linkOctet (o : Octet)
  | replySent
  | unknownKind (q : Req) (kind : Nat)
  | tag (sc : Scanner) (digits : Text)
  | noRead (sc : Scanner)
  | profile (height : Nat) (flags : Overhang)
  | reading (r : Reading)
  | accept (w : Side) (order : Nat)
  | done (w : Side) (order : Nat) (revolutions : Nat) (film : Nat)
  | fault (w : Side) (order : Nat) (code : WrapFault)
  | taken (job : Nat)
  | printed (job : Nat)
  | applied (job : Nat)
  | cancelled
  | moveStart (track : Nat)
  | mergeChoice
  | gatePark
  | checkRouteRetry
  | wrapperChoice
  | orderSend (w : Side)
  | labelOrderMove
  | jobSend
  | purgeStart
  | applySend
  | labelRejectMove
  | shuttleChoice
  | deliveryDecision
  | drainCompleted
  | stopCompleted
  | identify (q : Req)
  | setIdentity (q : Req) (chars : Text)
  | setSetting (q : Req) (number : Nat) (value : Int)
  | getSetting (q : Req) (number : Nat)
  | setTableBands (q : Req) (bands : List Band)
  | setTableBases (q : Req) (bases : List Base)
  | setTableRecipes (q : Req) (recipes : List Recipe)
  | setTableWindows (q : Req) (windows : List Window)
  | setTableReportMask (q : Req) (flags : List Nat)
  | getTable (q : Req) (number : Nat)
  | takeReports (q : Req)
  | readCounters (q : Req) (clear : Nat)
  | articlePut (q : Req) (code : Nat) (mass : Nat) (name : Text)
  | articleDrop (q : Req) (code : Nat)
  | articleGet (q : Req) (code : Nat) (form : ArticleForm)
  | loadCreate (q : Req) (id : Nat) (planned : Nat) (heightLimit : Nat) (shipDate : Text)
  | slotAdd (q : Req) (id : Nat) (pos : Nat) (tag : Text) (base : Nat) (recipe : Nat) (lines : List ArticleLine) (texts : List Text)
  | slotSkip (q : Req) (id : Nat) (pos : Nat)
  | loadBind (q : Req) (id : Nat) (lane : Nat)
  | loadUnbind (q : Req) (id : Nat)
  | loadClose (q : Req) (id : Nat)
  | readLoad (q : Req) (id : Nat) (pos : Nat) (form : Nat)
  | placeClear (q : Req) (place : Nat)
  | listPlaces (q : Req)
  | readZones (q : Req) (release : Bool)
  | infeedSet (q : Req) (infeed : Nat) (state : Nat)
  | readPallet (q : Req) (track : Nat)
  | listPallets (q : Req) (start : Nat) (selector : Nat)
  | palletRemove (q : Req) (track : Nat)
  | stationResume (q : Req) (station : Nat)
  | zeroScale (q : Req)
  | forceRelease (q : Req) (track : Nat)
  | laneHalt (q : Req) (lane : Nat)
  | laneResume (q : Req) (lane : Nat)
  | readLane (q : Req) (lane : Nat)
  | setModeRun (q : Req)
  | setModeDrain (q : Req)
  | setModeStop (q : Req)
  | resume (q : Req)
  | resetFull (q : Req)
  | resetLine (q : Req)
  | resetSettings (q : Req)
  | flashHalfPeriod (lamp : Lamp)
  | strapChange (pins : BitVec 3)
  deriving DecidableEq, Repr

end Sys2Proof
end

