-- ==== Sys2Proof/Decode.lean ====
section
/-! DEFINITION. The command a word spells by the table's bits. The rows of spec/opcode_table.json give no bits, so no word
spells a command. -/

namespace Sys2Proof

/-- The command that a word spells: no row gives bits (log entry 11). -/
def decodeTableWord (_nbits _w : Nat) : Option Instr := none

end Sys2Proof
end

