-- ==== Sys2Proof/Config.lean ====
section
/-! DEFINITION. Constants the spec fixes for every MD420, and the values it leaves open. -/

namespace Sys2Proof.Config

/-- The value of a detail code the spec does not state, one for each draw (log entry 1). No body: nothing can be
proved of it. -/
opaque unstatedDetail : Nat → BitVec 16

/-- The footprint (length, width) of a wrapped pallet whose record names no slot, one for each draw: no run reaches
such a DONE (log entry 2). No body: nothing can be proved of it. -/
opaque unstatedFootprint : Nat → Nat × Nat

/-- The report queue holds at most 64 reports (R197). -/
def reportCapacity : Nat := 64

/-- TAKE_REPORTS returns at most 12 reports (R198). -/
def reportsPerTake : Nat := 12

/-- The Track Table holds at most 32 records (R51). -/
def recordCapacity : Nat := 32

/-- The article table holds at most 256 records (R1). -/
def articleCapacity : Nat := 256

/-- The Plan Store holds at most 12 loads (R5). -/
def loadCapacity : Nat := 12

/-- The scale capacity in grams (R8, R100). -/
def scaleCapacity : Nat := 2000000

/-- The gate limit of a switch (R80), cs. -/
def gateLimit : Nat := 300

/-- The purge hold (R32), cs. -/
def purgeHold : Nat := 400

/-- The length of a speed window (R34), cs. -/
def speedWindow : Nat := 100

/-- The gap limit of a frame in reception (R189), cs. -/
def gapLimit : Nat := 2

/-- The start octet of a frame, 195 (R206). -/
def startOctet : Octet := 195#8

/-- The largest payload length of a frame (R206). -/
def maxPayload : Nat := 480

/-- The broadcast address (R191). -/
def broadcastAddress : Nat := 15

end Sys2Proof.Config
end

