-- ==== Sys2Proof/Machine/Blocks.lean ====
section
/-! DEFINITION. The types the state is made of: the names and codes of the spec, the records and tables each block owns
(00_scope.md, "Organization of the part"), and the messages and replies the part sends. Plain data throughout. -/

namespace Sys2Proof.Machine

/-! ### Names and codes -/

/-- The 34 places (R36). -/
inductive Place
  | infeed (i : Infeed) | check | staging (k : Side) | wrapper (k : Side) | label | shuttle
  | position (p : Position) | spur (sp : Spur) | lane (l : Lane)
  deriving DecidableEq, Repr

/-- The states of a place (R36). -/
inductive PlaceState | free | occupied | unknown
  deriving DecidableEq, Repr

/-- The line modes (R174), numbered 0 to 4 in this order. -/
inductive LineMode | stopped | run | drain | stopping | halted
  deriving DecidableEq, Repr

/-- The stages of a track record (R53), numbered 1 to 13 in this order (R208). -/
inductive Stage
  | entering | deferred | ready | checking | toReject | staged | wrapping | wrapped | labelling | toBuffer | held
  | releasing | lost
  deriving DecidableEq, Repr

/-- The verdicts and fault codes of R208. -/
inductive Code
  | pass | passMarginal | noTag | unplanned | duplicate | overload | unstable | profileMissing | overhang | height
  | over | under | wrapFailed | labelFailed
  | ackTimeout | filmBreak | tension | turntable | guardOpen | wrapTimeout | filmShort
  | printTimeout | applyTimeout | noReadA | noReadB | mismatchA | mismatchB | moveTimeout
  deriving DecidableEq, Repr

/-- The plan marks (R51). -/
inductive PlanMark | unplanned | duplicate
  deriving DecidableEq, Repr

/-- The states of a slot (R7). -/
inductive SlotState | expected | claimed | finished | dispatched | skipped
  deriving DecidableEq, Repr

/-- The states of a load (R5). -/
inductive LoadStatus | stored | bound | complete
  deriving DecidableEq, Repr

/-- The states of a move (R39). -/
inductive MoveState | waiting | inFlight | lost
  deriving DecidableEq, Repr

/-- The states of a zone (R35), numbered 0 to 2. -/
inductive ZoneState | normal | degraded | stalled
  deriving DecidableEq, Repr

/-- The stations that can be faulted and resumed, numbered 1 to 6 in this order (R83). -/
inductive Station | check | wrapper (w : Side) | label | shuttle | mergeGate
  deriving DecidableEq, Repr

/-- The reported states of a station, numbered 0 to 3 (R83, R116). -/
inductive StationState | working | blocked | faulted | stalled
  deriving DecidableEq, Repr

/-- The patterns of a lamp or beacon (R31). -/
inductive Pattern | off | steady | flashSlow | flashFast
  deriving DecidableEq, Repr

/-- The states of a lane, numbered 0 to 4 (R155). -/
inductive LaneStatus | unbound | halted | doorShut | full | ready
  deriving DecidableEq, Repr

/-- The zero status (R93). -/
inductive ZeroStatus | none | running | done | failed
  deriving DecidableEq, Repr

/-- The 26 report kinds, numbered 1 to 26 in this order (R208). -/
inductive ReportKind
  | arrival | matched | defer | checkDone | wrapDone | wrapFault | labelDone | labelFault | held | dispatch | reject
  | removed | palletLost | late | loadComplete | laneChange | stationChange | speed | placeUnknown | deadlock
  | infeedRefused | zeroDone | modeChange | counterHalf | lineReset | drainFailed
  deriving DecidableEq, Repr

/-- The eleven counters, numbered 1 to 11 in this order (R199). -/
inductive Counter
  | noRead (i : Infeed) | over | under | marginal | unstable | wrapFaults | labelFailures | lostMoves | linkErrors
  deriving DecidableEq, Repr

/-- The result codes, numbered 0 to 18 in this order (R192). -/
inductive Result
  | ok | okClamped | busy | badArgument | unknownKind | unknownLoad | unknownPallet | unknownArticle | full
  | duplicateTag | massRange | inUse | inMotion | wrongMode | noIdentity | alreadySet | notBound | stillCovered
  | estopActive
  deriving DecidableEq, Repr

/-- The 33 settings, numbered 1 to 33 in this order (R209). -/
inductive Setting
  | inputFilter | purgeCombination | wakeHold | autoWake | travelLimit | speedBand | zonePulses (z : Zone)
  | deferLimit | ackLimit | trainLength | starvationLimit | parkInfeed | settleDelay | settleLimit | windowSize
  | stabilityWidth | division | toleranceMax | wrapBypass | wrapLimit | wrapAttempts | filmLinearMass | topSheetMass
  | printerDepth | applyLimit | labelRetries | drainLimit | broadcastOff
  deriving DecidableEq, Repr

/-- A face of the load, label side A or B (R131). -/
inductive Face | a | b
  deriving DecidableEq, Repr

/-! ### Records -/

/-- A deadline kept as a line time, with the time left to it, which a halt suspends (R181). -/
structure Deadline where
  due : LineTime
  left : Nat
  deriving DecidableEq, Repr

/-- A report (R197): `load` and `position` are the load reference, or a load id alone. -/
structure Report where
  kind : ReportKind
  time : LineTime
  track : Option Nat
  load : Option Nat
  position : Option Nat
  detail : Nat
  value : Option Int
  deriving DecidableEq, Repr

/-- A load reference: load id and load position (R51). -/
structure LoadRef where
  load : Nat
  position : Nat
  deriving DecidableEq, Repr

/-- A track record (R51). `preLost` is the stage it held before LOST (R43). -/
structure Record where
  number : Nat
  tag : Option Text
  infeed : Infeed
  arrival : LineTime
  ref : Option LoadRef
  mark : Option PlanMark
  stage : Stage
  preLost : Option Stage
  headMark : Bool
  location : Place
  movingTo : Option Place
  height : Option Nat
  overhang : Option Overhang
  mass : Option Nat
  deviation : Option (Int × Nat)
  verdict : Option Code
  faults : List Code
  faultsLost : Nat
  wrapper : Option Side
  wrapAttempts : Nat
  filmLength : Option Nat
  filmMass : Option Nat
  shippedGross : Option Nat
  job : Option Nat
  labelAttempts : Nat
  deferral : Option Deadline
  deriving DecidableEq, Repr

/-- What a scanner read is for: an entry read (R57), the check station read (R85), the verify of a face (R138). -/
inductive ReadFor | entry | check | verify (f : Face)
  deriving DecidableEq, Repr

/-- A scanner read asked for (R58). -/
structure Read where
  track : Nat
  purpose : ReadFor
  deriving DecidableEq, Repr

/-- One scanner (R58): the read outstanding with the time left of its answer limit, and the reads waiting, in the order asked.
`ended` is the time left of the answer limit of a READ sent for a read that was ended since (R67, R87, R149; log entry 10). -/
structure ScannerState where
  outstanding : Option (Read × Nat)
  waiting : List Read
  ended : Option Nat
  deriving DecidableEq, Repr

/-- An article record (R1). -/
structure Article where
  code : Nat
  mass : Nat
  name : Text
  deriving DecidableEq, Repr

/-- A slot (R7); its load position is its place in the slot list. -/
structure Slot where
  tag : Text
  base : Nat
  recipe : Nat
  lines : List ArticleLine
  texts : List Text
  gross : Nat
  net : Nat
  state : SlotState
  claimant : Option Nat
  rejects : Nat
  deriving DecidableEq, Repr

/-- A load (R5); slots held is the length of `slots`, slots dispatched the number of them in DISPATCHED. -/
structure Load where
  id : Nat
  planned : Nat
  heightLimit : Nat
  shipDate : Text
  status : LoadStatus
  lane : Option Lane
  slots : List Slot
  deriving DecidableEq, Repr

/-- The Plan Store (chapter 1). The tag index (R9) is the view of the slots' tags. -/
structure PlanStore where
  articles : List Article
  bases : Vector Base 4
  recipes : Vector Recipe 16
  bands : List Band
  loads : List Load
  deriving DecidableEq, Repr

/-- One drive zone (R34, R35): its drive output, the edges and time left of the window in progress, the last count. -/
structure ZoneEntry where
  state : ZoneState
  goodRun : Nat
  latch : Bool
  drive : Bool
  edges : Nat
  windowLeft : Nat
  last : Option Nat
  deriving DecidableEq, Repr

/-- One place (R36): UNKNOWN or not, clearing or not (R42), occupants and incoming track numbers. -/
structure PlaceEntry where
  unknown : Bool
  clearing : Bool
  occupants : List Nat
  incoming : List Nat
  deriving DecidableEq, Repr

/-- A move (R39). `left` and `limit` are the remaining time and the limit applied, once started. -/
structure Move where
  track : Nat
  source : Place
  dest : Place
  zone : Zone
  state : MoveState
  left : Nat
  limit : Nat
  doubled : Bool
  deriving DecidableEq, Repr

/-- A lamp or beacon: its pattern, whether it is lit now, and the time left of its half period, in half centiseconds, 0 while
it does not flash (R31; log entry 27). -/
structure LampState where
  pattern : Pattern
  lit : Bool
  left : Nat
  deriving DecidableEq, Repr

/-- The Field Unit (chapter 2). -/
structure FieldUnit where
  raw : Vector Bool 59
  filtered : Vector Bool 59
  timing : Vector (Option Nat) 59
  estop : Bool
  entryTaken : Vector Bool 3
  gateDrive : Option Infeed
  car : Option Side
  shuttleDrive : Option Place
  diverterReject : Bool
  lamps : Vector LampState 12
  purgeHold : Option Nat
  purgeSpent : Bool
  wakeHolds : Vector (Option Nat) 3
  zones : Vector ZoneEntry 6
  places : Vector PlaceEntry 34
  moves : List Move
  deriving DecidableEq, Repr

/-- The Track Table (chapter 3), with the five scanners of the scanner bus. -/
structure TrackTable where
  records : List Record
  nextNumber : Nat
  enabled : Vector Bool 3
  scanners : Vector ScannerState 5
  deriving DecidableEq, Repr

/-- The purpose of a gate switch (R74). -/
inductive SwitchPurpose | grant | park
  deriving DecidableEq, Repr

/-- A gate switch in progress (R74). -/
structure GateSwitch where
  target : Infeed
  purpose : SwitchPurpose
  left : Nat
  deriving DecidableEq, Repr

/-- The grant of the check station (R74). -/
structure Grant where
  infeed : Infeed
  track : Nat
  deriving DecidableEq, Repr

/-- An infeed's request: its wait-start time, and the time waited outside a halt (R75). -/
structure Waiting where
  since : LineTime
  waited : Nat
  deriving DecidableEq, Repr

/-- The Merge Arbiter (R74). -/
structure MergeArbiter where
  grant : Option Grant
  lastGranted : Option Infeed
  train : Nat
  gate : Option Infeed
  switch : Option GateSwitch
  parkPending : Bool
  requests : Vector (Option Waiting) 3
  fault : Bool
  deriving DecidableEq, Repr

/-- The conditions of the check station (R83). -/
inductive CheckCondition | empty | incoming | weighing | arrived | routing | blocked
  deriving DecidableEq, Repr

/-- One part of a check (R83). -/
inductive Part | pending | present | failed (c : Code)
  deriving DecidableEq, Repr

/-- A check in WEIGHING (R83). -/
structure Check where
  track : Nat
  arrival : LineTime
  settleEnd : Deadline
  settleLimit : Deadline
  mass : Part
  profile : Part
  tag : Part
  measure : Bool
  deriving DecidableEq, Repr

/-- The Check Station Controller (R83). -/
structure CheckStation where
  condition : CheckCondition
  fault : Bool
  current : Option Check
  deriving DecidableEq, Repr

/-- What a capture is open for (R93). -/
inductive CaptureFor | check (track : Nat) | zero
  deriving DecidableEq, Repr

/-- An open capture (R93): the window and K, W and d in force. -/
structure Capture where
  purpose : CaptureFor
  window : List Int
  size : Nat
  width : Nat
  division : Nat
  collecting : Bool
  deriving DecidableEq, Repr

/-- The Mass Unit (R93). -/
structure MassUnit where
  capture : Option Capture
  offset : Int
  status : ZeroStatus
  valid : Bool
  settleEnd : Option Deadline
  limit : Option Deadline
  deriving DecidableEq, Repr

/-- A staging entry (R112). -/
structure StagingEntry where
  track : Nat
  since : LineTime
  deriving DecidableEq, Repr

/-- The order in hand of a wrapper (R112); `ack` and `wrap` are the remaining times of its limits. -/
structure Order where
  number : Option Nat
  recipe : Recipe
  height : Nat
  sent : Bool
  ack : Option Nat
  wrap : Option Nat
  deriving DecidableEq, Repr

/-- The states of a wrapper (R116). -/
inductive WrapperStatus | idle | ordered | running | doneOccupied | faulted | stalled
  deriving DecidableEq, Repr

/-- The fault cause of a wrapper (R125): a move, or a code. -/
inductive WrapperCause | move | code (c : Code)
  deriving DecidableEq, Repr

/-- One wrapper (R112). -/
structure WrapperState where
  status : WrapperStatus
  pallet : Option Nat
  idleSince : LineTime
  order : Option Order
  nextOrder : Nat
  held : Option Nat
  cause : Option WrapperCause
  deriving DecidableEq, Repr

/-- An entry of the label order list (R112); `failed` is the outcome WRAP_FAILED. -/
structure LabelEntry where
  track : Nat
  wrapper : Side
  failed : Bool
  deriving DecidableEq, Repr

/-- The Wrap Controller (R112). -/
structure WrapController where
  staging : Vector (Option StagingEntry) 2
  wrappers : Vector WrapperState 2
  labelOrder : List LabelEntry
  deriving DecidableEq, Repr

/-- The conditions of the label unit (R131). -/
inductive LabelCondition
  | empty | incoming | arrived | printWait | applying | verifying | labelled | rejecting | blocked
  deriving DecidableEq, Repr

/-- The fault causes of the label unit (R131). -/
inductive LabelCause | printTimeout | applyTimeout | move
  deriving DecidableEq, Repr

/-- The states of a job (R131). -/
inductive JobState | sent | taken | printed
  deriving DecidableEq, Repr

/-- A job of the printer job list (R131). -/
structure Job where
  number : Nat
  track : Nat
  state : JobState
  deriving DecidableEq, Repr

/-- The purge of the printer (R131). -/
inductive Purge | none | pending | running
  deriving DecidableEq, Repr

/-- The result of reading back a face (R131). -/
inductive FaceResult | pending | ok | noRead | mismatch
  deriving DecidableEq, Repr

/-- The label unit's pallet and its outcome (R131). -/
structure LabelPallet where
  track : Nat
  failed : Bool
  deriving DecidableEq, Repr

/-- The Label Controller (R131). -/
structure LabelController where
  pallet : Option LabelPallet
  condition : LabelCondition
  fault : Option LabelCause
  jobs : List Job
  nextJob : Nat
  purge : Purge
  ack : Option Nat
  print : Option Nat
  apply : Option Nat
  faceA : FaceResult
  faceB : FaceResult
  deriving DecidableEq, Repr

/-- The kinds of shuttle task (R151), with their targets. -/
inductive TaskFor | store (p : Position) | release (l : Lane)
  deriving DecidableEq, Repr

/-- The legs of a shuttle task (R151). -/
inductive Leg | pickup | delivery
  deriving DecidableEq, Repr

/-- A shuttle task (R151). -/
structure ShuttleTask where
  track : Nat
  target : TaskFor
  leg : Leg
  deriving DecidableEq, Repr

/-- An entry of the release list (R151). -/
structure Release where
  track : Nat
  lane : Lane
  deriving DecidableEq, Repr

/-- The Buffer Controller (R151). -/
structure BufferController where
  reserved : Vector (Option Nat) 16
  windows : Vector Window 6
  exitPallet : Option Nat
  task : Option ShuttleTask
  fault : Bool
  releases : List Release
  forced : List Nat
  lastServed : Lane
  deadlock : Bool
  deriving DecidableEq, Repr

/-- One lane of the Lane Controller (R154). The bound load is the load that names the lane, the door level the filtered
lane door input. -/
structure LaneEntry where
  count : Nat
  halt : Bool
  status : LaneStatus
  deriving DecidableEq, Repr

/-- The Mode Controller (R174). -/
structure ModeController where
  mode : LineMode
  saved : Option LineMode
  drain : Option Nat
  deriving DecidableEq, Repr

/-- A counter with its half mark (R188). -/
structure CounterEntry where
  count : Nat
  armed : Bool
  deriving DecidableEq, Repr

/-- The receiver (R188): the octets of the frame so far and the time left of the gap limit. -/
inductive Receiver | hunting | receiving (octets : List Octet) (gap : Nat)
  deriving DecidableEq, Repr

/-- The Link Unit (R188). `attention` is the part's own output to the attention line, asserted or released (R197). -/
structure LinkUnit where
  address : BitVec 3
  straps : BitVec 3
  receiver : Receiver
  answering : Bool
  identity : Option Text
  reports : List Report
  overflow : Bool
  mask : Vector Bool 26
  attention : Bool
  counters : Vector CounterEntry 11
  deriving DecidableEq, Repr

/-! ### Messages and replies -/

/-- The ports that HOLD, CONTINUE and ABORT are sent on (R180, R130). -/
inductive Port | wrapper (w : Side) | printer
  deriving DecidableEq, Repr

/-- The content of a JOB (R133). -/
structure JobForm where
  number : Nat
  tag : Option Text
  ref : Option LoadRef
  planned : Nat
  shipDate : Text
  identity : Option Text
  gross : Text
  net : Text
  recipe : Nat
  texts : List Text
  deriving DecidableEq, Repr

/-- The entry of LIST_PLACES for one place (R49). -/
structure PlaceRow where
  number : Nat
  state : PlaceState
  covered : Bool
  occupants : List Nat
  laneCount : Option Nat
  incoming : List Nat
  deriving DecidableEq, Repr

/-- The entry of READ_ZONES for one zone (R50). -/
structure ZoneRow where
  state : ZoneState
  goodRun : Nat
  drive : Bool
  last : Option Nat
  expected : Nat
  latch : Bool
  inFlight : Nat
  lost : Nat
  deriving DecidableEq, Repr

/-- A summary of LIST_PALLETS (R71). -/
structure PalletRow where
  number : Nat
  stage : Stage
  infeed : Infeed
  location : Place
  ref : Option LoadRef
  mark : Option PlanMark
  verdict : Option Code
  deriving DecidableEq, Repr

/-- A load's entry in READ_LOAD of load id 0 (R25). -/
structure LoadRow where
  id : Nat
  status : LoadStatus
  lane : Option Lane
  planned : Nat
  held : Nat
  dispatched : Nat
  deriving DecidableEq, Repr

/-- A slot summary of READ_LOAD (R25). -/
structure SlotRow where
  position : Nat
  tag : Text
  state : SlotState
  claimant : Option Nat
  rejects : Nat
  base : Nat
  recipe : Nat
  gross : Nat
  net : Nat
  deriving DecidableEq, Repr

/-- A lane's entry in READ_LANE (R172). -/
structure LaneRow where
  status : LaneStatus
  beacon : Pattern
  load : Option (Nat × LoadStatus)
  next : Option Nat
  awaitsSlot : Bool
  claiming : Option (Nat × Stage)
  count : Nat
  releases : Nat
  doorOpen : Bool
  halt : Bool
  window : Window
  held : Nat
  deriving DecidableEq, Repr

/-- The shuttle's conditions (R159). -/
inductive ShuttleCondition | idle | picking | carrying
  deriving DecidableEq, Repr

/-- The fields a reply carries after its result code (R192), as each request's entry names them. -/
inductive ReplyBody
  | nothing
  | value (v : Int)
  | identity (vendor part : Text) (revision : Nat) (address : Nat) (identity : Option Text) (mode : LineMode) (zero : ZeroStatus)
      (valid : Bool) (queued : Nat)
  | setting (value dflt low high : Int)
  | bands (t : List Band)
  | bases (t : List Base)
  | recipes (t : List Recipe)
  | windows (t : List Window)
  | mask (t : List Bool)
  | reports (taken : List Report) (overflow : Bool) (left : Nat)
  | counters (t : List CounterEntry)
  | articlePut (replaced : Bool) (count : Nat)
  | articleDrop (count : Nat)
  | article (a : Article) (count : Nat)
  | slotAdded (gross net : Nat) (state : SlotState)
  | loadClosed (dispatched skipped : Nat)
  | loads (t : List LoadRow)
  | load (row : LoadRow) (heightLimit : Nat) (shipDate : Text) (slots : List SlotRow) (more : Bool)
  | slot (position : Nat) (sl : Slot)
  | place (st : PlaceState)
  | places (t : List PlaceRow) (waiting inFlight lost : Nat)
  | zones (t : List ZoneRow)
  | infeed (enabled : Bool) (pallets : Nat) (oldest : Option Stage)
  | pallet (r : Record) (move : Option MoveState) (left : Option Nat)
  | pallets (t : List PalletRow) (admitted held : Nat) (time : LineTime) (more : Bool)
  | removed (ref : Option LoadRef) (place : Nat) (st : PlaceState)
  | station (st : StationState)
  | zero (status : ZeroStatus) (offset : Int)
  | forced (lane : Nat) (releasable : Bool)
  | lane (st : LaneStatus)
  | lanes (t : List LaneRow) (shuttle : ShuttleCondition) (task : Option ShuttleTask) (reported : StationState)
      (exitPallet : Option Nat) (lastServed : Nat) (deadlock : Bool)
  | mode (m : LineMode)
  | reset (deleted : Nat) (m : LineMode)
  deriving DecidableEq, Repr

/-- What the part sends: messages on the station ports and reply frames on the dispatch link. A reply carries the station
address, its own kind number, which is the request's plus 128, its result code and the fields the request's entry names (R192);
its octets are `Message.octets`. -/
inductive Message
  | read (sc : Scanner) (face : Option Face)
  | stream | hush | measure
  | order (w : Side) (number : Nat) (recipe : Recipe) (height : Nat)
  | abort (w : Side)
  | hold (p : Port) | resume (p : Port)
  | job (f : JobForm) | apply (number : Nat) | cancelAll
  | reply (address : BitVec 3) (kind : Nat) (code : Result) (body : ReplyBody)
  deriving DecidableEq, Repr

end Sys2Proof.Machine
end

