-- ==== Sys2Proof/Machine/Codes.lean ====
section
/-! DEFINITION. The numbers of the names: table indices, and the code numbers of R36, R56, R83, R155, R174, R192, R197,
R199, R208 and R209. -/

namespace Sys2Proof

/-- Infeed A, B, C as 1, 2, 3 (R56). -/
def Infeed.number : Infeed → Nat
  | .a => 1 | .b => 2 | .c => 3

/-- Index of an infeed in a table of three. -/
def Infeed.idx : Infeed → Fin 3
  | .a => 0 | .b => 1 | .c => 2

/-- 1 or 2. -/
def Side.number : Side → Nat
  | .one => 1 | .two => 2

/-- Index in a table of two. -/
def Side.idx : Side → Fin 2
  | .one => 0 | .two => 1

/-- Index of a zone in a table of six, in the order of R35. -/
def Zone.idx : Zone → Fin 6
  | .infeed .a => 0 | .infeed .b => 1 | .infeed .c => 2 | .centre => 3 | .buffer => 4 | .lanes => 5

/-- Zone number 1 to 6 (R35). -/
def Zone.number (z : Zone) : Nat := z.idx.val + 1

/-- Index of a scanner in a table of five. -/
def Scanner.idx : Scanner → Fin 5
  | .entry .a => 0 | .entry .b => 1 | .entry .c => 2 | .check => 3 | .verify => 4

/-- Scanner number 1 to 5 (00_scope.md). -/
def Scanner.number (sc : Scanner) : Nat := sc.idx.val + 1

/-- Index of a filtered input in a table of 59, in the order of R28. -/
def Input.idx : Input → Fin 59
  | .entry i => ⟨i.idx.val, by omega⟩
  | .head i => ⟨3 + i.idx.val, by omega⟩
  | .gateAt i => ⟨6 + i.idx.val, by omega⟩
  | .checkArrival => 9
  | .checkExit => 10
  | .staging k => ⟨11 + k.idx.val, by omega⟩
  | .wrapper k => ⟨13 + k.idx.val, by omega⟩
  | .labelArrival => 15
  | .labelExit => 16
  | .shuttleLoaded => 17
  | .position p => ⟨18 + p.val, by omega⟩
  | .spurEntry .check => 34
  | .spurEntry .finish => 35
  | .spurEnd .check => 36
  | .spurEnd .finish => 37
  | .laneEntry l => ⟨38 + l.val, by omega⟩
  | .laneEnd l => ⟨44 + l.val, by omega⟩
  | .laneDoor l => ⟨50 + l.val, by omega⟩
  | .op1 => 56
  | .op2 => 57
  | .key => 58

/-- Index of a lamp in a table of twelve. -/
def Lamp.idx : Lamp → Fin 12
  | .lane l => ⟨l.val, by omega⟩
  | .stop i => ⟨6 + i.idx.val, by omega⟩
  | .spur .check => 9
  | .spur .finish => 10
  | .fault => 11

end Sys2Proof

namespace Sys2Proof.Machine

/-- Index of a place in a table of 34, in the order of R36. -/
def Place.idx : Place → Fin 34
  | .infeed i => ⟨i.idx.val, by omega⟩
  | .check => 3
  | .staging k => ⟨4 + k.idx.val, by omega⟩
  | .wrapper k => ⟨6 + k.idx.val, by omega⟩
  | .label => 8
  | .shuttle => 9
  | .position p => ⟨10 + p.val, by omega⟩
  | .spur .check => 26
  | .spur .finish => 27
  | .lane l => ⟨28 + l.val, by omega⟩

/-- Place number 1 to 34 (R36). -/
def Place.number (p : Place) : Nat := p.idx.val + 1

/-- The 34 places in number order (R36). -/
def allPlaces : List Place :=
  [.infeed .a, .infeed .b, .infeed .c, .check, .staging .one, .staging .two, .wrapper .one, .wrapper .two, .label, .shuttle,
   .position 0, .position 1, .position 2, .position 3, .position 4, .position 5, .position 6, .position 7,
   .position 8, .position 9, .position 10, .position 11, .position 12, .position 13, .position 14, .position 15,
   .spur .check, .spur .finish, .lane 0, .lane 1, .lane 2, .lane 3, .lane 4, .lane 5]

/-- Index of a station in a table of six (R83). -/
def Station.idx : Station → Fin 6
  | .check => 0 | .wrapper .one => 1 | .wrapper .two => 2 | .label => 3 | .shuttle => 4 | .mergeGate => 5

/-- Station number 1 to 6 (R83). -/
def Station.number (st : Station) : Nat := st.idx.val + 1

/-- Index of a counter in a table of eleven (R199). -/
def Counter.idx : Counter → Fin 11
  | .noRead .a => 0 | .noRead .b => 1 | .noRead .c => 2 | .over => 3 | .under => 4 | .marginal => 5 | .unstable => 6
  | .wrapFaults => 7 | .labelFailures => 8 | .lostMoves => 9 | .linkErrors => 10

/-- Counter number 1 to 11 (R199). -/
def Counter.number (c : Counter) : Nat := c.idx.val + 1

/-- Index of a report kind in the report mask (R197). -/
def ReportKind.idx : ReportKind → Fin 26
  | .arrival => 0 | .matched => 1 | .defer => 2 | .checkDone => 3 | .wrapDone => 4 | .wrapFault => 5 | .labelDone => 6
  | .labelFault => 7 | .held => 8 | .dispatch => 9 | .reject => 10 | .removed => 11 | .palletLost => 12 | .late => 13
  | .loadComplete => 14 | .laneChange => 15 | .stationChange => 16 | .speed => 17 | .placeUnknown => 18 | .deadlock => 19
  | .infeedRefused => 20 | .zeroDone => 21 | .modeChange => 22 | .counterHalf => 23 | .lineReset => 24 | .drainFailed => 25

/-- Index of a setting in the settings table (R209). -/
def Setting.idx : Setting → Fin 33
  | .inputFilter => 0 | .purgeCombination => 1 | .wakeHold => 2 | .autoWake => 3 | .travelLimit => 4 | .speedBand => 5
  | .zonePulses z => ⟨6 + z.idx.val, by omega⟩
  | .deferLimit => 12 | .ackLimit => 13 | .trainLength => 14 | .starvationLimit => 15 | .parkInfeed => 16
  | .settleDelay => 17 | .settleLimit => 18 | .windowSize => 19 | .stabilityWidth => 20 | .division => 21
  | .toleranceMax => 22 | .wrapBypass => 23 | .wrapLimit => 24 | .wrapAttempts => 25 | .filmLinearMass => 26
  | .topSheetMass => 27 | .printerDepth => 28 | .applyLimit => 29 | .labelRetries => 30 | .drainLimit => 31
  | .broadcastOff => 32

/-- Mode number 0 to 4 (R174). -/
def LineMode.number : LineMode → Nat
  | .stopped => 0 | .run => 1 | .drain => 2 | .stopping => 3 | .halted => 4

/-- Zone state number 0 to 2 (R35). -/
def ZoneState.number : ZoneState → Nat
  | .normal => 0 | .degraded => 1 | .stalled => 2

/-- Reported state number 0 to 3 (R83, R116). -/
def StationState.number : StationState → Nat
  | .working => 0 | .blocked => 1 | .faulted => 2 | .stalled => 3

/-- Lane state number 0 to 4 (R155). -/
def LaneStatus.number : LaneStatus → Nat
  | .unbound => 0 | .halted => 1 | .doorShut => 2 | .full => 3 | .ready => 4

/-- Stage number 1 to 13 (R208). -/
def Stage.number : Stage → Nat
  | .entering => 1 | .deferred => 2 | .ready => 3 | .checking => 4 | .toReject => 5 | .staged => 6 | .wrapping => 7
  | .wrapped => 8 | .labelling => 9 | .toBuffer => 10 | .held => 11 | .releasing => 12 | .lost => 13

/-- Verdict and fault code numbers (R208). -/
def Code.number : Code → Nat
  | .pass => 1 | .passMarginal => 2 | .noTag => 3 | .unplanned => 4 | .duplicate => 5 | .overload => 6 | .unstable => 7
  | .profileMissing => 8 | .overhang => 9 | .height => 10 | .over => 11 | .under => 12 | .wrapFailed => 13
  | .labelFailed => 14 | .ackTimeout => 20 | .filmBreak => 21 | .tension => 22 | .turntable => 23 | .guardOpen => 24
  | .wrapTimeout => 25 | .filmShort => 26 | .printTimeout => 30 | .applyTimeout => 31 | .noReadA => 32 | .noReadB => 33
  | .mismatchA => 34 | .mismatchB => 35 | .moveTimeout => 40

/-- Result code numbers 0 to 18 (R192). -/
def Result.number : Result → Nat
  | .ok => 0 | .okClamped => 1 | .busy => 2 | .badArgument => 3 | .unknownKind => 4 | .unknownLoad => 5
  | .unknownPallet => 6 | .unknownArticle => 7 | .full => 8 | .duplicateTag => 9 | .massRange => 10 | .inUse => 11
  | .inMotion => 12 | .wrongMode => 13 | .noIdentity => 14 | .alreadySet => 15 | .notBound => 16 | .stillCovered => 17
  | .estopActive => 18

end Sys2Proof.Machine
end

