-- ==== Sys2Proof/Machine/Defaults.lean ====
section
/-! DEFINITION. The defaults of the tables and settings, and each block's value after a reset. -/

namespace Sys2Proof.Machine

/-- The default base table (R2). -/
def defaultBases : Vector Base 4 :=
  #v[⟨24000, 1200, 800⟩, ⟨30000, 1200, 1000⟩, ⟨10000, 800, 600⟩, ⟨28000, 1200, 800⟩]

/-- Recipe 0, whose values recipes 4 to 15 take (R3). -/
def recipeZero : Recipe := ⟨2, 1, 50, 200, false, 5⟩

/-- The default recipe table (R3). -/
def defaultRecipes : Vector Recipe 16 :=
  #v[recipeZero, ⟨1, 1, 30, 150, false, 3⟩, ⟨2, 2, 50, 250, true, 6⟩, ⟨3, 2, 50, 200, true, 7⟩,
     recipeZero, recipeZero, recipeZero, recipeZero, recipeZero, recipeZero, recipeZero, recipeZero,
     recipeZero, recipeZero, recipeZero, recipeZero]

/-- The default band table (R4). -/
def defaultBands : List Band :=
  [⟨100000, 400, 0⟩, ⟨400000, 600, 2⟩, ⟨1000000, 800, 3⟩, ⟨2000001, 1500, 3⟩]

/-- The default windows: every size 0 (R152); the base 1 is the model's choice (log entry 6). -/
def defaultWindows : Vector Window 6 := Vector.replicate 6 ⟨1, 0⟩

/-- The 33 settings at their defaults (R209). -/
def defaultSettings : Vector Nat 33 :=
  #v[5, 2, 200, 0, 2000, 15, 1000, 1000, 1000, 1000, 1000, 1000, 3000, 200, 1, 6000, 1,
     50, 600, 8, 40, 20, 50000, 0, 18000, 2, 780, 180, 4, 2000, 1, 60000, 0]

/-- A wrapper after a full reset, idle since line time `t` (R130). -/
def wrapperReset (t : LineTime) (next : Nat) : WrapperState := ⟨.idle, none, t, none, next, none, none⟩

/-- The Link Unit's part of a full reset, the address sampled from `straps` (R204). -/
def linkReset (straps : BitVec 3) : LinkUnit where
  address := straps
  straps := straps
  receiver := .hunting
  answering := false
  identity := none
  reports := []
  overflow := false
  mask := Vector.replicate 26 true
  attention := false
  counters := Vector.replicate 11 ⟨0, true⟩

/-- The Field Unit at a full reset, before its places are set from the sensors: the filtered levels are `raw` (R27, section 2.9). -/
def fieldReset (raw : Vector Bool 59) (estop : Bool) : FieldUnit where
  raw := raw
  filtered := raw
  timing := Vector.replicate 59 none
  estop := estop
  entryTaken := Vector.replicate 3 false
  gateDrive := none
  car := none
  shuttleDrive := none
  diverterReject := false
  lamps := #v[⟨.off, false, 0⟩, ⟨.off, false, 0⟩, ⟨.off, false, 0⟩, ⟨.off, false, 0⟩, ⟨.off, false, 0⟩, ⟨.off, false, 0⟩,
              ⟨.steady, true, 0⟩, ⟨.steady, true, 0⟩, ⟨.steady, true, 0⟩, ⟨.off, false, 0⟩, ⟨.off, false, 0⟩,
              ⟨.off, false, 0⟩]
  purgeHold := none
  purgeSpent := false
  wakeHolds := Vector.replicate 3 none
  zones := Vector.replicate 6 ⟨.normal, 0, false, false, 0, 0, none⟩
  places := Vector.replicate 34 ⟨false, false, [], []⟩
  moves := []

/-- The messages a full reset and a line reset send (R94, R130, R150), in an order the model chose (log entry 8). -/
def resetMessages : List Message := [.hush, .abort .one, .abort .two, .cancelAll]

/-- The Label Controller after a reset, with the next job number `n` (R150). The face results are dropped: they hold PENDING
(log entry 47). -/
def labelReset (n : Nat) : LabelController where
  pallet := none
  condition := .empty
  fault := none
  jobs := []
  nextJob := n
  purge := .none
  ack := none
  print := none
  apply := none
  faceA := .pending
  faceB := .pending

/-- The Buffer Controller after a reset, with the windows `w` (R173). -/
def bufferReset (w : Vector Window 6) : BufferController where
  reserved := Vector.replicate 16 none
  windows := w
  exitPallet := none
  task := none
  fault := false
  releases := []
  forced := []
  lastServed := 5
  deadlock := false

/-- A scanner with no read outstanding, waiting or ended. -/
def scannerIdle : ScannerState := ⟨none, [], none⟩

/-- The Track Table after a reset, with the infeed enable states `en` (R73). -/
def trackReset (en : Vector Bool 3) : TrackTable where
  records := []
  nextNumber := 1
  enabled := en
  scanners := Vector.replicate 5 scannerIdle

/-- The Merge Arbiter after a reset with the gate at `gate` (R74). -/
def mergeReset (gate : Option Infeed) : MergeArbiter where
  grant := none
  lastGranted := none
  train := 0
  gate := gate
  switch := none
  parkPending := true
  requests := Vector.replicate 3 none
  fault := false

end Sys2Proof.Machine
end

