-- ==== Sys2Proof/Machine/State.lean ====
section
/-! DEFINITION. The state of the part, one field for each block (00_scope.md, "Organization of the part"), the reasons a
step can stop, and the machine right after reset. -/

namespace Sys2Proof.Machine

/-- The whole state of the part. `reported` holds each station's state as last reported (R83); `sent`, `freeDraws` and
`pending` are the model's own: the messages sent so far, the count of free values drawn, and the queue of commands. -/
structure State where
  lineTime : LineTime
  link : LinkUnit
  plan : PlanStore
  field : FieldUnit
  track : TrackTable
  merge : MergeArbiter
  check : CheckStation
  mass : MassUnit
  wrap : WrapController
  label : LabelController
  buffer : BufferController
  lanes : Vector LaneEntry 6
  mode : ModeController
  settings : Vector Nat 33
  reported : Vector StationState 6
  sent : List Message
  freeDraws : Nat
  pending : List Instr
  deriving DecidableEq, Repr

/-- Why the machine stops with a fault: never. Every row of the table has an effect on every state, so there is no
constructor (safe: no command is cut short). -/
inductive Fault : Type
  deriving DecidableEq, Repr

/-- Why a command is refused by the model. -/
inductive Refusal
  /-- A row of the table with no meaning yet; raised by `exec` alone (safe: nothing is claimed of it). -/
  | notModelled (mnemonic : String)
  deriving DecidableEq, Repr

/-- The machine right after a full reset with every raw input inactive and the straps at 0 (R183; log entry 5). -/
def State.reset : State where
  lineTime := 0
  link := linkReset 0
  plan := ⟨[], defaultBases, defaultRecipes, defaultBands, []⟩
  field := fieldReset (Vector.replicate 59 false) false
  track := trackReset (Vector.replicate 3 true)
  merge := mergeReset none
  check := ⟨.empty, false, none⟩
  mass := ⟨none, 0, .none, false, none, none⟩
  wrap := ⟨Vector.replicate 2 none, Vector.replicate 2 (wrapperReset 0 1), []⟩
  label := labelReset 1
  buffer := bufferReset defaultWindows
  lanes := Vector.replicate 6 ⟨0, false, .unbound⟩
  mode := ⟨.stopped, none, none⟩
  settings := defaultSettings
  reported := Vector.replicate 6 .working
  sent := resetMessages
  freeDraws := 0
  pending := []

end Sys2Proof.Machine
end

