-- ==== Sys2Proof/Machine/Ops.lean ====
section
/-! DEFINITION. The named operations every block's rules are written over: reading and changing the blocks, reports and
counters, messages, places, moves, slots and captures. -/

namespace Sys2Proof.Machine

/-- What a meaning answers. -/
abbrev Answer := Host.Outcome State Fault Refusal

/-! ### Changing one block -/

def State.modLink (s : State) (f : LinkUnit → LinkUnit) : State := { s with link := f s.link }
def State.modPlan (s : State) (f : PlanStore → PlanStore) : State := { s with plan := f s.plan }
def State.modField (s : State) (f : FieldUnit → FieldUnit) : State := { s with field := f s.field }
def State.modTrack (s : State) (f : TrackTable → TrackTable) : State := { s with track := f s.track }
def State.modMerge (s : State) (f : MergeArbiter → MergeArbiter) : State := { s with merge := f s.merge }
def State.modCheck (s : State) (f : CheckStation → CheckStation) : State := { s with check := f s.check }
def State.modMass (s : State) (f : MassUnit → MassUnit) : State := { s with mass := f s.mass }
def State.modWrap (s : State) (f : WrapController → WrapController) : State := { s with wrap := f s.wrap }
def State.modLabel (s : State) (f : LabelController → LabelController) : State := { s with label := f s.label }
def State.modBuffer (s : State) (f : BufferController → BufferController) : State := { s with buffer := f s.buffer }
def State.modMode (s : State) (f : ModeController → ModeController) : State := { s with mode := f s.mode }

/-- Send one message on a station port or the dispatch link. -/
def State.send (s : State) (m : Message) : State := { s with sent := s.sent ++ [m] }

/-- The reply to a request of a kind: it carries the station address and the kind plus 128 (R192). -/
def State.reply (s : State) (kind : Nat) (code : Result) (body : ReplyBody) : Message :=
  .reply s.link.address (kind + 128) code body

/-! ### Reading the blocks -/

/-- A setting in force (R209). -/
def State.setting (s : State) (k : Setting) : Nat := tget s.settings k.idx

/-- An off-or-on setting is on (R209). -/
def State.settingOn (s : State) (k : Setting) : Bool := s.setting k == 1

/-- The filtered level of an input (R27). -/
def State.input (s : State) (i : Input) : Bool := tget s.field.filtered i.idx

/-- A place's entry (R36). -/
def State.place (s : State) (p : Place) : PlaceEntry := tget s.field.places p.idx

/-- Change a place's entry. -/
def State.modPlace (s : State) (p : Place) (f : PlaceEntry → PlaceEntry) : State :=
  s.modField fun u => { u with places := tmod u.places p.idx f }

/-- A zone's entry (R35). -/
def State.zone (s : State) (z : Zone) : ZoneEntry := tget s.field.zones z.idx

/-- Change a zone's entry. -/
def State.modZone (s : State) (z : Zone) (f : ZoneEntry → ZoneEntry) : State :=
  s.modField fun u => { u with zones := tmod u.zones z.idx f }

/-- A scanner (R58). -/
def State.scanner (s : State) (sc : Scanner) : ScannerState := tget s.track.scanners sc.idx

/-- Change a scanner. -/
def State.modScanner (s : State) (sc : Scanner) (f : ScannerState → ScannerState) : State :=
  s.modTrack fun t => { t with scanners := tmod t.scanners sc.idx f }

/-- A wrapper (R112). -/
def State.wrapper (s : State) (w : Side) : WrapperState := tget s.wrap.wrappers w.idx

/-- Change a wrapper. -/
def State.modWrapper (s : State) (w : Side) (f : WrapperState → WrapperState) : State :=
  s.modWrap fun u => { u with wrappers := tmod u.wrappers w.idx f }

/-- A staging entry (R112). -/
def State.staging (s : State) (k : Side) : Option StagingEntry := tget s.wrap.staging k.idx

/-- Set a staging entry. -/
def State.setStaging (s : State) (k : Side) (e : Option StagingEntry) : State :=
  s.modWrap fun u => { u with staging := tset u.staging k.idx e }

/-- Change a lane's entry (R154). -/
def State.modLane (s : State) (l : Lane) (f : LaneEntry → LaneEntry) : State := { s with lanes := tmod s.lanes l f }

/-- The record with a track number (R51). -/
def State.record? (s : State) (n : Nat) : Option Record := s.track.records.find? (·.number == n)

/-- Change the record with a track number. -/
def State.modRecord (s : State) (n : Nat) (f : Record → Record) : State :=
  s.modTrack fun t => { t with records := t.records.map fun r => if r.number == n then f r else r }

/-- The stage of a record. -/
def State.stageOf (s : State) (n : Nat) : Option Stage := (s.record? n).map (·.stage)

/-- The load reference of a record. -/
def State.refOf (s : State) (n : Nat) : Option LoadRef := (s.record? n).bind (·.ref)

/-- The Track Table applies a stage change to a record (R53). -/
def State.setStage (s : State) (n : Nat) (st : Stage) : State := s.modRecord n fun r => { r with stage := st }

/-- The move of a record in the move list (R39). -/
def State.move? (s : State) (n : Nat) : Option Move := s.field.moves.find? (·.track == n)

/-- Change the move of a record. -/
def State.modMove (s : State) (n : Nat) (f : Move → Move) : State :=
  s.modField fun u => { u with moves := u.moves.map fun m => if m.track == n then f m else m }

/-- Take the move of a record out of the move list. -/
def State.removeMove (s : State) (n : Nat) : State :=
  s.modField fun u => { u with moves := u.moves.filter fun m => m.track != n }

/-- The mode is RUN or DRAIN. -/
def State.working (s : State) : Bool := s.mode.mode == .run || s.mode.mode == .drain

/-- A deadline `n` cs from now. -/
def State.deadline (s : State) (n : Nat) : Deadline := ⟨s.lineTime + BitVec.ofNat 32 n, n⟩

/-! ### Lists of the line's parts -/

def allInfeeds : List Infeed := [.a, .b, .c]
def allSides : List Side := [.one, .two]
def allZones : List Zone := [.infeed .a, .infeed .b, .infeed .c, .centre, .buffer, .lanes]
def allScanners : List Scanner := [.entry .a, .entry .b, .entry .c, .check, .verify]
def allLanes : List Lane := [0, 1, 2, 3, 4, 5]
def allPositions : List Position := [0, 1, 2, 3, 4, 5, 6, 7, 8, 9, 10, 11, 12, 13, 14, 15]
def allStations : List Station := [.check, .wrapper .one, .wrapper .two, .label, .shuttle, .mergeGate]
def allLamps : List Lamp :=
  [.lane 0, .lane 1, .lane 2, .lane 3, .lane 4, .lane 5, .stop .a, .stop .b, .stop .c, .spur .check, .spur .finish, .fault]

/-! ### Reports and counters (R197, R199) -/

/-- What a report carries beside its kind and time. -/
structure Note where
  track : Option Nat := none
  load : Option Nat := none
  position : Option Nat := none
  detail : Nat := 0
  value : Option Int := none

/-- The note of a record: its track number and load reference, a detail code and a value. -/
def noteOf (n : Nat) (ref : Option LoadRef) (detail : Nat) (value : Option Int := none) : Note :=
  { track := some n, load := ref.map (·.load), position := ref.map (·.position), detail, value }

/-- The report a note makes at this line time. -/
def State.report (s : State) (k : ReportKind) (n : Note) : Report :=
  ⟨k, s.lineTime, n.track, n.load, n.position, n.detail, n.value⟩

/-- Raise a report (R197): dropped by the mask, appended with the attention line asserted, or dropped with the overflow flag
set. -/
def State.raise (s : State) (k : ReportKind) (n : Note) : State :=
  if tget s.link.mask k.idx then
    if s.link.reports.length < Config.reportCapacity then
      s.modLink fun u => { u with reports := u.reports ++ [s.report k n], attention := true }
    else s.modLink fun u => { u with overflow := true }
  else s

/-- Raise a counter (R199): saturating at 65,535, with COUNTER_HALF at 32,768 while the half mark is armed. -/
def State.count (s : State) (c : Counter) : State :=
  let e := tget s.link.counters c.idx
  if e.count < 65535 then
    if e.count == 32767 && e.armed then
      (s.modLink fun u => { u with counters := tset u.counters c.idx ⟨e.count + 1, false⟩ }).raise .counterHalf
        { detail := c.number, value := some 32768 }
    else s.modLink fun u => { u with counters := tset u.counters c.idx ⟨e.count + 1, e.armed⟩ }
  else s

/-- Enter a fault in a record's fault list, or count it lost when the list holds four (R54). -/
def Record.enterFault (r : Record) (c : Code) : Record :=
  if r.faults.length < 4 then { r with faults := r.faults ++ [c] }
  else { r with faultsLost := min 255 (r.faultsLost + 1) }

/-- Enter a fault in the fault list of the record with a track number (R54). -/
def State.enterFault (s : State) (n : Nat) (c : Code) : State := s.modRecord n fun r => r.enterFault c

/-! ### Places (R36, R37) -/

/-- How many pallets a place holds (R36). -/
def Place.capacity : Place → Nat
  | .infeed _ => 3
  | .spur _ => 3
  | .lane _ => 3
  | _ => 1

/-- Whether a place is covered (R37). -/
def State.covered (s : State) : Place → Bool
  | .infeed i => s.input (.entry i) || s.input (.head i)
  | .check => s.input .checkArrival || s.input .checkExit
  | .staging k => s.input (.staging k)
  | .wrapper k => s.input (.wrapper k)
  | .label => s.input .labelArrival || s.input .labelExit
  | .shuttle => s.input .shuttleLoaded
  | .position p => s.input (.position p)
  | .spur sp => s.input (.spurEntry sp) || s.input (.spurEnd sp)
  | .lane l => s.input (.laneEntry l) || s.input (.laneEnd l)

/-- How many pallets stand in a place: its occupants, or its lane count (R36). -/
def State.occupancy (s : State) : Place → Nat
  | .lane l => (tget s.lanes l).count
  | p => (s.place p).occupants.length

/-- The state of a place (R36). -/
def State.placeState (s : State) (p : Place) : PlaceState :=
  let e := s.place p
  if e.unknown then .unknown
  else if s.occupancy p == 0 && e.incoming.isEmpty && !e.clearing then .free
  else .occupied

/-- Whether a place has room (R36). -/
def State.hasRoom (s : State) (p : Place) : Bool :=
  let e := s.place p
  !e.unknown && !e.clearing && decide (s.occupancy p + e.incoming.length < p.capacity)

/-- Take a track number out of a place's occupants. -/
def State.leaveOccupants (s : State) (p : Place) (n : Nat) : State :=
  s.modPlace p fun e => { e with occupants := e.occupants.filter (· != n) }

/-- Take a track number out of a place's incoming list. -/
def State.leaveIncoming (s : State) (p : Place) (n : Nat) : State :=
  s.modPlace p fun e => { e with incoming := e.incoming.filter (· != n) }

/-! ### The capture (R99, R107) -/

/-- Close the capture: HUSH is sent, the window emptied, collecting cleared, the capture absent (R99). -/
def State.closeCapture (s : State) : State :=
  if s.mass.capture.isSome then
    (s.modMass fun m => { m with capture := none, settleEnd := none, limit := none }).send .hush
  else s

/-- End a zero capture without a new offset: status FAILED and ZERO_DONE with a detail and value (R107). -/
def State.failZero (s : State) (detail : Nat) (value : Option Int) : State :=
  (s.closeCapture.modMass fun m => { m with status := .failed }).raise .zeroDone { detail, value }

/-- A zero capture is open. -/
def State.zeroOpen (s : State) : Bool :=
  match s.mass.capture with
  | some c => c.purpose == .zero
  | none => false

/-- A place becomes UNKNOWN with PLACE_UNKNOWN raised; CHECK becoming UNKNOWN disturbs a zero capture (R38, R43, R108). Log entry 15.
That PLACE_UNKNOWN comes before the ZERO_DONE of the disturbance is the model's choice: log entry 8. -/
def State.markUnknown (s : State) (p : Place) (why : Int) : State :=
  let s := (s.modPlace p fun e => { e with unknown := true, clearing := false }).raise .placeUnknown
    { detail := p.number, value := some why }
  if p == .check && s.zeroOpen then s.failZero 5 none else s

/-- A place that gave up its last pallet becomes FREE when not covered and UNKNOWN when covered (R43, R44, R67). Log entry 15. -/
def State.vacate (s : State) (p : Place) (why : Int) : State :=
  if s.covered p then s.markUnknown p why
  else s.modPlace p fun e => { e with unknown := false, clearing := false }

/-! ### Moves (R39) -/

/-- The zone of the move kinds that the table of R39 pairs. -/
def moveZone : Place → Place → Option Zone
  | .infeed i, .check => some (.infeed i)
  | .check, .staging _ => some .centre
  | .check, .spur .check => some .centre
  | .staging _, .wrapper _ => some .centre
  | .wrapper _, .label => some .centre
  | .label, .spur .finish => some .centre
  | .label, .shuttle => some .buffer
  | .position _, .shuttle => some .buffer
  | .shuttle, .position _ => some .buffer
  | .shuttle, .lane _ => some .lanes
  | _, _ => none

/-- The station answerable for a move (R39). -/
def Move.station (m : Move) : Station :=
  match m.source, m.dest with
  | _, .wrapper w => .wrapper w
  | _, .label => .label
  | .label, .spur _ => .label
  | .infeed _, _ => .check
  | .check, _ => .check
  | _, _ => .shuttle

/-- The sensor that completes a move to a place (R39). -/
def Place.completedBy : Place → Option Input
  | .infeed _ => none
  | .check => some .checkArrival
  | .staging k => some (.staging k)
  | .wrapper k => some (.wrapper k)
  | .label => some .labelArrival
  | .shuttle => some .shuttleLoaded
  | .position p => some (.position p)
  | .spur sp => some (.spurEntry sp)
  | .lane l => some (.laneEntry l)

/-- A move to a place stands in the move list. -/
def State.movesTo (s : State) (p : Place) : Bool := s.field.moves.any fun m => m.dest == p

/-- The condition of a check station that has just lost its pallet: INCOMING when a move to CHECK stands in the list, else EMPTY (R90). -/
def State.checkLeft (s : State) : State :=
  s.modCheck fun c => { c with condition := if s.movesTo .check then .incoming else .empty, current := none }

/-- Ask for a move of a record to a place (R39): it enters the list WAITING and holds its destination's room, or it is not
entered, for want of room or of a pair in the table. -/
def State.askMove (s : State) (n : Nat) (dest : Place) : Option State :=
  match s.record? n with
  | none => none
  | some r =>
    match moveZone r.location dest with
    | none => none
    | some z =>
      if s.hasRoom dest && (s.move? n).isNone then
        let s := s.modField fun u => { u with moves := u.moves ++ [⟨n, r.location, dest, z, .waiting, 0, 0, false⟩] }
        let s := s.modRecord n fun r => { r with movingTo := some dest }
        let s := s.modPlace dest fun e => { e with incoming := e.incoming ++ [n] }
        some (if dest == .check && s.check.condition == .empty then s.modCheck fun c => { c with condition := .incoming } else s)
      else none

/-! ### Loads and slots (chapter 1) -/

/-- The stored load with a load id (R5). -/
def State.load? (s : State) (id : Nat) : Option Load := s.plan.loads.find? (·.id == id)

/-- The bound load of a lane (R5, R154). -/
def State.boundLoad (s : State) (l : Lane) : Option Load := s.plan.loads.find? (·.lane == some l)

/-- Change the load with a load id. -/
def State.modLoad (s : State) (id : Nat) (f : Load → Load) : State :=
  s.modPlan fun p => { p with loads := p.loads.map fun l => if l.id == id then f l else l }

/-- The slot at a load position (R7). -/
def Load.slotAt (l : Load) (pos : Nat) : Option Slot := if pos == 0 then none else l.slots[pos - 1]?

/-- The slot a load reference names. -/
def State.slot? (s : State) (ref : LoadRef) : Option Slot := (s.load? ref.load).bind (·.slotAt ref.position)

/-- Change the slot a load reference names. -/
def State.modSlot (s : State) (ref : LoadRef) (f : Slot → Slot) : State :=
  s.modLoad ref.load fun l => if ref.position == 0 then l else { l with slots := l.slots.modify (ref.position - 1) f }

/-- A slot that is DISPATCHED or SKIPPED. -/
def Slot.closed (sl : Slot) : Bool := sl.state == .dispatched || sl.state == .skipped

/-- Slots dispatched of a load (R5). -/
def Load.dispatched (l : Load) : Nat := (l.slots.filter (·.state == .dispatched)).length

/-- Slots of a load in SKIPPED (R24). -/
def Load.skipped (l : Load) : Nat := (l.slots.filter (·.state == .skipped)).length

/-- The completion test (R6). -/
def Load.complete (l : Load) : Bool := l.slots.length == l.planned && l.slots.all (·.closed)

/-- A lane's number 1 to 6, or 0 for none. -/
def laneNumber : Option Lane → Nat
  | some l => l.val + 1
  | none => 0

/-- Make the completion test of a load and complete it with LOAD_COMPLETE (R6). -/
def State.testComplete (s : State) (id : Nat) : State :=
  match s.load? id with
  | some l =>
    if l.complete && l.status != .complete then
      (s.modLoad id fun l => { l with status := .complete }).raise .loadComplete
        { load := some id, detail := laneNumber l.lane, value := some l.dispatched }
    else s
  | none => s

/-- The load and load position that carry a tag: the tag index (R9). -/
def State.tagIndex (s : State) (t : Text) : Option LoadRef :=
  s.plan.loads.findSome? fun l => (l.slots.findIdx? (·.tag == t)).map fun i => ⟨l.id, i + 1⟩

/-- The Plan Store's answers to a match (R11): CLAIMED with the load id and load position, TAKEN with them and the slot's state, or
NOT_FOUND. -/
inductive MatchAnswer | claimed (ref : LoadRef) | taken (ref : LoadRef) (state : SlotState) | notFound
  deriving DecidableEq, Repr

/-- Look up a tag and, in the same act, claim an EXPECTED slot for a record (R11). -/
def State.claim (s : State) (t : Text) (n : Nat) : State × MatchAnswer :=
  match s.tagIndex t with
  | none => (s, .notFound)
  | some ref =>
    match s.slot? ref with
    | some sl =>
      if sl.state == .expected then
        (s.modSlot ref fun sl => { sl with state := .claimed, claimant := some n }, .claimed ref)
      else (s, .taken ref sl.state)
    | none => (s, .notFound)

/-- Report a reject of a record's pallet (R12): its slot returns to EXPECTED with its reject count raised, its load reference
is removed, and REJECT is raised with the code given. -/
def State.reject (s : State) (n : Nat) (c : Code) : State :=
  match s.refOf n with
  | some ref =>
    let s := s.modSlot ref fun sl => { sl with state := .expected, claimant := none, rejects := min 255 (sl.rejects + 1) }
    let rejects := ((s.slot? ref).map (·.rejects)).getD 0
    (s.modRecord n fun r => { r with ref := none }).raise .reject (noteOf n (some ref) c.number (some rejects))
  | none => s.raise .reject (noteOf n none c.number)

/-! ### Scanner reads (R58) -/

/-- Send the next waiting read of a scanner when none is outstanding: READ is sent and its answer limit starts (R58). It waits
while the answer to an ended read may still come (log entry 10). -/
def State.sendRead (s : State) (sc : Scanner) : State :=
  match (s.scanner sc).outstanding, (s.scanner sc).ended, (s.scanner sc).waiting with
  | none, none, rd :: rest =>
    (s.modScanner sc fun _ => ⟨some (rd, s.setting .ackLimit), rest, none⟩).send
      (.read sc (match rd.purpose with | .verify f => some f | _ => none))
  | _, _, _ => s

/-- Ask a scanner for a read (R58). -/
def State.askRead (s : State) (sc : Scanner) (rd : Read) : State :=
  (s.modScanner sc fun e => { e with waiting := e.waiting ++ [rd] }).sendRead sc

/-- The reads of a scanner without those of a record: the waiting ones are dropped unsent, and the outstanding one is no longer
so, its READ kept with its time left until its answer or its limit (R67, R87, R149; log entry 10). -/
def ScannerState.without (e : ScannerState) (n : Nat) : ScannerState :=
  let waiting := e.waiting.filter fun rd => rd.track != n
  match e.outstanding with
  | some (rd, left) => if rd.track == n then ⟨none, waiting, some left⟩ else { e with waiting }
  | none => { e with waiting }

/-- End a record's reads at a scanner (R67, R87, R149). -/
def State.endReads (s : State) (sc : Scanner) (n : Nat) : State := s.modScanner sc fun e => e.without n

/-! ### The end of a reset and of a halt -/

/-- Move a deadline later by the time spent halted: it is due its remaining time from now (R181). -/
def Deadline.anchor (d : Deadline) (now : LineTime) : Deadline := { d with due := now + BitVec.ofNat 32 d.left }

end Sys2Proof.Machine
end

