-- ==== Sys2Proof/Machine/Operands.lean ====
section
/-! DEFINITION. The operand forms of a request: its payload read field by field, high octet first (R205). The layouts the
spec does not give are the model's (log entry 20). -/

namespace Sys2Proof.Machine

/-- A reader takes a field off the front of a payload, or fails when the payload is too short (R205). -/
abbrev Reader (α : Type) := List Octet → Option (α × List Octet)

/-- The next `n` octets. -/
def takeOctets : Nat → Reader (List Octet)
  | 0, p => some ([], p)
  | _ + 1, [] => none
  | n + 1, o :: p => (takeOctets n p).map fun (t, rest) => (o :: t, rest)

/-- Octets as a number, high octet first (R205). -/
def numberOf (t : List Octet) : Nat := t.foldl (fun n o => 256 * n + o.toNat) 0

/-- A number of `n` octets (R205). -/
def readNat (n : Nat) : Reader Nat := fun p => (takeOctets n p).map fun (t, rest) => (numberOf t, rest)

/-- A signed number of four octets, in two's complement (R205). -/
def readInt : Reader Int := fun p => (takeOctets 4 p).map fun (t, rest) => ((BitVec.ofNat 32 (numberOf t)).toInt, rest)

/-- Two fields one after the other. -/
def readPair {α β : Type} (a : Reader α) (b : Reader β) : Reader (α × β) := fun p =>
  match a p with
  | some (x, rest) => (b rest).map fun (y, rest) => ((x, y), rest)
  | none => none

/-- A field changed by a function. -/
def readMap {α β : Type} (f : α → β) (a : Reader α) : Reader β := fun p => (a p).map fun (x, rest) => (f x, rest)

/-- `n` fields of one form. -/
def readMany {α : Type} (a : Reader α) : Nat → Reader (List α)
  | 0, p => some ([], p)
  | n + 1, p =>
    match a p with
    | some (x, rest) => (readMany a n rest).map fun (xs, rest) => (x :: xs, rest)
    | none => none

/-- A string of varying length: a length octet, and that many octets (R205). One longer than its maximum is refused by the checks
of the request that carries it, in their order (R16, R20). -/
def readText : Reader Text := fun p =>
  match readNat 1 p with
  | some (n, rest) => takeOctets n rest
  | none => none

/-- A list: a count octet, and that many entries (R205). One longer than its maximum is refused by the checks of the request that
carries it, in their order (R20). -/
def readList {α : Type} (a : Reader α) : Reader (List α) := fun p =>
  match readNat 1 p with
  | some (n, rest) => readMany a n rest
  | none => none

/-- No fields. -/
def readNothing : Reader Unit := fun p => some ((), p)

/-- An article line of SLOT_ADD (section 12.7). -/
def readLine : Reader ArticleLine := readMap (fun (a, c) => ⟨a, c⟩) (readPair (readNat 2) (readNat 2))

/-- The fields of a SLOT_ADD payload (section 12.7). -/
def readSlot : Reader (Nat × Nat × Text × Nat × Nat × List ArticleLine × List Text) :=
  readPair (readNat 2) (readPair (readNat 1) (readPair (takeOctets 16) (readPair (readNat 1) (readPair (readNat 1)
    (readPair (readList readLine) (readList readText))))))

/-- An entry of BANDS (log entry 20). -/
def readBand : Reader Band :=
  readMap (fun (e, f, p) => ⟨e, f, p⟩) (readPair (readNat 4) (readPair (readNat 4) (readNat 1)))

/-- An entry of BASES (log entry 20). -/
def readBase : Reader Base :=
  readMap (fun (t, l, w) => ⟨t, l, w⟩) (readPair (readNat 4) (readPair (readNat 2) (readNat 2)))

/-- An entry of RECIPES (log entry 20); a top-sheet octet other than 0 or 1 makes the prestretch one that no recipe may have,
so that the table is refused. -/
def readRecipe : Reader Recipe :=
  readMap (fun (b, t, o, p, s, k) => ⟨b, t, o, if s ≤ 1 then p else 65536, s == 1, k⟩)
    (readPair (readNat 1) (readPair (readNat 1) (readPair (readNat 1) (readPair (readNat 2) (readPair (readNat 1) (readNat 1))))))

/-- An entry of WINDOWS (log entry 20). -/
def readWindow : Reader Window := readMap (fun (b, n) => ⟨b, n⟩) (readPair (readNat 1) (readNat 1))

/-- A table's contents: entries of `size` octets to the end of the payload. -/
def readEntries {α : Type} (size : Nat) (a : Reader α) : Reader (List α) := fun p => readMany a (p.length / size) p

/-- Run a request on the fields of its payload. A payload that its fields do not fill exactly makes the request not whole, so
that its fields are not read (R192, R205). Log entry 37. -/
def withFields {α : Type} (broadcast : Bool) (a : Reader α) (unread : α) (p : List Octet) (run : Req → α → Answer) : Answer :=
  match a p with
  | some (x, []) => run ⟨broadcast, true⟩ x
  | _ => run ⟨broadcast, false⟩ unread

end Sys2Proof.Machine
end

