-- ==== Sys2Proof/Machine/Layout.lean ====
section
/-! DEFINITION. The octets of what the part sends on the dispatch link (chapter 12): the check, the frame, the report record,
and the payload of every reply. The spec gives the layouts of TAKE_REPORTS and READ_PALLET; those of the other replies are the
model's (log entry 20). -/

namespace Sys2Proof.Machine

/-- One octet into the remainder of the check (R190). -/
def checkOctet (r : BitVec 16) (o : Octet) : BitVec 16 :=
  (List.range 8).foldl (fun r _ => if r.msb then (r <<< 1) ^^^ 0x1021#16 else r <<< 1) (r ^^^ ((o.setWidth 16) <<< 8))

/-- The check of a run of octets (R190). -/
def checkOf (t : List Octet) : BitVec 16 := t.foldl checkOctet 0xFFFF#16

/-- A number in one, two and four octets, high octet first (R205). -/
def octets1 (n : Nat) : List Octet := [BitVec.ofNat 8 n]
def octets2 (n : Nat) : List Octet := [BitVec.ofNat 8 (n / 256), BitVec.ofNat 8 n]
def octets4 (n : Nat) : List Octet :=
  [BitVec.ofNat 8 (n / 16777216), BitVec.ofNat 8 (n / 65536), BitVec.ofNat 8 (n / 256), BitVec.ofNat 8 n]

/-- A signed number in four octets, two's complement (R205). -/
def octetsInt (v : Int) : List Octet := octets4 (BitVec.ofInt 32 v).toNat

/-- A frame (R206). -/
def frameOf (address kind : Nat) (payload : List Octet) : List Octet :=
  let body := octets1 address ++ octets1 kind ++ octets2 payload.length ++ payload
  Config.startOctet :: (body ++ octets2 (checkOf body).toNat)

/-- A presence octet or pair: bit k is set when flag k is (sections 12.5 and 12.6). -/
def presence (flags : List Bool) : Nat := (flags.zipIdx.map fun (b, k) => if b then 2 ^ k else 0).sum

/-- A report record, 16 octets (section 12.5). A report with a load id and no load position sets the load reference's presence
bit and sends position 0 (log entry 50). -/
def Report.octets (r : Report) : List Octet :=
  octets1 (r.kind.idx.val + 1) ++ octets1 (presence [r.track.isSome, r.load.isSome, r.value.isSome])
    ++ octets4 r.time.toNat ++ octets1 (r.track.getD 0) ++ octets2 (r.load.getD 0) ++ octets1 (r.position.getD 0)
    ++ octets2 r.detail ++ octetsInt (r.value.getD 0)

/-- The plan mark's number (R208). -/
def markNumber : Option PlanMark → Nat
  | none => 0
  | some .unplanned => 1
  | some .duplicate => 2

/-- The number of a move's state in the READ_PALLET reply (section 12.6). -/
def moveNumber : Option MoveState → Nat
  | none => 0
  | some .waiting => 1
  | some .inFlight => 2
  | some .lost => 3

/-- The overhang octet (section 12.6). -/
def Overhang.octet (o : Overhang) : Nat := presence [o.front, o.back, o.left, o.right]

/-- The fault codes of the READ_PALLET reply, 0 when unused (section 12.6). -/
def faultOctets (l : List Code) : List Octet := ((l.map Code.number ++ [0, 0, 0, 0]).take 4).flatMap octets1

/-- The READ_PALLET reply after its result code, 77 octets (section 12.6). -/
def readPalletFields (r : Record) (move : Option MoveState) (left : Option Nat) : List Octet :=
  octets2 (presence [r.tag.isSome, r.ref.isSome, r.movingTo.isSome, r.height.isSome, r.overhang.isSome, r.mass.isSome,
        r.deviation.isSome, r.verdict.isSome, r.wrapper.isSome, r.filmLength.isSome, r.filmMass.isSome,
        r.shippedGross.isSome, r.job.isSome, r.deferral.isSome])
    ++ octets1 r.number
    ++ r.tag.getD (List.replicate 16 0)
    ++ octets1 r.infeed.number
    ++ octets4 r.arrival.toNat
    ++ octets2 ((r.ref.map (·.load)).getD 0) ++ octets1 ((r.ref.map (·.position)).getD 0)
    ++ octets1 (markNumber r.mark) ++ octets1 r.stage.number ++ octets1 r.headMark.toNat
    ++ octets1 r.location.number ++ octets1 ((r.movingTo.map Place.number).getD 0)
    ++ octets2 (r.height.getD 0) ++ octets1 ((r.overhang.map Overhang.octet).getD 0)
    ++ octets4 (r.mass.getD 0)
    ++ octetsInt ((r.deviation.map (·.1)).getD 0) ++ octets4 ((r.deviation.map (·.2)).getD 0)
    ++ octets1 ((r.verdict.map Code.number).getD 0)
    ++ octets1 r.faults.length ++ faultOctets r.faults ++ octets1 r.faultsLost
    ++ octets1 ((r.wrapper.map Side.number).getD 0) ++ octets1 r.wrapAttempts
    ++ octets2 (r.filmLength.getD 0) ++ octets4 (r.filmMass.getD 0) ++ octets4 (r.shippedGross.getD 0)
    ++ octets1 (r.job.getD 0) ++ octets1 r.labelAttempts
    ++ octets4 ((r.deferral.map (·.due.toNat)).getD 0)
    ++ octets1 (moveNumber move) ++ octets4 (left.getD 0)

/-! ### The codes of the replies whose layout is the model's (R208; log entry 20) -/

/-- A flag as one octet, 0 or 1. -/
def octetsFlag (b : Bool) : List Octet := octets1 b.toNat

/-- A string of varying length, after its length octet (R205). -/
def octetsText (t : Text) : List Octet := octets1 t.length ++ t

/-- A list, after its count octet (R205). -/
def octetsList {α : Type} (f : α → List Octet) (t : List α) : List Octet := octets1 t.length ++ t.flatMap f

/-- A load reference, zeros when absent (R205). -/
def octetsRef (r : Option LoadRef) : List Octet := octets2 ((r.map (·.load)).getD 0) ++ octets1 ((r.map (·.position)).getD 0)

/-- Place state number 0 to 2, in the order of R36. -/
def PlaceState.number : PlaceState → Nat
  | .free => 0 | .occupied => 1 | .unknown => 2

/-- Slot state number 0 to 4, in the order of R7. -/
def SlotState.number : SlotState → Nat
  | .expected => 0 | .claimed => 1 | .finished => 2 | .dispatched => 3 | .skipped => 4

/-- Load state number 0 to 2, in the order of R5. -/
def LoadStatus.number : LoadStatus → Nat
  | .stored => 0 | .bound => 1 | .complete => 2

/-- Zero status number 0 to 3, in the order of R93. -/
def ZeroStatus.number : ZeroStatus → Nat
  | .none => 0 | .running => 1 | .done => 2 | .failed => 3

/-- Pattern number 0 to 3, in the order of R31. -/
def Pattern.number : Pattern → Nat
  | .off => 0 | .steady => 1 | .flashSlow => 2 | .flashFast => 3

/-- The shuttle's condition as a number 0 to 2, in the order of R159. -/
def ShuttleCondition.number : ShuttleCondition → Nat
  | .idle => 0 | .picking => 1 | .carrying => 2

/-! ### The entries of the tables and lists -/

/-- An entry of BANDS, BASES, RECIPES and WINDOWS, in the form SET_TABLE takes it (R196). -/
def Band.octets (b : Band) : List Octet := octets4 b.edge ++ octets4 b.fixed ++ octets1 b.perMille
def Base.octets (b : Base) : List Octet := octets4 b.tare ++ octets2 b.length ++ octets2 b.width
def Recipe.octets (r : Recipe) : List Octet :=
  octets1 r.bottom ++ octets1 r.top ++ octets1 r.overlap ++ octets2 r.prestretch ++ octetsFlag r.topSheet ++ octets1 r.tension
def Window.octets (w : Window) : List Octet := octets1 w.base ++ octets1 w.size

/-- An entry of READ_LOAD of load id 0 (R25). -/
def LoadRow.octets (r : LoadRow) : List Octet :=
  octets1 (presence [r.lane.isSome]) ++ octets2 r.id ++ octets1 r.status.number ++ octets1 (laneNumber r.lane)
    ++ octets1 r.planned ++ octets1 r.held ++ octets1 r.dispatched

/-- A slot summary of READ_LOAD (R25). -/
def SlotRow.octets (r : SlotRow) : List Octet :=
  octets1 (presence [r.claimant.isSome]) ++ octets1 r.position ++ r.tag ++ octets1 r.state.number
    ++ octets1 (r.claimant.getD 0) ++ octets1 r.rejects ++ octets1 r.base ++ octets1 r.recipe ++ octets4 r.gross
    ++ octets4 r.net

/-- An article line of a slot, as in SLOT_ADD (section 12.7). -/
def ArticleLine.octets (l : ArticleLine) : List Octet := octets2 l.article ++ octets2 l.count

/-- The whole slot of READ_LOAD's DETAIL form (R7, R25). -/
def slotOctets (position : Nat) (sl : Slot) : List Octet :=
  octets1 (presence [sl.claimant.isSome]) ++ octets1 position ++ sl.tag ++ octets1 sl.base ++ octets1 sl.recipe
    ++ octetsList ArticleLine.octets sl.lines ++ octetsList octetsText sl.texts ++ octets4 sl.gross ++ octets4 sl.net
    ++ octets1 sl.state.number ++ octets1 (sl.claimant.getD 0) ++ octets1 sl.rejects

/-- An entry of LIST_PLACES (R49): a lane's count stands where another place's count of occupants does. -/
def PlaceRow.octets (r : PlaceRow) : List Octet :=
  octets1 r.number ++ octets1 r.state.number ++ octetsFlag r.covered
    ++ (match r.laneCount with | some c => octets1 c | none => octetsList octets1 r.occupants)
    ++ octetsList octets1 r.incoming

/-- An entry of READ_ZONES (R50). -/
def ZoneRow.octets (r : ZoneRow) : List Octet :=
  octets1 (presence [r.last.isSome]) ++ octets1 r.state.number ++ octets1 r.goodRun ++ octetsFlag r.drive
    ++ octets4 (r.last.getD 0) ++ octets2 r.expected ++ octetsFlag r.latch ++ octets1 r.inFlight ++ octets1 r.lost

/-- A summary of LIST_PALLETS (R71, R208). -/
def PalletRow.octets (r : PalletRow) : List Octet :=
  octets1 (presence [r.ref.isSome, r.verdict.isSome]) ++ octets1 r.number ++ octets1 r.stage.number ++ octets1 r.infeed.number
    ++ octets1 r.location.number ++ octetsRef r.ref ++ octets1 (markNumber r.mark)
    ++ octets1 ((r.verdict.map Code.number).getD 0)

/-- A lane's entry in READ_LANE (R172, R208). The door level is 1 for OPEN and 0 for SHUT (log entry 20). -/
def LaneRow.octets (r : LaneRow) : List Octet :=
  octets1 (presence [r.load.isSome, r.next.isSome, r.claiming.isSome]) ++ octets1 r.status.number ++ octets1 r.beacon.number
    ++ octets2 ((r.load.map (·.1)).getD 0) ++ octets1 ((r.load.map (·.2.number)).getD 0)
    ++ octets1 (r.next.getD 0) ++ octetsFlag r.awaitsSlot
    ++ octets1 ((r.claiming.map (·.1)).getD 0) ++ octets1 ((r.claiming.map (·.2.number)).getD 0)
    ++ octets1 r.count ++ octets1 r.releases ++ octetsFlag r.doorOpen ++ octetsFlag r.halt ++ Window.octets r.window
    ++ octets1 r.held

/-- A shuttle task: the track number, 1 for a store or 2 for a release, the position or lane number, 1 for the pickup leg or 2
for the delivery leg; zeros when absent (R151). -/
def taskOctets : Option ShuttleTask → List Octet
  | none => [0, 0, 0, 0]
  | some t =>
    octets1 t.track
      ++ (match t.target with
          | .store p => octets1 1 ++ octets1 (p.val + 1)
          | .release l => octets1 2 ++ octets1 (l.val + 1))
      ++ octets1 (match t.leg with | .pickup => 1 | .delivery => 2)

/-- The fields of a reply after its result code, in the order the request's entry names them (R192, R205, R208). The layouts of
TAKE_REPORTS and READ_PALLET are the spec's; the others are the model's (log entry 20): a value goes in four octets whatever the
request, ARTICLE_PUT answers 1 for REPLACED and 0 for ADDED, a half mark is 1 when spent and 0 when armed, and the 34 rows of
LIST_PLACES, the six of READ_ZONES and the eleven counters of READ_COUNTERS stand without a count octet. -/
def replyFields : ReplyBody → List Octet
  | .nothing => []
  | .value v => octetsInt v
  | .identity vendor part revision address identity mode zero valid queued =>
    octets1 (presence [identity.isSome]) ++ vendor ++ part ++ octets1 revision ++ octets1 address
      ++ identity.getD (List.replicate 16 0) ++ octets1 mode.number ++ octets1 zero.number ++ octetsFlag valid ++ octets1 queued
  | .setting value dflt low high => octetsInt value ++ octetsInt dflt ++ octetsInt low ++ octetsInt high
  | .bands t => t.flatMap Band.octets
  | .bases t => t.flatMap Base.octets
  | .recipes t => t.flatMap Recipe.octets
  | .windows t => t.flatMap Window.octets
  | .mask t => t.flatMap octetsFlag
  | .reports taken overflow left =>
    octets1 taken.length ++ octetsFlag overflow ++ octets1 left ++ taken.flatMap Report.octets
  | .counters t => t.flatMap (fun e => octets2 e.count) ++ t.flatMap (fun e => octetsFlag !e.armed)
  | .articlePut replaced count => octetsFlag replaced ++ octets2 count
  | .articleDrop count => octets2 count
  | .article a count => octets2 a.code ++ octets4 a.mass ++ octetsText a.name ++ octets2 count
  | .slotAdded gross net state => octets4 gross ++ octets4 net ++ octets1 state.number
  | .loadClosed dispatched skipped => octets1 dispatched ++ octets1 skipped
  | .loads t => octetsList LoadRow.octets t
  | .load row heightLimit shipDate slots more =>
    row.octets ++ octets2 heightLimit ++ shipDate ++ octetsList SlotRow.octets slots ++ octetsFlag more
  | .slot position sl => slotOctets position sl
  | .place st => octets1 st.number
  | .places t waiting inFlight lost => t.flatMap PlaceRow.octets ++ octets1 waiting ++ octets1 inFlight ++ octets1 lost
  | .zones t => t.flatMap ZoneRow.octets
  | .infeed enabled pallets oldest =>
    octets1 (presence [oldest.isSome]) ++ octetsFlag enabled ++ octets1 pallets ++ octets1 ((oldest.map Stage.number).getD 0)
  | .pallet r move left => readPalletFields r move left
  | .pallets t admitted held time more =>
    octetsList PalletRow.octets t ++ octets1 admitted ++ octets1 held ++ octets4 time.toNat ++ octetsFlag more
  | .removed ref place st => octets1 (presence [ref.isSome]) ++ octetsRef ref ++ octets1 place ++ octets1 st.number
  | .station st => octets1 st.number
  | .zero status offset => octets1 status.number ++ octetsInt offset
  | .forced lane releasable => octets1 lane ++ octetsFlag releasable
  | .lane st => octets1 st.number
  | .lanes t shuttle task reported exitPallet lastServed deadlock =>
    octetsList LaneRow.octets t ++ octets1 (presence [task.isSome, exitPallet.isSome]) ++ octets1 shuttle.number
      ++ taskOctets task ++ octets1 reported.number ++ octets1 (exitPallet.getD 0) ++ octets1 lastServed ++ octetsFlag deadlock
  | .mode m => octets1 m.number
  | .reset deleted m => octets1 deleted ++ octets1 m.number

/-- The payload of a reply: its result code and the fields that follow (R192, R206). -/
def replyPayload (code : Result) (body : ReplyBody) : List Octet := octets1 code.number ++ replyFields body

/-- The octets a message sends on the dispatch link: the frame of a reply, and none for a station port's message (R192, R206). -/
def Message.octets : Message → List Octet
  | .reply address kind code body => frameOf address.toNat kind (replyPayload code body)
  | _ => []

/-- Every octet the part has sent on the dispatch link. -/
def State.linkOctets (s : State) : List Octet := s.sent.flatMap Message.octets

end Sys2Proof.Machine
end

