-- ==== Sys2Proof/Machine/Flags.lean ====
section
/-! DEFINITION. The derived signals: what the spec makes follow from the rest of the state (drives, lamps, reported
states, requests, lane states, load order, the deadlock condition, quietness), `settle`, which brings each up to date at the
end of a step and raises the reports of those that changed, and `serve`, which runs a request. -/

namespace Sys2Proof.Machine

/-! ### Load order and the choice of positions (R153, R157, R158) -/

/-- The next position of a load: the lowest whose slot is neither DISPATCHED nor SKIPPED, or the one after the slots held
while the load is not whole (R157). -/
def Load.nextPosition (l : Load) : Option Nat :=
  match l.slots.findIdx? (fun sl => !sl.closed) with
  | some i => some (i + 1)
  | none => if l.slots.length < l.planned then some (l.slots.length + 1) else none

/-- The state a lane derives from its own state (R155). -/
def State.laneStatus (s : State) (l : Lane) : LaneStatus :=
  let e := tget s.lanes l
  if (s.boundLoad l).isNone then .unbound
  else if e.halt then .halted
  else if !s.input (.laneDoor l) then .doorShut
  else if e.count == 3 then .full
  else .ready

/-- The number of releases bound for a lane (R158). -/
def State.releasesTo (s : State) (l : Lane) : Nat := (s.buffer.releases.filter (·.lane == l)).length

/-- The load of a record, and its bound lane. -/
def State.boundLane (s : State) (r : Record) : Option (Load × LoadRef × Lane) :=
  match r.ref with
  | none => none
  | some ref =>
    match s.load? ref.load with
    | none => none
    | some l => l.lane.map fun ln => (l, ref, ln)

/-- A LOST move to a lane place stands in the move list. -/
def State.lostTo (s : State) (p : Place) : Bool := s.field.moves.any fun m => m.dest == p && m.state == .lost

/-- The lane a record's pallet is releasable into now, if any (R158). -/
def State.releasable (s : State) (r : Record) : Option Lane :=
  match s.boundLane r with
  | none => none
  | some (l, ref, ln) =>
    if (l.nextPosition == some ref.position || s.buffer.forced.contains r.number)
        && s.laneStatus ln == .ready
        && decide ((tget s.lanes ln).count + s.releasesTo ln < 3)
        && !(s.place (.lane ln)).unknown
        && !s.lostTo (.lane ln)
    then some ln else none

/-- A position lies in a lane window (R152). -/
def windowHolds (w : Window) (p : Position) : Bool := decide (w.base ≤ p.val + 1 ∧ p.val + 1 < w.base + w.size)

/-- A position is open: its place FREE and its reserved mark clear (R151). -/
def State.isOpen (s : State) (p : Position) : Bool :=
  s.placeState (.position p) == .free && (tget s.buffer.reserved p).isNone

/-- A position in no window (R152). -/
def State.shared (s : State) (p : Position) : Bool := allLanes.all fun l => !windowHolds (tget s.buffer.windows l) p

/-- The position chosen for a record's pallet, or none when it has no position (R153). -/
def State.choosePosition (s : State) (r : Record) : Option Position :=
  let sharedOne := allPositions.find? fun p => s.shared p && s.isOpen p
  match s.boundLane r with
  | some (_, _, ln) =>
    match allPositions.find? fun p => windowHolds (tget s.buffer.windows ln) p && s.isOpen p with
    | some p => some p
    | none => sharedOne
  | none => sharedOne

/-! ### Stations (R83, R116, R131, R159) -/

/-- The shuttle is waiting: CARRYING with no delivery move in the move list (R159). -/
def State.shuttleWaiting (s : State) : Bool :=
  match s.buffer.task with
  | some t => t.leg == .delivery && (s.field.moves.all fun m => !(m.track == t.track && m.source == .shuttle))
  | none => false

/-- The state a station reports (R83, R116, R131, R159). -/
def State.stationState (s : State) : Station → StationState
  | .check => if s.check.fault then .faulted else if s.check.condition == .blocked then .blocked else .working
  | .wrapper w =>
    match (s.wrapper w).status with
    | .faulted => .faulted
    | .stalled => .stalled
    | _ => .working
  | .label => if s.label.fault.isSome then .faulted else if s.label.condition == .blocked then .blocked else .working
  | .shuttle => if s.buffer.fault then .faulted else if s.shuttleWaiting then .blocked else .working
  | .mergeGate => if s.merge.fault then .faulted else .working

/-- Raise STATION_CHANGE for a station whose reported state has changed (R83). -/
def State.settleStation (s : State) (st : Station) : State :=
  let now := s.stationState st
  if tget s.reported st.idx == now then s
  else ({ s with reported := tset s.reported st.idx now } : State).raise .stationChange
    { detail := st.number, value := some now.number }

/-- A station's reported state follows without STATION_CHANGE (R91; log entry 53). -/
def State.followStation (s : State) (st : Station) : State := { s with reported := tset s.reported st.idx (s.stationState st) }

/-- Raise STATION_CHANGE for every station whose reported state has changed. -/
def State.settleStations (s : State) : State := allStations.foldl State.settleStation s

/-! ### The grant and the requests (R75, R79) -/

/-- The granted record has left the CHECK place's occupant list by its move out of CHECK (R79). -/
def State.leftCheck (s : State) (r : Record) : Bool :=
  !(s.place .check).occupants.contains r.number &&
    match r.location with
    | .infeed _ => false
    | _ => true

/-- Release the grant when its record has left CHECK with the exit sensor clear, or is deleted (R79). -/
def State.settleGrant (s : State) : State :=
  match s.merge.grant with
  | none => s
  | some g =>
    match s.record? g.track with
    | none => s.modMerge fun m => { m with grant := none }
    | some r =>
      if s.leftCheck r && !s.input .checkExit then s.modMerge fun m => { m with grant := none } else s

/-- The oldest record of an infeed (R65). -/
def State.oldest (s : State) (i : Infeed) : Option Record :=
  match (s.place (.infeed i)).occupants with
  | [] => none
  | n :: _ => s.record? n

/-- An infeed requests the check station (R75). -/
def State.requests (s : State) (i : Infeed) : Bool :=
  (match s.oldest i with | some r => r.stage == .ready | none => false)
    && tget s.track.enabled i.idx && !(s.place (.infeed i)).unknown

/-- Begin or end an infeed's request (R75). -/
def State.settleRequest (s : State) (i : Infeed) : State :=
  match s.requests i, tget s.merge.requests i.idx with
  | true, none => s.modMerge fun m => { m with requests := tset m.requests i.idx (some ⟨s.lineTime, 0⟩) }
  | false, some _ => s.modMerge fun m => { m with requests := tset m.requests i.idx none }
  | _, _ => s

/-- Begin or end every infeed's request. -/
def State.settleRequests (s : State) : State := allInfeeds.foldl State.settleRequest s

/-! ### Lanes and deadlock (R155, R168) -/

/-- Raise LANE_CHANGE for a lane whose state has changed (R155). -/
def State.settleLane (s : State) (l : Lane) : State :=
  let now := s.laneStatus l
  if (tget s.lanes l).status == now then s
  else (s.modLane l fun e => { e with status := now }).raise .laneChange
    { load := (s.boundLoad l).map (·.id), detail := l.val + 1, value := some now.number }

/-- Raise LANE_CHANGE for every lane whose state has changed. -/
def State.settleLanes (s : State) : State := allLanes.foldl State.settleLane s

/-- The number of HELD pallets (R168). -/
def State.heldCount (s : State) : Nat := (s.track.records.filter (·.stage == .held)).length

/-- The record in deadlock: the label-exit pallet, when the deadlock condition holds (R168). -/
def State.deadlocked (s : State) : Option Record :=
  match s.buffer.exitPallet.bind s.record? with
  | none => none
  | some r =>
    if (s.releasable r).isNone && (s.choosePosition r).isNone && s.buffer.task.isNone
        && (s.track.records.all fun h => h.stage != .held || (s.releasable h).isNone)
    then some r else none

/-- Set the deadlock flag with DEADLOCK raised when the condition comes to hold, and clear it when it ceases (R168). -/
def State.settleDeadlock (s : State) : State :=
  match s.deadlocked with
  | some r =>
    if s.buffer.deadlock then s
    else (s.modBuffer fun b => { b with deadlock := true }).raise .deadlock
      (noteOf r.number r.ref (laneNumber ((s.boundLane r).map (·.2.2))) (some s.heldCount))
  | none => if s.buffer.deadlock then s.modBuffer fun b => { b with deadlock := false } else s

/-! ### The print limit (R135) -/

/-- The job of the label unit's pallet in the printer job list. -/
def State.palletJob (s : State) : Option Job :=
  s.label.pallet.bind fun p => s.label.jobs.find? (·.track == p.track)

/-- The print limit runs: PRINT_WAIT, the pallet's job TAKEN, LABEL not FAULTED (R135). -/
def State.printRuns (s : State) : Bool :=
  s.label.condition == .printWait && s.label.fault.isNone
    && (match s.palletJob with | some j => j.state == .taken | none => false)

/-- Start the print limit afresh or stop it (R135). -/
def State.settlePrint (s : State) : State :=
  match s.printRuns, s.label.print with
  | true, none => s.modLabel fun u => { u with print := some (s.setting .applyLimit) }
  | false, some _ => s.modLabel fun u => { u with print := none }
  | _, _ => s

/-! ### Drives (R30, R46) -/

/-- An infeed accumulates (R46). -/
def State.accumulates (s : State) (i : Infeed) : Bool :=
  s.working && (s.zone (.infeed i)).state != .stalled && !(s.place (.infeed i)).unknown
    && !(s.place (.infeed i)).occupants.isEmpty && !s.input (.head i)

/-- Drive outputs may be on: the mode is neither STOPPED nor HALTED (R30). -/
def State.drivesLive (s : State) : Bool := s.mode.mode != .stopped && s.mode.mode != .halted

/-- A zone's drive is on (R30). -/
def State.zoneDrive (s : State) (z : Zone) : Bool :=
  s.drivesLive && ((s.field.moves.any fun m => m.zone == z && m.state == .inFlight)
    || match z with
      | .infeed i => s.accumulates i
      | _ => false)

/-- Turn a zone's drive on with a new speed window, or off with the window in progress discarded (R34). -/
def State.settleZone (s : State) (z : Zone) : State :=
  let now := s.zoneDrive z
  if (s.zone z).drive == now then s
  else s.modZone z fun e => { e with drive := now, edges := 0, windowLeft := if now then Config.speedWindow else 0 }

/-- The transfer car carries a move: its target wrapper (R30). -/
def Move.carTarget (m : Move) : Option Side :=
  match m.source, m.dest with
  | .staging _, .wrapper w => some w
  | _, _ => none

/-- The shuttle carries a move: its target place (R30). It is the place the move goes to, SHUTTLE on a pickup (log entry 51). -/
def Move.shuttleTarget (m : Move) : Option Place :=
  if m.source == .shuttle || m.dest == .shuttle then some m.dest else none

/-- The moves in flight. -/
def State.inFlight (s : State) : List Move := s.field.moves.filter (·.state == .inFlight)

/-- Set the gate drive, the transfer car and the shuttle (R30). -/
def State.settleCarriers (s : State) : State :=
  if s.drivesLive then
    s.modField fun u => { u with
      gateDrive := s.merge.switch.map (·.target)
      car := s.inFlight.findSome? Move.carTarget
      shuttleDrive := s.inFlight.findSome? Move.shuttleTarget }
  else s.modField fun u => { u with gateDrive := none, car := none, shuttleDrive := none }

/-! ### Lamps and beacons (R31, R156) -/

/-- A lane's beacon (R156). -/
def State.beacon (s : State) (l : Lane) : Pattern :=
  match s.boundLoad l with
  | none => .off
  | some ld =>
    if ld.status == .complete then .flashFast
    else match s.laneStatus l with
      | .unbound => .off
      | .halted => .off
      | .ready => .steady
      | .full => .flashSlow
      | .doorShut => .flashSlow

/-- An infeed's stop lamp (R31). -/
def State.stopLamp (s : State) (i : Infeed) : Pattern :=
  if !tget s.track.enabled i.idx || s.mode.mode != .run || (s.place (.infeed i)).unknown
      || decide (3 ≤ (s.place (.infeed i)).occupants.length) || decide (Config.recordCapacity ≤ s.track.records.length)
  then .steady else .off

/-- A reject spur's beacon (R31). -/
def State.spurBeacon (s : State) (sp : Spur) : Pattern :=
  let e := s.place (.spur sp)
  if e.unknown then .flashFast
  else if 3 ≤ e.occupants.length then .steady
  else if 1 ≤ e.occupants.length then .flashSlow
  else .off

/-- The fault beacon (R31). -/
def State.faultBeacon (s : State) : Pattern :=
  if s.mode.mode == .halted then .flashFast
  else if (allStations.any fun st => s.stationState st == .faulted || s.stationState st == .stalled)
      || (allZones.any fun z => (s.zone z).state == .stalled)
      || (allPlaces.any fun p => (s.place p).unknown)
      || (s.track.records.any fun r => r.stage == .lost)
  then .steady else .off

/-- The pattern a lamp or beacon is to show (R31). -/
def State.pattern (s : State) : Lamp → Pattern
  | .lane l => s.beacon l
  | .stop i => s.stopLamp i
  | .spur sp => s.spurBeacon sp
  | .fault => s.faultBeacon

/-- The half period of a pattern, in half centiseconds: 1 Hz and 4 Hz, equal on and off (R31). Log entry 27. -/
def Pattern.halfPeriod : Pattern → Nat
  | .flashSlow => 100
  | .flashFast => 25
  | .off => 0
  | .steady => 0

/-- Show a lamp's pattern; a new pattern starts in its on half (R31). -/
def State.settleLamp (s : State) (l : Lamp) : State :=
  let now := s.pattern l
  if (tget s.field.lamps l.idx).pattern == now then s
  else s.modField fun u => { u with lamps := tset u.lamps l.idx ⟨now, now != .off, now.halfPeriod⟩ }

/-- Show every lamp's pattern. -/
def State.settleLamps (s : State) : State := allLamps.foldl State.settleLamp s

/-- Set every zone drive. -/
def State.settleZones (s : State) : State := allZones.foldl State.settleZone s

/-- Set the outputs: zone drives, carriers, lamps. -/
def State.settleOutputs (s : State) : State := s.settleZones.settleCarriers.settleLamps

/-- Bring every derived signal up to date at the end of a step, raising the reports of those that changed: stations, then
lanes, then deadlock (log entry 8). Log entry 44. -/
def State.settle (s : State) : State :=
  s.settleGrant.settleRequests.settleStations.settleLanes.settleDeadlock.settlePrint.settleOutputs

/-- The derived signals after a reset: set without report (R155, R183; log entry 9). -/
def State.settleSilently (s : State) : State :=
  let s : State := { s with
    reported := Vector.replicate 6 .working
    lanes := #v[⟨(tget s.lanes 0).count, (tget s.lanes 0).halt, s.laneStatus 0⟩,
                ⟨(tget s.lanes 1).count, (tget s.lanes 1).halt, s.laneStatus 1⟩,
                ⟨(tget s.lanes 2).count, (tget s.lanes 2).halt, s.laneStatus 2⟩,
                ⟨(tget s.lanes 3).count, (tget s.lanes 3).halt, s.laneStatus 3⟩,
                ⟨(tget s.lanes 4).count, (tget s.lanes 4).halt, s.laneStatus 4⟩,
                ⟨(tget s.lanes 5).count, (tget s.lanes 5).halt, s.laneStatus 5⟩] }
  s.settleOutputs

/-! ### Quiet and drained (R176, R177) -/

/-- A wrapper is in ORDERED with its order sent, or in RUNNING (R116). -/
def WrapperState.busy (w : WrapperState) : Bool :=
  w.status == .running || (w.status == .ordered && (match w.order with | some o => o.sent | none => false))

/-- The line is quiet (R176). -/
def State.quiet (s : State) : Bool :=
  (s.field.moves.all fun m => m.state != .inFlight)
    && s.merge.switch.isNone
    && s.check.condition != .weighing
    && s.mass.status != .running
    && (allSides.all fun w => !(s.wrapper w).busy)
    && (s.label.jobs.all fun j => j.state != .sent)
    && s.label.purge != .running
    && s.label.condition != .applying
    && s.label.condition != .verifying

/-- A record is worked off: HELD, or standing in a reject spur (R177). -/
def Record.drained (s : State) (r : Record) : Bool :=
  r.stage == .held || (s.place (.spur .check)).occupants.contains r.number
    || (s.place (.spur .finish)).occupants.contains r.number

/-- The number of records neither HELD nor in a reject spur (R177). -/
def State.undrained (s : State) : Nat := (s.track.records.filter fun r => !r.drained s).length

/-- The move list holds a WAITING move. -/
def State.moveWaiting (s : State) : Bool := s.field.moves.any fun m => m.state == .waiting

/-- The drain test (R177). -/
def State.drainTest (s : State) : Bool := s.undrained == 0 && !s.moveWaiting && s.quiet

/-! ### Requests (R191 to R193) -/

/-- What a request does: the state after it, its result code and the fields its reply carries. -/
abbrev Service := State → State × Result × ReplyBody

/-- A refusal: no state changes, and the reply carries the result code (R192). -/
def refuse (s : State) (c : Result) : State × Result × ReplyBody := (s, c, .nothing)

/-- How a request works on the state: it only reads it; it collects, reading and clearing in one act; or it changes it.
The first two do nothing when broadcast (R193). -/
inductive Manner | reads | collects | changes
  deriving DecidableEq, Repr

/-- The result code of a request that is taken (R192). -/
def Result.isTaken (c : Result) : Bool := c == .ok || c == .okClamped

/-- Run a request that has arrived whole at the part (R191, R193). Addressed to the part, it sets answering and is
answered by one reply, after the reports it raises; broadcast, it is run without reply, and does nothing when its only
work is to build one. While answering is set it is lost and counted. A refused request changes no state (R192). Log entry 12. -/
def serve (kind : Nat) (how : Manner) (op : Service) (q : Req) (s : State) : State :=
  if q.broadcast then
    if s.settingOn .broadcastOff then s
    else if s.link.answering then s.count .linkErrors
    else if how != .changes || !q.whole then s
    else
      match op s with
      | (s', code, _) => if code.isTaken then s'.settle else s
  else if s.link.answering then s.count .linkErrors
  else
    let s := s.modLink fun u => { u with answering := true }
    match (if q.whole then op s else refuse s .badArgument) with
    | (s', code, body) =>
      (if code.isTaken && how != .reads then s'.settle else if code.isTaken then s' else s).send (s.reply kind code body)

end Sys2Proof.Machine
end

