-- ==== Sys2Proof/Machine/Plan.lean ====
section
/-! DEFINITION. The Plan Store (chapter 1): matching a tag to a slot, the reference tables it owns, and its requests. -/

namespace Sys2Proof.Machine

/-! ### Field checks -/

/-- Every character lies from space to tilde (R1, R5, R201). -/
def printable (t : Text) : Bool := t.all fun c => decide (32 ≤ c.toNat ∧ c.toNat ≤ 126)

/-- Sixteen decimal digits, not all zeros (R7, R58). -/
def validTag (t : Text) : Bool :=
  t.length == 16 && (t.all fun c => decide (48 ≤ c.toNat ∧ c.toNat ≤ 57)) && t.any (· != 48#8)

/-- Lane number 1 to 6. -/
def laneOf (n : Nat) : Option Lane := if h : 1 ≤ n ∧ n ≤ 6 then some ⟨n - 1, by omega⟩ else none

/-- A value lies in a closed range. -/
def within (lo hi n : Nat) : Bool := decide (lo ≤ n ∧ n ≤ hi)

/-! ### Matching (R59, R62, R65) -/

/-- The MATCH report of a record: outcome as detail code, occasion as value (R59). -/
def State.reportMatch (s : State) (n outcome occasion : Nat) : State :=
  s.raise .matched (noteOf n (s.refOf n) outcome (some occasion))

/-- Ask the Plan Store for a match and apply CLAIMED or TAKEN to the record with its MATCH report; NOT_FOUND is left to
the caller (R59, R62, R64). -/
def State.matchTag (s : State) (n : Nat) (t : Text) (occasion : Nat) : State × MatchAnswer :=
  match s.claim t n with
  | (s, .claimed ref) =>
    ((s.modRecord n fun r => { r with ref := some ref }).reportMatch n 1 occasion, .claimed ref)
  | (s, .taken ref st) =>
    ((s.modRecord n fun r => { r with mark := some .duplicate }).reportMatch n 2 occasion, .taken ref st)
  | (s, .notFound) => (s, .notFound)

/-- Mark a record UNPLANNED with its MATCH report (R59, R63, R64). -/
def State.markUnplanned (s : State) (n occasion : Nat) : State :=
  (s.modRecord n fun r => { r with mark := some .unplanned }).reportMatch n 3 occasion

/-- The entry read of a record is resolved: none waits or is outstanding for it at its entry scanner (R58). -/
def State.entryResolved (s : State) (r : Record) : Bool :=
  let sc := s.scanner (.entry r.infeed)
  (match sc.outstanding with | some (rd, _) => rd.track != r.number | none => true)
    && sc.waiting.all fun rd => rd.track != r.number

/-- An ENTERING record at the head becomes READY once its entry read is resolved (R65). -/
def State.testReady (s : State) (n : Nat) : State :=
  match s.record? n with
  | some r => if r.stage == .entering && r.headMark && s.entryResolved r then s.setStage n .ready else s
  | none => s

/-- End a record's deferral: READY when its head mark is set, ENTERING otherwise (R62, R63). -/
def State.endDeferral (s : State) (n : Nat) : State :=
  (s.modRecord n fun r => { r with stage := .entering, deferral := none }).testReady n

/-- Offer a new tag to the DEFERRED records that carry it, in creation order (R62). -/
def State.offer (s : State) (t : Text) : State :=
  ((s.track.records.filter fun r => r.stage == .deferred && r.tag == some t).map (·.number)).foldl
    (fun s n => (s.matchTag n t 3).1.endDeferral n) s

/-! ### Tables (R2 to R4) -/

/-- The contents of a band table are taken (R4). -/
def bandsTaken (t : List Band) : Bool :=
  within 1 8 t.length
    && (t.all fun b => within 1 2000001 b.edge && within 0 100000 b.fixed && within 0 50 b.perMille)
    && ((t.zip (t.drop 1)).all fun (a, b) => decide (a.edge < b.edge))

/-- An entry of the base table is in range (R2). -/
def Base.inRange (b : Base) : Bool := within 1000 100000 b.tare && within 400 1600 b.length && within 400 1600 b.width

/-- A recipe has every field in range (R3). -/
def Recipe.inRange (r : Recipe) : Bool :=
  within 0 6 r.bottom && within 0 6 r.top && within 10 70 r.overlap && within 0 300 r.prestretch && within 1 9 r.tension

/-- The base table a list of entries makes, when it carries exactly four valid ones (R2). -/
def basesTaken (t : List Base) : Option (Vector Base 4) :=
  if h : t.length = 4 then
    if t.all Base.inRange then some ⟨t.toArray, by simpa using h⟩ else none
  else none

/-- The recipe table a list of recipes makes, when it carries exactly sixteen valid ones (R3). -/
def recipesTaken (t : List Recipe) : Option (Vector Recipe 16) :=
  if h : t.length = 16 then
    if t.all Recipe.inRange then some ⟨t.toArray, by simpa using h⟩ else none
  else none

/-- SET_TABLE BANDS (R4, R196). -/
def setBands (t : List Band) : Service := fun s =>
  if bandsTaken t then (s.modPlan fun p => { p with bands := t }, .ok, .nothing) else refuse s .badArgument

/-- SET_TABLE BASES (R2, R196). -/
def setBases (t : List Base) : Service := fun s =>
  match basesTaken t with
  | some b => (s.modPlan fun p => { p with bases := b }, .ok, .nothing)
  | none => refuse s .badArgument

/-- SET_TABLE RECIPES (R3, R196). -/
def setRecipes (t : List Recipe) : Service := fun s =>
  match recipesTaken t with
  | some r => (s.modPlan fun p => { p with recipes := r }, .ok, .nothing)
  | none => refuse s .badArgument

/-! ### Articles (R16 to R18) -/

/-- Put an article record in its place in code order, replacing one with its code (R1, R16). -/
def insertArticle (a : Article) : List Article → List Article
  | [] => [a]
  | b :: rest => if a.code < b.code then a :: b :: rest else if a.code == b.code then a :: rest else b :: insertArticle a rest

/-- The article record with a code (R1). -/
def State.article? (s : State) (code : Nat) : Option Article := s.plan.articles.find? (·.code == code)

/-- ARTICLE_PUT (R16). -/
def putArticle (code mass : Nat) (name : Text) : Service := fun s =>
  if !within 1 65535 code || !within 1 80000 mass || !decide (name.length ≤ 24) || !printable name then refuse s .badArgument
  else
    let replaced := (s.article? code).isSome
    if !replaced && decide (Config.articleCapacity ≤ s.plan.articles.length) then refuse s .full
    else
      let t := insertArticle ⟨code, mass, name⟩ s.plan.articles
      (s.modPlan fun p => { p with articles := t }, .ok, .articlePut replaced t.length)

/-- ARTICLE_DROP (R17). -/
def dropArticle (code : Nat) : Service := fun s =>
  if (s.article? code).isNone then refuse s .unknownArticle
  else
    let t := s.plan.articles.filter fun a => a.code != code
    (s.modPlan fun p => { p with articles := t }, .ok, .articleDrop t.length)

/-- ARTICLE_GET (R18). -/
def getArticle (code : Nat) (form : ArticleForm) : Service := fun s =>
  match (match form with
    | .exact => s.article? code
    | .next => s.plan.articles.find? fun a => decide (code < a.code)) with
  | some a => (s, .ok, .article a s.plan.articles.length)
  | none => refuse s .unknownArticle

/-! ### Loads (R19 to R25) -/

/-- LOAD_CREATE (R19). -/
def createLoad (id planned heightLimit : Nat) (shipDate : Text) : Service := fun s =>
  if !within 1 65535 id || !within 1 36 planned || shipDate.length != 10 || !printable shipDate then refuse s .badArgument
  else if (s.load? id).isSome then refuse s .inUse
  else if Config.loadCapacity ≤ s.plan.loads.length then refuse s .full
  else
    let limit := max 1000 (min 2700 heightLimit)
    let s := s.modPlan fun p => { p with loads := p.loads ++ [⟨id, planned, limit, shipDate, .stored, none, []⟩] }
    if limit == heightLimit then (s, .ok, .nothing) else (s, .okClamped, .value limit)

/-- The fields of a slot are in range (R20, second check). -/
def slotFieldsInRange (pos : Nat) (t : Text) (base recipe : Nat) (lines : List ArticleLine) (texts : List Text) : Bool :=
  within 1 36 pos && validTag t && within 0 3 base && within 0 15 recipe && within 1 8 lines.length
    && (lines.all fun l => within 1 65535 l.article && within 1 999 l.count)
    && within 0 4 texts.length && (texts.all fun x => decide (x.length ≤ 32) && printable x)

/-- The net mass of article lines: counts times unit masses (R8). -/
def State.linesMass (s : State) (lines : List ArticleLine) : Nat :=
  (lines.map fun l => l.count * ((s.article? l.article).map (·.mass)).getD 0).sum

/-- The tare of a base kind (R2). -/
def State.tare (s : State) (base : Nat) : Nat := if h : base < 4 then (tget s.plan.bases ⟨base, h⟩).tare else 0

/-- SLOT_ADD (R20, R8, R62). -/
def addSlot (id pos : Nat) (t : Text) (base recipe : Nat) (lines : List ArticleLine) (texts : List Text) : Service := fun s =>
  match s.load? id with
  | none => refuse s .unknownLoad
  | some l =>
    if !slotFieldsInRange pos t base recipe lines texts then refuse s .badArgument
    else if l.planned ≤ l.slots.length then refuse s .full
    else if pos != l.slots.length + 1 then refuse s .badArgument
    else if (s.tagIndex t).isSome then refuse s .duplicateTag
    else
      match lines.findIdx? (fun x => (s.article? x.article).isNone) with
      | some i => (s, .unknownArticle, .value (i + 1))
      | none =>
        let net := s.linesMass lines
        let gross := s.tare base + net
        if Config.scaleCapacity < gross then (s, .massRange, .value gross)
        else
          let slot : Slot := ⟨t, base, recipe, lines, texts, gross, net, .expected, none, 0⟩
          let s := (s.modLoad id fun l => { l with slots := l.slots ++ [slot] }).offer t
          (s, .ok, .slotAdded gross net (((s.slot? ⟨id, pos⟩).map (·.state)).getD .expected))

/-- SLOT_SKIP (R21). -/
def skipSlot (id pos : Nat) : Service := fun s =>
  match s.load? id with
  | none => refuse s .unknownLoad
  | some l =>
    match l.slotAt pos with
    | none => refuse s .badArgument
    | some sl =>
      if sl.state != .expected then refuse s .inUse
      else ((s.modSlot ⟨id, pos⟩ fun sl => { sl with state := .skipped }).testComplete id, .ok, .nothing)

/-- LOAD_BIND (R22). -/
def bindLoad (id lane : Nat) : Service := fun s =>
  match s.load? id with
  | none => refuse s .unknownLoad
  | some l =>
    match laneOf lane with
    | none => refuse s .badArgument
    | some ln =>
      if l.status != .stored || (s.boundLoad ln).isSome then refuse s .inUse
      else (s.modLoad id fun l => { l with status := .bound, lane := some ln }, .ok, .nothing)

/-- A record belongs to a load. -/
def State.ofLoad (s : State) (n id : Nat) : Bool := match s.refOf n with | some ref => ref.load == id | none => false

/-- Release a load from its lane: its bound lane absent, BOUND back to STORED, its pallets out of the forced list (R23, R169). -/
def State.unbind (s : State) (id : Nat) : State :=
  (s.modLoad id fun l => { l with status := if l.status == .bound then .stored else l.status, lane := none }).modBuffer
    fun b => { b with forced := b.forced.filter fun n => !s.ofLoad n id }

/-- LOAD_UNBIND (R23). -/
def unbindLoad (id : Nat) : Service := fun s =>
  match s.load? id with
  | none => refuse s .unknownLoad
  | some l =>
    match l.lane with
    | none => refuse s .notBound
    | some ln =>
      if (s.buffer.releases.any fun r => r.lane == ln)
          || (match s.buffer.task with | some t => s.ofLoad t.track id | none => false) then refuse s .busy
      else (s.unbind id, .ok, .nothing)

/-- LOAD_CLOSE (R24). -/
def closeLoad (id : Nat) : Service := fun s =>
  match s.load? id with
  | none => refuse s .unknownLoad
  | some l =>
    if l.slots.any fun sl => sl.state == .claimed || sl.state == .finished then refuse s .inUse
    else
      let s := if l.lane.isSome then s.unbind id else s
      (s.modPlan fun p => { p with loads := p.loads.filter fun l => l.id != id }, .ok, .loadClosed l.dispatched l.skipped)

/-- A load's row (R25). -/
def Load.row (l : Load) : LoadRow := ⟨l.id, l.status, l.lane, l.planned, l.slots.length, l.dispatched⟩

/-- The summaries of a load's slots, with their load positions (R25). -/
def Load.summaries (l : Load) : List SlotRow :=
  l.slots.zipIdx.map fun (sl, i) =>
    ⟨i + 1, sl.tag, sl.state, sl.claimant, sl.rejects, sl.base, sl.recipe, sl.gross, sl.net⟩

/-- The summary reply of a load from a position on: at most 12 summaries (R25). -/
def Load.summaryFrom (l : Load) (pos : Nat) : ReplyBody :=
  let rest := l.summaries.drop (pos - 1)
  .load l.row l.heightLimit l.shipDate (rest.take 12) (decide (12 < rest.length))

/-- READ_LOAD (R25). -/
def readLoadOp (id pos form : Nat) : Service := fun s =>
  if 1 < form then refuse s .badArgument
  else if id == 0 then (s, .ok, .loads (s.plan.loads.map Load.row))
  else
    match s.load? id with
    | none => refuse s .unknownLoad
    | some l =>
      if pos == 0 then (s, .ok, l.summaryFrom 1)
      else if form == 0 then
        if pos ≤ l.slots.length + 1 then (s, .ok, l.summaryFrom pos) else refuse s .badArgument
      else
        match l.slotAt pos with
        | some sl => (s, .ok, .slot pos sl)
        | none => refuse s .badArgument

/-! ### The commands -/

/-- SET_TABLE BANDS (R4). -/
def execSetTableBands (q : Req) (bands : List Band) (s : State) : Answer := .next (serve 0x05 .changes (setBands bands) q s)

/-- SET_TABLE BASES (R2). -/
def execSetTableBases (q : Req) (bases : List Base) (s : State) : Answer := .next (serve 0x05 .changes (setBases bases) q s)

/-- SET_TABLE RECIPES (R3). -/
def execSetTableRecipes (q : Req) (recipes : List Recipe) (s : State) : Answer :=
  .next (serve 0x05 .changes (setRecipes recipes) q s)

/-- ARTICLE_PUT (R16). -/
def execArticlePut (q : Req) (code mass : Nat) (name : Text) (s : State) : Answer :=
  .next (serve 0x10 .changes (putArticle code mass name) q s)

/-- ARTICLE_DROP (R17). -/
def execArticleDrop (q : Req) (code : Nat) (s : State) : Answer := .next (serve 0x11 .changes (dropArticle code) q s)

/-- ARTICLE_GET (R18). -/
def execArticleGet (q : Req) (code : Nat) (form : ArticleForm) (s : State) : Answer :=
  .next (serve 0x12 .reads (getArticle code form) q s)

/-- LOAD_CREATE (R19). -/
def execLoadCreate (q : Req) (id planned heightLimit : Nat) (shipDate : Text) (s : State) : Answer :=
  .next (serve 0x13 .changes (createLoad id planned heightLimit shipDate) q s)

/-- SLOT_ADD (R20). -/
def execSlotAdd (q : Req) (id pos : Nat) (t : Text) (base recipe : Nat) (lines : List ArticleLine) (texts : List Text)
    (s : State) : Answer :=
  .next (serve 0x14 .changes (addSlot id pos t base recipe lines texts) q s)

/-- SLOT_SKIP (R21). -/
def execSlotSkip (q : Req) (id pos : Nat) (s : State) : Answer := .next (serve 0x15 .changes (skipSlot id pos) q s)

/-- LOAD_BIND (R22). -/
def execLoadBind (q : Req) (id lane : Nat) (s : State) : Answer := .next (serve 0x16 .changes (bindLoad id lane) q s)

/-- LOAD_UNBIND (R23). -/
def execLoadUnbind (q : Req) (id : Nat) (s : State) : Answer := .next (serve 0x17 .changes (unbindLoad id) q s)

/-- LOAD_CLOSE (R24). -/
def execLoadClose (q : Req) (id : Nat) (s : State) : Answer := .next (serve 0x18 .changes (closeLoad id) q s)

/-- READ_LOAD (R25). -/
def execReadLoad (q : Req) (id pos form : Nat) (s : State) : Answer := .next (serve 0x19 .reads (readLoadOp id pos form) q s)

end Sys2Proof.Machine
end

