-- ==== Sys2Proof/Machine/Mass.lean ====
section
/-! DEFINITION. The Mass Unit (chapter 5): captures, the mean, the measured mass, the tolerance and the verdict on mass. -/

namespace Sys2Proof.Machine

/-- A capture opens (R95): the window empty, K, W and d taken, collecting set only when the settle delay is 0; STREAM is sent. -/
def State.openCapture (s : State) (p : CaptureFor) : State :=
  (s.modMass fun m => { m with
    capture := some ⟨p, [], s.setting .windowSize, s.setting .stabilityWidth, s.setting .division,
      s.setting .settleDelay == 0⟩ }).send .stream

/-- The highest reading less the lowest (R97). -/
def spread : List Int → Int
  | [] => 0
  | x :: rest => rest.foldl max x - rest.foldl min x

/-- The mean of a window: the average rounded to a multiple of d, half-way to the higher (R97). -/
def Capture.mean (c : Capture) : Int :=
  let kd : Int := c.size * c.division
  (c.window.sum + kd / 2) / kd * c.division

/-- The window after a reading is entered: the last K readings (R96). -/
def Capture.enter (c : Capture) (g : Int) : List Int :=
  (if c.size ≤ c.window.length then c.window.drop (c.window.length + 1 - c.size) else c.window) ++ [g]

/-- A window that holds K readings is stable (R96, R97). -/
def Capture.stable (c : Capture) : Bool := c.window.length == c.size && decide (spread c.window ≤ c.width)

/-- The measured mass: the mean less the zero offset, clamped to 0 to 2,000,000 g (R100). -/
def measuredMass (mean offset : Int) : Nat := (max 0 (min 2000000 (mean - offset))).toNat

/-- The band used for a net mass: the first whose edge exceeds it, or the last (R101). -/
def bandFor (t : List Band) (net : Nat) : Option Band :=
  match t.find? fun b => decide (net < b.edge) with
  | some b => some b
  | none => t.getLast?

/-- The tolerance T (R102). -/
def tolerance (t : List Band) (net ceiling : Nat) : Nat :=
  match bandFor t net with
  | some b => min ceiling (b.fixed + net * b.perMille / 1000)
  | none => 0

/-- The verdict on mass from D and T (R103). -/
def massVerdict (d : Int) (t : Nat) : Code :=
  if (t : Int) < d then .over
  else if d < -(t : Int) then .under
  else if 2 * d.natAbs ≤ t then .pass
  else .passMarginal

/-- End a zero capture with a mean: DONE within ±40,000 g, FAILED outside (R107). -/
def State.zeroMean (s : State) (mean : Int) : State :=
  if -40000 ≤ mean ∧ mean ≤ 40000 then
    (s.closeCapture.modMass fun m => { m with status := .done, offset := mean, valid := true }).raise .zeroDone
      { detail := 1, value := some mean }
  else s.failZero 2 (some mean)

/-- The settle end of the zero capture sets collecting (R106). -/
def execZeroSettleEnd (s : State) : Answer :=
  match s.mass.capture, s.mass.settleEnd with
  | some c, some d =>
    if c.purpose == .zero && d.left == 0 && !c.collecting && s.mode.mode != .halted then
      .next (s.modMass fun m => { m with capture := some { c with collecting := true } }).settle
    else .next s
  | _, _ => .next s

/-- The zero limit deadline expires (R107). -/
def execZeroLimitExpiry (s : State) : Answer :=
  match s.mass.limit with
  | some d => if s.zeroOpen && d.left == 0 && s.mode.mode != .halted then .next (s.failZero 4 none).settle else .next s
  | none => .next s

/-- ZERO_SCALE (R109, R106). Log entry 35. -/
def zeroScaleOp : Service := fun s =>
  if s.mode.mode == .halted then refuse s .wrongMode
  else if s.mass.status == .running then refuse s .busy
  else if s.placeState .check != .free then refuse s .busy
  else if s.movesTo .check then refuse s .busy
  else if s.merge.grant.isSome then refuse s .busy
  else
    let before := s.mass.offset
    let s := (s.modMass fun m => { m with
      status := .running
      settleEnd := some (s.deadline (s.setting .settleDelay))
      limit := some (s.deadline (s.setting .settleLimit)) }).openCapture .zero
    (s, .ok, .zero .running before)

/-- ZERO_SCALE (R109). -/
def execZeroScale (q : Req) (s : State) : Answer := .next (serve 0x30 .changes zeroScaleOp q s)

end Sys2Proof.Machine
end

