-- ==== Sys2Proof/Machine/Check.lean ====
section
/-! DEFINITION. The Check Station Controller (chapter 4, sections 4.4 and 4.5): the check in progress, its three parts, the
verdict and the routing. -/

namespace Sys2Proof.Machine

/-! ### Routing (R90) -/

/-- Ask for the move of the pallet on CHECK: to staging when it passes, to the spur when it fails (R90). -/
def State.askOut (s : State) (n : Nat) (passing : Bool) : Option State :=
  if passing then
    match s.askMove n (.staging .one) with
    | some s' => some s'
    | none => s.askMove n (.staging .two)
  else s.askMove n (.spur .check)

/-- Route the pallet on CHECK: ROUTING when its move is entered, BLOCKED when its destination has no room (R90). -/
def State.route (s : State) (n : Nat) (passing : Bool) : State :=
  match s.askOut n passing with
  | some s' => s'.modCheck fun c => { c with condition := .routing, current := none }
  | none => s.modCheck fun c => { c with condition := .blocked, current := none }

/-- A failing verdict: stage TO_REJECT, the reject reported, and the pallet routed to the spur (R90). -/
def State.failCheck (s : State) (n : Nat) (c : Code) : State := ((s.setStage n .toReject).reject n c).route n false

/-! ### The verdict (R89) -/

/-- The verdict on mass of a record with its D and T, when the mass part is PRESENT and it carries a load reference (R89, R103). -/
def State.massOf (s : State) (c : Check) (r : Record) : Option (Code × Int × Nat) :=
  match c.mass, r.ref.bind s.slot?, r.mass with
  | .present, some sl, some m =>
    let d : Int := (m : Int) - sl.gross
    let t := tolerance s.plan.bands sl.net (s.setting .toleranceMax)
    some (massVerdict d t, d, t)
  | _, _, _ => none

/-- The conditions that fail, in the order of R89. -/
def State.failing (s : State) (c : Check) (r : Record) (mv : Option (Code × Int × Nat)) : List Code :=
  (if c.tag == .failed .noTag then [.noTag] else [])
    ++ (if r.mark == some .unplanned then [.unplanned] else [])
    ++ (if r.mark == some .duplicate then [.duplicate] else [])
    ++ (if c.mass == .failed .overload then [.overload] else [])
    ++ (if c.mass == .failed .unstable then [.unstable] else [])
    ++ (match c.profile with | .failed _ => [.profileMissing] | _ => [])
    ++ (match c.profile, r.overhang with
        | .present, some o => if o.front || o.back || o.left || o.right then [.overhang] else []
        | _, _ => [])
    ++ (match c.profile, r.height, r.ref.bind fun ref => s.load? ref.load with
        | .present, some h, some l => if l.heightLimit < h then [.height] else []
        | _, _, _ => [])
    ++ (match mv with
        | some (.over, _, _) => [.over]
        | some (.under, _, _) => [.under]
        | _ => [])

/-- The counters a verdict raises (R104). -/
def State.countVerdict (s : State) (c : Check) (mv : Option (Code × Int × Nat)) : State :=
  let s := match mv with
    | some (.over, _, _) => s.count .over
    | some (.under, _, _) => s.count .under
    | some (.passMarginal, _, _) => s.count .marginal
    | _ => s
  if c.mass == .failed .unstable then s.count .unstable else s

/-- A code that passes the pallet. -/
def Code.passes (c : Code) : Bool := c == .pass || c == .passMarginal

/-- Write a primary verdict with its faults, raise CHECK_DONE and route the pallet (R89, R90). Log entry 24. -/
def State.conclude (s : State) (n : Nat) (fails : List Code) (primary : Code) (d : Option Int) : State :=
  let s := s.modRecord n fun r => { fails.foldl Record.enterFault r with verdict := some primary }
  let s := s.raise .checkDone (noteOf n (s.refOf n) primary.number d)
  if primary.passes then s.route n true else s.failCheck n primary

/-- Give the verdict of the check in progress (R88, R89). A record with no load reference always fails one of the first
three conditions, so `.noTag` stands for no reachable case (log entry 45). COUNTER_HALF of a counter that the verdict raises
joins the queue before CHECK_DONE (log entry 8). -/
def State.giveVerdict (s : State) : State :=
  match s.check.current with
  | none => s
  | some c =>
    let s := (s.closeCapture).endReads .check c.track
    match s.record? c.track with
    | none => s.checkLeft
    | some r =>
      let mv := s.massOf c r
      let s := s.modRecord c.track fun r => { r with deviation := match mv with | some (_, d, t) => some (d, t) | none => r.deviation }
      let fails := s.failing c r mv
      let primary := ((fails ++ (mv.map (·.1)).toList).head?).getD .noTag
      (s.countVerdict c mv).conclude c.track fails primary (mv.map (·.2.1))

/-- Give the verdict once all three parts are resolved (R88). -/
def State.testVerdict (s : State) : State :=
  match s.check.current with
  | none => s
  | some c => if c.mass != .pending && c.profile != .pending && c.tag != .pending then s.giveVerdict else s

/-- Change the check in progress. -/
def State.modCurrent (s : State) (f : Check → Check) : State := s.modCheck fun c => { c with current := c.current.map f }

/-! ### The beginning of a check (R84, R85) -/

/-- Begin the check of the pallet on CHECK: a capture opens, MEASURE is sent, and scanner 4 is asked when the tag is absent (R85). -/
def State.beginCheck (s : State) (r : Record) : State :=
  let c : Check :=
    { track := r.number, arrival := s.lineTime
      settleEnd := s.deadline (s.setting .settleDelay), settleLimit := s.deadline (s.setting .settleLimit)
      mass := .pending, profile := .pending, tag := if r.ref.isSome then .present else .pending, measure := true }
  let s := s.modCheck fun k => { k with condition := .weighing, current := some c }
  let s := (s.openCapture (.check r.number)).send .measure
  if r.tag.isNone then s.askRead .check ⟨r.number, .check⟩ else s

/-- The pallet on CHECK is checked, or failed at once by its plan mark (R84). -/
def State.startCheck (s : State) (n : Nat) : State :=
  match s.record? n with
  | none => s
  | some r =>
    match r.mark with
    | some .unplanned => s.conclude n [.unplanned] .unplanned none
    | some .duplicate => s.conclude n [.duplicate] .duplicate none
    | none => s.beginCheck r

/-- A pallet's move into CHECK completes (R84). -/
def State.reachCheck (s : State) (n : Nat) : State :=
  if s.check.fault then s.modCheck fun c => { c with condition := .arrived } else s.startCheck n

/-- Abandon the check of a deleted record: no verdict is given and no report raised (R91; log entry 53). -/
def State.abandonCheck (s : State) (n : Nat) : State :=
  let s := match s.check.current with
    | some c => if c.track == n then s.closeCapture.modCheck fun k => { k with current := none } else s
    | none => s
  ((s.endReads .check n).modCheck fun c => { c with condition := if s.movesTo .check then .incoming else .empty }).followStation .check

/-! ### The parts (R86, R87, R100) -/

/-- The outcome of the scanner 4 read resolves the tag part (R64, R87). -/
def State.checkTag (s : State) (n : Nat) (t : Option Text) : State :=
  match s.check.current with
  | none => s
  | some c =>
    if c.track != n then s
    else
      match t with
      | none => (s.modCurrent fun c => { c with tag := .failed .noTag }).testVerdict
      | some t =>
        match (s.modRecord n fun r => { r with tag := some t }).matchTag n t 2 with
        | (s, .claimed _) => (s.modCurrent fun c => { c with tag := .present }).testVerdict
        | (s, .taken _ _) => (s.modCurrent fun c => { c with tag := .failed .duplicate }).testVerdict
        | (s, .notFound) =>
          ((s.markUnplanned n 2).modCurrent fun c => { c with tag := .failed .unplanned }).testVerdict

/-- A check capture closes with a mean: M is written and the mass part is PRESENT (R100). -/
def State.checkMean (s : State) (n : Nat) (mean : Int) : State :=
  let s := s.closeCapture
  ((s.modRecord n fun r => { r with mass := some (measuredMass mean s.mass.offset) }).modCurrent
    fun c => { c with mass := .present }).testVerdict

/-- An overload marker ends the capture (R98). -/
def State.overload (s : State) (c : Capture) : State :=
  match c.purpose with
  | .zero => s.failZero 3 none
  | .check _ => (s.closeCapture.modCurrent fun k => { k with mass := .failed .overload }).testVerdict

/-- Enter a reading in the window, and close the capture at its first stable window (R96, R97). -/
def State.enterReading (s : State) (c : Capture) (g : Int) : State :=
  let c := { c with window := c.enter g }
  if c.stable then
    match c.purpose with
    | .zero => s.zeroMean c.mean
    | .check n => s.checkMean n c.mean
  else s.modMass fun m => { m with capture := some c }

/-! ### The commands -/

/-- READING (R94): entered, ending the capture by overload, or discarded. -/
def execReading (r : Reading) (s : State) : Answer :=
  match s.mass.capture with
  | none => .next s
  | some c =>
    if !c.collecting || s.mode.mode == .halted then .next s
    else
      match r with
      | .overload => .next (s.overload c).settle
      | .value g => if -40000 ≤ g ∧ g ≤ 1999999 then .next (s.enterReading c g).settle else .next s

/-- PROFILE (R86). -/
def execProfile (height : Nat) (flags : Overhang) (s : State) : Answer :=
  match s.check.current with
  | none => .next s
  | some c =>
    if c.measure && decide (height ≤ 2600) then
      .next (((s.modRecord c.track fun r => { r with height := some height, overhang := some flags }).modCurrent
        fun c => { c with profile := .present, measure := false }).testVerdict).settle
    else .next s

/-- The settle delay of a check ends and collecting is set (R95). -/
def execSettleDelayEnd (s : State) : Answer :=
  match s.check.current, s.mass.capture with
  | some k, some c =>
    if c.purpose == .check k.track && k.settleEnd.left == 0 && !c.collecting && s.mode.mode != .halted then
      .next (s.modMass fun m => { m with capture := some { c with collecting := true } }).settle
    else .next s
  | _, _ => .next s

/-- A part still PENDING at the settle limit fails with its own fault (R88). -/
def Part.expire (p : Part) (c : Code) : Part := if p == .pending then .failed c else p

/-- The settle limit deadline expires: the pending parts fail and the verdict is given (R88). -/
def execSettleLimitExpiry (s : State) : Answer :=
  match s.check.current with
  | none => .next s
  | some c =>
    if c.settleLimit.left == 0 && s.mode.mode != .halted then
      .next ((s.modCurrent fun c => { c with
        mass := c.mass.expire .unstable, profile := c.profile.expire .profileMissing, tag := c.tag.expire .noTag
        measure := false }).giveVerdict).settle
    else .next s

/-- A BLOCKED check asks for its move out again (R90). -/
def execCheckRouteRetry (s : State) : Answer :=
  match s.check.condition, (s.place .check).occupants with
  | .blocked, n :: _ =>
    match s.askOut n (s.stageOf n != some .toReject) with
    | some s' => .next (s'.modCheck fun c => { c with condition := .routing }).settle
    | none => .next s
  | _, _ => .next s

end Sys2Proof.Machine
end

