-- ==== Sys2Proof/Machine/Merge.lean ====
section
/-! DEFINITION. The Merge Arbiter (chapter 4, sections 4.1 to 4.3): the choice of an infeed, the merge gate and the park. -/

namespace Sys2Proof.Machine

/-- Ask for the move of the granted record from its infeed to CHECK (R78); it is not entered while CHECK has no room. -/
def State.askGranted (s : State) : State :=
  match s.merge.grant with
  | some g => (s.askMove g.track .check).getD s
  | none => s

/-- Command a gate switch (R80): it ends at once when the target's input is active, and else drives the gate under the gate
limit. A switch with the purpose GRANT then leads to the move of R78. -/
def State.commandSwitch (s : State) (target : Infeed) (purpose : SwitchPurpose) : State :=
  if s.input (.gateAt target) then
    let s := s.modMerge fun m => { m with gate := some target }
    if purpose == .grant then s.askGranted else s
  else s.modMerge fun m => { m with switch := some ⟨target, purpose, Config.gateLimit⟩ }

/-- Take up a grant whose move is not yet asked: ask it with the gate at the granted infeed, and else command the gate
switch in RUN or DRAIN (R78, R81). Log entry 46. -/
def State.pursueGrant (s : State) : State :=
  match s.merge.grant with
  | none => s
  | some g =>
    if s.merge.switch.isSome || s.merge.fault || (s.move? g.track).isSome
        || (s.record? g.track).map (·.location) != some (.infeed g.infeed) then s
    else if s.merge.gate == some g.infeed then s.askGranted
    else if s.working then s.commandSwitch g.infeed .grant
    else s

/-- The gate at an infeed: a switch to it ends, or, outside a switch, the gate position follows the inputs (R80, R81). Log
entry 30. A position that so comes to agree with a waiting grant asks for no move there and then (log entry 46). -/
def State.gateInput (s : State) (i : Infeed) (active : Bool) : State :=
  match s.merge.switch with
  | some sw =>
    if active && sw.target == i then
      let s := s.modMerge fun m => { m with gate := some i, switch := none }
      if sw.purpose == .grant then s.askGranted else s
    else s
  | none =>
    if active then s.modMerge fun m => { m with gate := some i }
    else if s.merge.gate == some i then s.modMerge fun m => { m with gate := none }
    else s

/-- The infeeds in the order A, B, C, A, B from the one after the last granted (R77, case 4). -/
def roundRobin : Option Infeed → List Infeed
  | none => [.a, .b, .c]
  | some .a => [.b, .c, .a]
  | some .b => [.c, .a, .b]
  | some .c => [.a, .b, .c]

/-- The infeed PARK_INFEED names, if any (R77). -/
def State.parkInfeed (s : State) : Option Infeed :=
  match s.setting .parkInfeed with
  | 1 => some .a
  | 2 => some .b
  | 3 => some .c
  | _ => none

/-- The wait of a requesting infeed (R75). -/
def State.waitOf (s : State) (i : Infeed) : Option Nat := (tget s.merge.requests i.idx).map (·.waited)

/-- The requesting infeed with the longest wait of at least `limit`, the first in the list's order among equals (R77, case 2). -/
def State.starved (s : State) (limit : Nat) (order : List Infeed) : Option (Infeed × Nat) :=
  order.foldl (fun best i =>
    match s.waitOf i with
    | none => best
    | some w =>
      if w < limit then best
      else match best with
        | some (j, v) => if v < w then some (i, w) else some (j, v)
        | none => some (i, w)) none

/-- The infeed chosen, by the first case of R77 that applies. -/
def State.chooseInfeed (s : State) : Option Infeed :=
  let order := roundRobin s.merge.lastGranted
  let asks : Infeed → Bool := fun i => (s.waitOf i).isSome
  match s.merge.lastGranted.filter fun i => asks i && decide (s.merge.train < s.setting .trainLength) with
  | some i => some i
  | none =>
    match s.starved (s.setting .starvationLimit) order with
    | some (i, _) => some i
    | none =>
      match s.parkInfeed.filter asks with
      | some i => some i
      | none => order.find? asks

/-- The train count after a grant to an infeed (R77). -/
def State.trainAfter (s : State) (i : Infeed) : Nat :=
  if s.merge.lastGranted == some i then min 4 (s.merge.train + 1) else 1

/-- The conditions of R76, other than a request, all hold. -/
def State.mayGrant (s : State) : Bool :=
  s.merge.grant.isNone && s.working && s.mass.valid && s.mass.status != .running && s.merge.switch.isNone
    && !s.merge.parkPending && !s.merge.fault && !s.check.fault && s.placeState .check == .free

/-! ### The commands -/

/-- The Merge Arbiter chooses an infeed and sets the grant (R76 to R78). -/
def execMergeChoice (s : State) : Answer :=
  if s.mayGrant then
    match s.chooseInfeed with
    | none => .next s
    | some i =>
      match s.oldest i with
      | none => .next s
      | some r =>
        .next ((s.modMerge fun m =>
          { m with grant := some ⟨i, r.number⟩, lastGranted := some i, train := s.trainAfter i }).pursueGrant).settle
  else .next s

/-- A switch to park is commanded under the first or the second rule of R82. -/
def execGatePark (s : State) : Answer :=
  if s.working && s.merge.switch.isNone && !s.merge.fault then
    if s.merge.parkPending then
      let s := s.modMerge fun m => { m with parkPending := false }
      match s.parkInfeed with
      | some i => .next (s.commandSwitch i .park).settle
      | none => .next s.settle
    else
      match s.parkInfeed with
      | some i =>
        if s.merge.grant.isNone && (allInfeeds.all fun j => (s.waitOf j).isNone) && s.merge.gate != some i then
          .next (s.commandSwitch i .park).settle
        else .next s
      | none => .next s
  else .next s

/-- The gate limit runs out: the gate position is NONE and MERGE_GATE is FAULTED (R81). -/
def execGateLimitExpiry (s : State) : Answer :=
  match s.merge.switch with
  | some sw =>
    if sw.left == 0 && s.mode.mode != .halted then
      .next (s.modMerge fun m => { m with switch := none, gate := none, fault := true }).settle
    else .next s
  | none => .next s

end Sys2Proof.Machine
end

