-- ==== Sys2Proof/Machine/Wrap.lean ====
section
/-! DEFINITION. The Wrap Controller (chapter 6): staging, the choice of wrapper, orders and their answers, film arithmetic,
faults, and the label order list. -/

namespace Sys2Proof.Machine

/-! ### Staging and the choice of wrapper (R113 to R115) -/

/-- A pallet enters staging (R113). -/
def State.enterStaging (s : State) (n : Nat) (k : Side) : State :=
  ((s.setStage n .staged).setStaging k (some ⟨n, s.lineTime⟩)).raise .wrapDone (noteOf n (s.refOf n) 4 (some k.number))

/-- How long ago a line time was. Log entry 36. -/
def State.age (s : State) (t : LineTime) : Nat := (s.lineTime - t).toNat

/-- A wrapper is free (R114). -/
def State.wrapperFree (s : State) (w : Side) : Bool :=
  (s.wrapper w).status == .idle && s.placeState (.wrapper w) == .free

/-- The staged pallet of a position may be chosen: it has no move (R114), and its staging place is not UNKNOWN (R36). -/
def State.isCandidate (s : State) (k : Side) : Bool :=
  match s.staging k with
  | some e => (s.move? e.track).isNone && !(s.place (.staging k)).unknown
  | none => false

/-- The staging positions that hold an entry, oldest staged pallet first (R113). Log entries 36 and, for a position that is UNKNOWN,
49. -/
def State.stagedOrder (s : State) : List Side :=
  match s.staging .one, s.staging .two with
  | some a, some b => if s.age a.since < s.age b.since then [.two, .one] else [.one, .two]
  | some _, none => [.one]
  | none, some _ => [.two]
  | none, none => []

/-- The recipe of a record as the recipe table stands (R114, R115). -/
def State.recipeOf (s : State) (n : Nat) : Option Recipe :=
  ((s.refOf n).bind s.slot?).bind fun sl => if h : sl.recipe < 16 then some (tget s.plan.recipes ⟨sl.recipe, h⟩) else none

/-- The recipe of the pallet in a staging position. -/
def State.stagedRecipe (s : State) (k : Side) : Option Recipe := (s.staging k).bind fun e => s.recipeOf e.track

/-- A wrapper can serve the pallet in a staging position: wrapper 2 has no top-sheet dispenser (R114). -/
def State.canServe (s : State) (w k : Side) : Bool :=
  match s.stagedRecipe k with
  | some r => w == .one || !r.topSheet
  | none => false

/-- The wrapper with the earlier idle-since time, wrapper 1 when the times are equal (R114). -/
def State.longestIdle (s : State) : Side :=
  if s.age (s.wrapper .one).idleSince < s.age (s.wrapper .two).idleSince then .two else .one

/-- The choice with one wrapper free (R114). -/
def State.chooseFor (s : State) (w : Side) : Option (Side × Side) :=
  let order := if s.settingOn .wrapBypass then s.stagedOrder else s.stagedOrder.take 1
  (order.find? fun k => s.isCandidate k && s.canServe w k).map fun k => (k, w)

/-- The staging position and the wrapper chosen, by the first case of R114 that applies. -/
def State.wrapChoice (s : State) : Option (Side × Side) :=
  match s.wrapperFree .one, s.wrapperFree .two with
  | true, true =>
    match (s.stagedOrder.take 1).find? s.isCandidate with
    | none => none
    | some k => (s.stagedRecipe k).map fun r => (k, if r.topSheet then .one else s.longestIdle)
  | true, false => s.chooseFor .one
  | false, true => s.chooseFor .two
  | false, false => none

/-- Assign a record to a wrapper, its order in hand built but not sent, and ask its move (R115). -/
def State.assign (s : State) (n : Nat) (w : Side) (rc : Recipe) : State :=
  match s.askMove n (.wrapper w), s.record? n with
  | some s', some r =>
    (s'.modRecord n fun r => { r with wrapper := some w }).modWrapper w fun u =>
      { u with pallet := some n, order := some ⟨none, rc, r.height.getD 0, false, none, none⟩ }
  | _, _ => s

/-! ### Orders (R117) -/

/-- The number after a wrapper's order number or a job number: 255 is followed by 1 (R117, R134). -/
def nextNumber (n : Nat) : Nat := if 255 ≤ n then 1 else n + 1

/-- Send a wrapper's order: it takes the next order number, which is held, and the acknowledge limit starts (R117). -/
def State.sendOrder (s : State) (w : Side) : State :=
  let u := s.wrapper w
  match u.order with
  | none => s
  | some o =>
    (s.modWrapper w fun u => { u with
      order := some { o with number := some u.nextOrder, sent := true, ack := some (s.setting .ackLimit), wrap := none }
      held := some u.nextOrder
      nextOrder := nextNumber u.nextOrder }).send (.order w u.nextOrder o.recipe o.height)

/-- The wrapper becomes ORDERED with an order to send, which is sent at once in RUN or DRAIN (R117, R125). -/
def State.orderWrapper (s : State) (w : Side) : State :=
  let s := s.modWrapper w fun u => { u with
    status := .ordered, cause := none
    order := u.order.map fun o => { o with sent := false, ack := none, wrap := none } }
  if s.working then s.sendOrder w else s

/-- The move of a wrapper's pallet into the wrapper completes (R117). -/
def State.reachWrapper (s : State) (w : Side) : State :=
  if (s.wrapper w).status == .idle then s.orderWrapper w else s

/-- The order in hand with its limits stopped. -/
def Order.stopped (o : Order) : Order := { o with ack := none, wrap := none }

/-! ### The label order list (R122, R126) -/

/-- A pallet joins the label order list at its tail, its stage WRAPPED (R119, R122, R126). -/
def State.joinLabelOrder (s : State) (n : Nat) (w : Side) (failed : Bool) : State :=
  (s.modWrap fun u => { u with labelOrder := u.labelOrder ++ [⟨n, w, failed⟩] }).setStage n .wrapped

/-- A pallet becomes WRAP_FAILED (R122); `why` is the fault of a short film or an expired wrap limit, which also raises the
wrap faults counter. -/
def State.failWrap (s : State) (n : Nat) (w : Side) (why : Option Code) : State :=
  let s := s.modRecord n fun r => { r with verdict := some .wrapFailed }
  let s := match why with | some c => s.enterFault n c | none => s
  let s := s.reject n .wrapFailed
  let s := if why.isSome then s.count .wrapFaults else s
  s.joinLabelOrder n w true

/-! ### Film arithmetic (R120) -/

/-- The pitch, mm (R120). -/
def filmPitch (rc : Recipe) : Nat := 500 * (100 - rc.overlap) / 100

/-- The least integer not below a quotient. -/
def ceilDiv (a b : Nat) : Nat := if b == 0 then 0 else (a + (b - 1)) / b

/-- The film estimate in dm, from the recipe, the height and the footprint (R120). -/
def filmEstimate (rc : Recipe) (height : Nat) (foot : Nat × Nat) : Nat :=
  let revolutions := rc.bottom + rc.top + ceilDiv height (filmPitch rc)
  ceilDiv (revolutions * (2 * (foot.1 + foot.2))) (100 + rc.prestretch)

/-- The film mass in grams, rounded to the nearest with a half rounded up (R120). -/
def filmMass (film linear : Nat) : Nat := (film * linear + 500) / 1000

/-- The footprint of a record's base kind (R120); a free value for a record that names no slot (log entry 2). -/
def State.footprint (s : State) (n : Nat) : State × (Nat × Nat) :=
  match (s.refOf n).bind s.slot? with
  | some sl =>
    if h : sl.base < 4 then (s, ((tget s.plan.bases ⟨sl.base, h⟩).length, (tget s.plan.bases ⟨sl.base, h⟩).width))
    else ({ s with freeDraws := s.freeDraws + 1 }, Config.unstatedFootprint s.freeDraws)
  | none => ({ s with freeDraws := s.freeDraws + 1 }, Config.unstatedFootprint s.freeDraws)

/-- A film length is short, or long, against its estimate; no test is made when the estimate is 0 (R119). -/
def filmShort (film estimate : Nat) : Bool := estimate != 0 && decide (4 * film < 3 * estimate)
def filmLong (film estimate : Nat) : Bool := estimate != 0 && decide (3 * estimate < 2 * film)

/-- A wrap ends with DONE (R119, R120). Log entry 18. -/
def State.endWrap (s : State) (w : Side) (n : Nat) (o : Order) (film : Nat) : State :=
  match s.footprint n with
  | (s, foot) =>
    let estimate := filmEstimate o.recipe o.height foot
    let fm := filmMass film (s.setting .filmLinearMass)
    let sheet := if o.recipe.topSheet then s.setting .topSheetMass else 0
    let s := s.modRecord n fun r => { r with
      filmLength := some film, filmMass := some fm, shippedGross := r.mass.map fun m => m + fm + sheet }
    let short := filmShort film estimate
    let s := if short then s.failWrap n w (some .filmShort) else s
    let s := s.raise .wrapDone
      (noteOf n (s.refOf n) (if short then 3 else if filmLong film estimate then 2 else 1) (some film))
    let s := s.modWrapper w fun u => { u with status := .doneOccupied, held := none, order := u.order.map Order.stopped }
    if short then s else s.joinLabelOrder n w false

/-! ### Faults (R118, R121) -/

/-- A wrapper faults with a code while its order is sent or under way (R118, R121). -/
def State.faultWrapper (s : State) (w : Side) (n : Nat) (c : Code) : State :=
  let s := s.modWrapper w fun u => { u with
    status := .faulted, cause := some (.code c), held := none, order := u.order.map Order.stopped }
  let s := (s.modRecord n fun r => { r with wrapAttempts := r.wrapAttempts + 1 }).enterFault n c
  (s.count .wrapFaults).raise .wrapFault
    (noteOf n (s.refOf n) c.number ((s.record? n).map fun r => (r.wrapAttempts : Int)))

/-- The code of a wrapper's FAULT (R121). -/
def wrapFaultCode : WrapFault → Code
  | .filmBreak => .filmBreak
  | .tension => .tension
  | .turntable => .turntable
  | .guardOpen => .guardOpen

/-- An answer whose order number its wrapper does not hold is ignored with LATE (R124). -/
def State.lateOrder (s : State) (w : Side) (order : Nat) : State :=
  s.raise .late { detail := (Station.wrapper w).number, value := some order }

/-- LATE for an answer of a STALLED wrapper (R123). -/
def State.lateWrap (s : State) (w : Side) (n : Nat) (value : Option Int) : State :=
  s.raise .late { track := some n, detail := (Station.wrapper w).number, value }

/-! ### Leaving, resuming and dropping (R125, R126, R128) -/

/-- A wrapper's pallet has left the wrapper place by its move to LABEL, or is deleted (R126, R128): the wrapper is IDLE with
its idle-since time set, or stays FAULTED. Log entry 29. -/
def State.leaveWrapper (s : State) (w : Side) : State :=
  s.modWrapper w fun u => { u with
    pallet := none, order := none
    status := if u.status == .faulted then .faulted else .idle
    idleSince := if u.status == .faulted then u.idleSince else s.lineTime }

/-- The wrapper becomes IDLE at its resumption, its idle-since time kept (R125). -/
def State.idleWrapper (s : State) (w : Side) : State := s.modWrapper w fun u => { u with status := .idle, cause := none }

/-- The wrapper becomes DONE_OCCUPIED at its resumption (R125). -/
def State.occupyWrapper (s : State) (w : Side) : State :=
  s.modWrapper w fun u => { u with status := .doneOccupied, cause := none, held := none, order := u.order.map Order.stopped }

/-- STATION_RESUME of a wrapper (R125). -/
def State.resumeWrapper (s : State) (w : Side) : State :=
  let u := s.wrapper w
  match u.status with
  | .stalled => (s.occupyWrapper w).send (.abort w)
  | .faulted =>
    match u.pallet.bind s.record? with
    | none => s.idleWrapper w
    | some r =>
      match u.cause with
      | some (.code _) =>
        if r.stage != .wrapping then s.occupyWrapper w
        else if r.wrapAttempts < s.setting .wrapAttempts then s.orderWrapper w
        else (s.occupyWrapper w).settleStations.failWrap r.number w none
      | _ => if (s.place (.wrapper w)).occupants.contains r.number then s.orderWrapper w else s.idleWrapper w
  | _ => s

/-- A wrapper drops its deleted pallet (R128). -/
def State.dropFromWrapper (s : State) (n : Nat) (w : Side) : State :=
  let u := s.wrapper w
  if u.pallet == some n then
    let s := if u.status == .stalled then (s.modWrapper w fun u => { u with held := none }).send (.abort w) else s
    s.leaveWrapper w
  else s

/-- The Wrap Controller drops a deleted record (R128). -/
def State.dropFromWrap (s : State) (n : Nat) : State :=
  let s := s.modWrap fun u => { u with
    staging := tmap (fun e => match e with | some x => if x.track == n then none else some x | none => none) u.staging
    labelOrder := u.labelOrder.filter fun e => e.track != n }
  (s.dropFromWrapper n .one).dropFromWrapper n .two

/-! ### The commands -/

/-- A number that an order or a job may carry. -/
def validNumber (n : Nat) : Bool := within 1 255 n

/-- ACCEPT (R118). -/
def execAccept (w : Side) (order : Nat) (s : State) : Answer :=
  if !validNumber order then .next s
  else if (s.wrapper w).held != some order then .next (s.lateOrder w order).settle
  else if (s.wrapper w).status == .ordered && (s.wrapper w).busy then
    .next (s.modWrapper w fun u => { u with
      status := .running
      order := u.order.map fun o => { o with ack := none, wrap := some (s.setting .wrapLimit) } }).settle
  else .next s

/-- DONE (R119, R123). Log entry 19. -/
def execDone (w : Side) (order revolutions film : Nat) (s : State) : Answer :=
  let u := s.wrapper w
  if !validNumber order || 999 < revolutions || 65535 < film then .next s
  else if u.held != some order then .next (s.lateOrder w order).settle
  else
    match u.pallet, u.order with
    | some n, some o =>
      if u.busy then
        if revolutions == 0 then .next (s.faultWrapper w n .turntable).settle else .next (s.endWrap w n o film).settle
      else if u.status == .stalled then
        .next (((s.modRecord n fun r => { r with filmLength := some film }).lateWrap w n (some film)).modWrapper w
          fun u => { u with status := .doneOccupied, held := none }).settle
      else .next s
    | _, _ => .next s

/-- FAULT (R121, R123). -/
def execFault (w : Side) (order : Nat) (code : WrapFault) (s : State) : Answer :=
  let u := s.wrapper w
  let c := wrapFaultCode code
  if !validNumber order then .next s
  else if u.held != some order then .next (s.lateOrder w order).settle
  else
    match u.pallet with
    | some n =>
      if u.busy then .next (s.faultWrapper w n c).settle
      else if u.status == .stalled then
        .next (((s.enterFault n c).lateWrap w n none).modWrapper w
          fun u => { u with status := .faulted, cause := some (.code c), held := none }).settle
      else .next s
    | none => .next s

/-- The acknowledge limit of a wrapper's order runs out (R118). -/
def execWrapperAckLimitExpiry (w : Side) (s : State) : Answer :=
  let u := s.wrapper w
  match u.pallet, u.order with
  | some n, some o =>
    if u.status == .ordered && o.ack == some 0 && s.mode.mode != .halted then .next (s.faultWrapper w n .ackTimeout).settle
    else .next s
  | _, _ => .next s

/-- The wrap limit of a RUNNING wrapper runs out (R123). Log entry 18. -/
def execWrapLimitExpiry (w : Side) (s : State) : Answer :=
  let u := s.wrapper w
  match u.pallet, u.order with
  | some n, some o =>
    if u.status == .running && o.wrap == some 0 && s.mode.mode != .halted then
      .next (((s.modWrapper w fun u => { u with status := .stalled, order := u.order.map Order.stopped }).raise .wrapFault
        { track := some n, detail := Code.wrapTimeout.number }).failWrap n w (some .wrapTimeout)).settle
    else .next s
  | _, _ => .next s

/-- The Wrap Controller chooses a pallet and a wrapper, and assigns the pallet (R114, R115). -/
def execWrapperChoice (s : State) : Answer :=
  if s.working then
    match s.wrapChoice with
    | some (k, w) =>
      match s.staging k, s.stagedRecipe k with
      | some e, some rc => .next (s.assign e.track w rc).settle
      | _, _ => .next s
    | none => .next s
  else .next s

/-- An order that waited is sent (R117). -/
def execOrderSend (w : Side) (s : State) : Answer :=
  match (s.wrapper w).order with
  | some o =>
    if s.working && (s.wrapper w).status == .ordered && !o.sent then .next (s.sendOrder w).settle else .next s
  | none => .next s

/-- The label unit is free (R144). -/
def State.labelFree (s : State) : Bool :=
  s.label.condition == .empty && s.label.fault.isNone && !s.input .labelExit

/-- The move of the head entry of the label order list to LABEL is asked (R126). -/
def execLabelOrderMove (s : State) : Answer :=
  match s.wrap.labelOrder with
  | [] => .next s
  | e :: _ =>
    if (s.wrapper e.wrapper).status == .doneOccupied && s.labelFree then
      match s.askMove e.track .label with
      | some s' => .next s'.settle
      | none => .next s
    else .next s

end Sys2Proof.Machine
end

