-- ==== Sys2Proof/Machine/Label.lean ====
section
/-! DEFINITION. The Label Controller (chapter 7): print jobs, the apply, the verify, retries with a purge, failed pallets,
and the faults of the label unit. -/

namespace Sys2Proof.Machine

/-! ### Text on the label (R133) -/

/-- A number in decimal, its digits found from the last; `fuel` bounds the number of digits. -/
def decimalText : Nat → Nat → Text
  | 0, _ => []
  | fuel + 1, n => if n < 10 then [BitVec.ofNat 8 (48 + n)] else decimalText fuel (n / 10) ++ [BitVec.ofNat 8 (48 + n % 10)]

/-- A mass in kilograms to one decimal place, a half of 100 g rounded up (R133). -/
def massText (g : Nat) : Text :=
  let k := (g + 50) / 100
  decimalText 20 (k / 10) ++ [46#8, BitVec.ofNat 8 (48 + k % 10)]

/-! ### The label sequence and its jobs (R132 to R134) -/

/-- The purge becomes PENDING, unless it is RUNNING (R141, R149). -/
def State.makePurgePending (s : State) : State :=
  s.modLabel fun u => { u with purge := if u.purge == .running then .running else .pending }

/-- A track number holds a job in the printer job list. -/
def LabelController.holdsJob (u : LabelController) (n : Nat) : Bool := u.jobs.any (·.track == n)

/-- The label unit's pallet needs a job, its outcome and its condition allowing (R132). -/
def LabelController.palletNeeds (u : LabelController) : List Nat :=
  match u.pallet with
  | some p =>
    if !p.failed && (u.condition == .incoming || u.condition == .arrived || u.condition == .printWait) && !u.holdsJob p.track
    then [p.track] else []
  | none => []

/-- The first pallet of the label sequence that needs a job (R132, R134). -/
def State.needsJob (s : State) : Option Nat :=
  (s.label.palletNeeds
    ++ (s.wrap.labelOrder.filter fun e => !e.failed && !s.label.holdsJob e.track).map (·.track)).head?

/-- The content of a record's job, read as it is sent (R133). Log entry 45. -/
def State.jobForm (s : State) (r : Record) (number : Nat) : JobForm :=
  let load := r.ref.bind fun ref => s.load? ref.load
  let slot := r.ref.bind s.slot?
  { number, tag := r.tag, ref := r.ref
    planned := (load.map (·.planned)).getD 0
    shipDate := (load.map (·.shipDate)).getD []
    identity := s.link.identity
    gross := massText (r.shippedGross.getD 0)
    net := massText ((slot.map (·.net)).getD 0)
    recipe := (slot.map (·.recipe)).getD 0
    texts := (slot.map (·.texts)).getD [] }

/-- The conditions of R134, other than a pallet that needs a job. -/
def State.maySendJob (s : State) : Bool :=
  s.working && s.label.fault.isNone && s.label.purge == .none && (s.label.jobs.all fun j => j.state != .sent)
    && decide (s.label.jobs.length < s.setting .printerDepth)

/-- Send a job for a record (R134). -/
def State.sendJob (s : State) (r : Record) : State :=
  let j := s.label.nextJob
  let form := s.jobForm r j
  ((s.modRecord r.number fun r => { r with job := some j }).modLabel fun u => { u with
    jobs := u.jobs ++ [⟨j, r.number, .sent⟩], nextJob := nextNumber j, ack := some (s.setting .ackLimit) }).send (.job form)

/-- Set the state of a job; a job leaving SENT stops the acknowledge limit (R134, R135). -/
def State.setJob (s : State) (j : Job) (st : JobState) : State :=
  s.modLabel fun u => { u with
    jobs := u.jobs.map fun k => if k.number == j.number then { k with state := st } else k
    ack := if j.state == .sent then none else u.ack }

/-- Empty the printer job list, its acknowledge limit stopped (R141, R145). -/
def LabelController.forgetJobs (u : LabelController) : LabelController := { u with jobs := [], ack := none }

/-- A record's job leaves the list (R137, R149). -/
def LabelController.dropJob (u : LabelController) (n : Nat) : LabelController :=
  { u with
    jobs := u.jobs.filter fun j => j.track != n
    ack := if u.jobs.any fun j => j.track == n && j.state == .sent then none else u.ack }

/-! ### The pallet at the label unit (R136 to R139, R142 to R144) -/

/-- A pallet in TO_REJECT on the label unit is passed on to the finish reject spur, or waits BLOCKED for its room (R143). -/
def State.passOn (s : State) (n : Nat) : State :=
  match s.askMove n (.spur .finish) with
  | some s' => s'.modLabel fun u => { u with condition := .rejecting }
  | none => s.modLabel fun u => { u with condition := .blocked }

/-- The condition PRINT_WAIT, with the face results PENDING (R136, R140, R147). -/
def State.waitForPrint (s : State) : State :=
  s.modLabel fun u => { u with condition := .printWait, faceA := .pending, faceB := .pending }

/-- The work of the label unit's pallet begins by its outcome (R136). -/
def State.beginLabelWork (s : State) : State :=
  match s.label.pallet with
  | none => s
  | some p =>
    if p.failed then
      ((s.setStage p.track .toReject).raise .labelDone (noteOf p.track (s.refOf p.track) 3 (some 0))).passOn p.track
    else s.waitForPrint

/-- A pallet's move into LABEL completes (R136). -/
def State.reachLabel (s : State) : State :=
  if s.label.fault.isSome then s.modLabel fun u => { u with condition := .arrived } else s.beginLabelWork

/-- The label attempts of a record. -/
def State.labelAttempts (s : State) (n : Nat) : Nat := ((s.record? n).map (·.labelAttempts)).getD 0

/-- LABEL_OK (R139). -/
def State.labelOk (s : State) (n : Nat) : State :=
  let s := match s.refOf n with
    | some ref => s.modSlot ref fun sl => { sl with state := .finished }
    | none => s
  let s := (s.setStage n .toBuffer).modLabel fun u => { u with condition := .labelled }
  (s.raise .labelDone (noteOf n (s.refOf n) 1 (some (s.labelAttempts n)))).modBuffer fun b => { b with exitPallet := some n }

/-- The pallet becomes LABEL_FAILED (R142). -/
def State.failLabel (s : State) (n : Nat) : State :=
  let s := (s.modRecord n fun r => { r with verdict := some .labelFailed }).reject n .labelFailed
  ((s.count .labelFailures).setStage n .toReject).passOn n

/-- The label unit's pallet leaves (R144). The face results hold PENDING again (log entry 47). -/
def State.leaveLabel (s : State) (n : Nat) : State :=
  if (s.label.pallet.map (·.track)) == some n then
    s.modLabel fun u => { u with
      pallet := none, condition := .empty, print := none, apply := none, faceA := .pending, faceB := .pending }
  else s

/-! ### The verify (R138, R140) -/

/-- The fault of a face whose result is not OK (R140). -/
def faceFault (f : Face) : FaceResult → Option Code
  | .noRead => some (match f with | .a => .noReadA | .b => .noReadB)
  | .mismatch => some (match f with | .a => .mismatchA | .b => .mismatchB)
  | _ => none

/-- The end of a verify: LABEL_OK, or the faults of the faces with a retry or LABEL_FAILED (R138 to R140). -/
def State.endVerify (s : State) (n : Nat) : State :=
  match (faceFault .a s.label.faceA).toList ++ (faceFault .b s.label.faceB).toList with
  | [] => s.labelOk n
  | c :: rest =>
    let s := (c :: rest).foldl (fun s c => s.enterFault n c) s
    let s := s.raise .labelFault (noteOf n (s.refOf n) c.number (some (s.labelAttempts n)))
    if s.labelAttempts n ≤ s.setting .labelRetries then s.waitForPrint.makePurgePending else s.failLabel n

/-- The answer of a read at scanner 5 sets the result of its face, and ends the verify when both are set (R138). -/
def State.faceAnswer (s : State) (n : Nat) (f : Face) (r : FaceResult) : State :=
  let s := s.modLabel fun u => match f with
    | .a => { u with faceA := r }
    | .b => { u with faceB := r }
  if s.label.condition == .verifying && s.label.faceA != .pending && s.label.faceB != .pending then s.endVerify n else s

/-- The result a TAG at scanner 5 gives (R138). -/
def State.faceResult (s : State) (n : Nat) (digits : Text) : FaceResult :=
  if !validTag digits then .noRead
  else if (s.record? n).bind (·.tag) == some digits then .ok
  else .mismatch

/-! ### Faults of the label unit (R145) -/

/-- The code of a fault cause (R208). -/
def LabelCause.code : LabelCause → Code
  | .printTimeout => .printTimeout
  | .applyTimeout => .applyTimeout
  | .move => .moveTimeout

/-- The label unit faults with a timeout: the list is emptied, a record receives the fault, STATION_CHANGE and LABEL_FAULT
are raised (R145). With no record to receive the fault, LABEL_FAULT carries no track number and no value (log entry 23). -/
def State.faultLabel (s : State) (cause : LabelCause) (track : Option Nat) : State :=
  let s := s.modLabel fun u => { u.forgetJobs with fault := some cause }
  match track.bind s.record? with
  | some r =>
    (s.enterFault r.number cause.code).settleStations.raise .labelFault
      { track := some r.number, detail := cause.code.number, value := some r.labelAttempts }
  | none => s.settleStations.raise .labelFault { detail := cause.code.number }

/-- LATE for a message of the printer port (R146). -/
def State.lateJob (s : State) (job : Nat) : State := s.raise .late { detail := Station.label.number, value := some job }

/-- The job with a number in the printer job list. -/
def State.job? (s : State) (job : Nat) : Option Job := s.label.jobs.find? (·.number == job)

/-- STATION_RESUME of a label unit whose fault is cleared: the work its cause calls for (R147). -/
def State.resumeLabelWork (s : State) : LabelCause → State
  | .printTimeout => s.makePurgePending
  | .applyTimeout =>
    let s := s.makePurgePending
    match s.label.pallet with
    | none => s
    | some p => if s.labelAttempts p.track ≤ s.setting .labelRetries then s.waitForPrint else s.failLabel p.track
  | .move => s

/-- STATION_RESUME for LABEL (R147). -/
def State.resumeLabel (s : State) : State :=
  match s.label.fault with
  | none => s
  | some cause =>
    let s := ((s.modLabel fun u => { u with fault := none }).settleStations).resumeLabelWork cause
    if s.label.condition == .arrived then s.beginLabelWork else s

/-- The Label Controller drops a deleted record (R149). -/
def State.dropFromLabel (s : State) (n : Nat) : State :=
  let s := if s.label.holdsJob n then (s.modLabel fun u => u.dropJob n).makePurgePending else s
  if (s.label.pallet.map (·.track)) == some n then
    let s := if s.label.apply.isSome then s.makePurgePending else s
    (s.leaveLabel n).endReads .verify n
  else s

/-! ### The commands -/

/-- A job is sent for the first pallet of the label sequence that needs one (R134). -/
def execJobSend (s : State) : Answer :=
  if s.maySendJob then
    match s.needsJob.bind s.record? with
    | some r => .next (s.sendJob r).settle
    | none => .next s
  else .next s

/-- TAKEN (R134, R146). -/
def execTaken (job : Nat) (s : State) : Answer :=
  if !validNumber job then .next s
  else
    match s.job? job with
    | none => .next (s.lateJob job).settle
    | some j => if j.state == .sent then .next (s.setJob j .taken).settle else .next s

/-- PRINTED (R135, R146). -/
def execPrinted (job : Nat) (s : State) : Answer :=
  if !validNumber job then .next s
  else
    match s.job? job with
    | none => .next (s.lateJob job).settle
    | some j => if j.state == .printed then .next s else .next (s.setJob j .printed).settle

/-- APPLY is sent for the pallet's printed job (R137). -/
def execApplySend (s : State) : Answer :=
  match s.palletJob with
  | some j =>
    if s.label.condition == .printWait && j.state == .printed && s.working && s.label.fault.isNone && s.label.purge == .none then
      .next (((s.modRecord j.track fun r => { r with labelAttempts := r.labelAttempts + 1 }).modLabel fun u =>
        { u with condition := .applying, apply := some (s.setting .applyLimit) }).send (.apply j.number)).settle
    else .next s
  | none => .next s

/-- APPLIED: the verify begins (R137, R138), or the message is LATE (R146). -/
def execApplied (job : Nat) (s : State) : Answer :=
  if !validNumber job then .next s
  else
    match s.palletJob with
    | some j =>
      if j.number == job && s.label.condition == .applying then
        .next (((s.modLabel fun u => { u.dropJob j.track with condition := .verifying, apply := none }).askRead .verify
          ⟨j.track, .verify .a⟩).askRead .verify ⟨j.track, .verify .b⟩).settle
      else .next (s.lateJob job).settle
    | none => .next (s.lateJob job).settle

/-- A PENDING purge starts: the list is emptied and CANCEL_ALL is sent (R141). -/
def execPurgeStart (s : State) : Answer :=
  if s.label.purge == .pending && s.working && s.label.fault.isNone && s.label.condition != .applying then
    .next ((s.modLabel fun u => { u with jobs := [], ack := some (s.setting .ackLimit), purge := .running }).send .cancelAll).settle
  else .next s

/-- CANCELLED (R141, R146). -/
def execCancelled (s : State) : Answer :=
  if s.label.purge == .running then .next (s.modLabel fun u => { u with purge := .none, ack := none }).settle else .next s

/-- The acknowledge limit of a SENT job runs out (R145). -/
def execJobAckLimitExpiry (s : State) : Answer :=
  match s.label.jobs.find? fun j => j.state == .sent with
  | some j =>
    if s.label.ack == some 0 && s.label.purge != .running && s.mode.mode != .halted then
      .next (s.faultLabel .printTimeout (some j.track)).settle
    else .next s
  | none => .next s

/-- The acknowledge limit of a RUNNING purge runs out (R145). -/
def execPurgeAckLimitExpiry (s : State) : Answer :=
  if s.label.ack == some 0 && s.label.purge == .running && s.mode.mode != .halted then
    .next ((s.modLabel fun u => { u with purge := .none }).faultLabel .printTimeout (s.label.pallet.map (·.track))).settle
  else .next s

/-- The print limit runs out (R135, R145). -/
def execPrintLimitExpiry (s : State) : Answer :=
  if s.label.print == some 0 && s.mode.mode != .halted then
    .next ((s.modLabel fun u => { u with print := none }).faultLabel .printTimeout (s.label.pallet.map (·.track))).settle
  else .next s

/-- The apply limit runs out (R137, R145). -/
def execApplyLimitExpiry (s : State) : Answer :=
  if s.label.apply == some 0 && s.mode.mode != .halted then
    .next ((s.modLabel fun u => { u with apply := none }).faultLabel .applyTimeout (s.label.pallet.map (·.track))).settle
  else .next s

/-- A BLOCKED label unit asks for its move to the finish reject spur again (R143). -/
def execLabelRejectMove (s : State) : Answer :=
  match s.label.condition, s.label.pallet with
  | .blocked, some p =>
    match s.askMove p.track (.spur .finish) with
    | some s' => .next (s'.modLabel fun u => { u with condition := .rejecting }).settle
    | none => .next s
  | _, _ => .next s

end Sys2Proof.Machine
end

