-- ==== Sys2Proof/Machine/Buffer.lean ====
section
/-! DEFINITION. The Buffer Controller and the Lane Controller (chapter 8): windows, the shuttle's tasks and deliveries, and
the requests on lanes. -/

namespace Sys2Proof.Machine

/-! ### Choices (R160) -/

/-- The lanes in turn from the one after the lane served last (R160). -/
def lanesFrom (l : Lane) : List Lane :=
  [0, 1, 2, 3, 4, 5].map fun i => ⟨(l.val + 1 + i) % 6, Nat.mod_lt _ (by decide)⟩

/-- The HELD pallets releasable into a lane whose position is not UNKNOWN and which have no move (R160, case 1). -/
def State.heldFor (s : State) (l : Lane) : List Record :=
  s.track.records.filter fun r =>
    r.stage == .held && s.releasable r == some l && !(s.place r.location).unknown && (s.move? r.number).isNone

/-- The load position of a record, 0 for one with no load reference. -/
def Record.position (r : Record) : Nat := (r.ref.map (·.position)).getD 0

/-- The record of the lowest load position in a list. -/
def lowest : List Record → Option Record
  | [] => none
  | r :: rest => some (rest.foldl (fun a b => if b.position < a.position then b else a) r)

/-- The HELD pallet taken for a lane: the one at its next position, or else the forced pallet of the lowest load position (R160). -/
def State.heldTaken (s : State) (l : Lane) : Option Record :=
  let c := s.heldFor l
  match c.find? fun r => (s.boundLoad l).bind Load.nextPosition == some r.position with
  | some r => some r
  | none => lowest c

/-- The pallet and the target of the first case of R160 that applies. -/
def State.shuttleTask (s : State) : Option (Record × TaskFor) :=
  match (lanesFrom s.buffer.lastServed).findSome? fun l => (s.heldTaken l).map fun r => (r, l) with
  | some (r, l) => some (r, .release l)
  | none =>
    match s.buffer.exitPallet.bind s.record? with
    | none => none
    | some r =>
      if (s.place .label).unknown then none
      else
        match s.releasable r with
        | some l => some (r, .release l)
        | none => (s.choosePosition r).map fun p => (r, .store p)

/-- The conditions of R160, other than a case that applies. -/
def State.shuttleReady (s : State) : Bool :=
  s.working && s.buffer.task.isNone && !s.buffer.fault && s.placeState .shuttle == .free

/-! ### Tasks and deliveries (R161 to R163) -/

/-- Keep a position for a pallet (R151). -/
def BufferController.reserve (b : BufferController) (p : Position) (n : Nat) : BufferController :=
  { b with reserved := tset b.reserved p (some n) }

/-- Clear every reserved mark of a pallet (R162, R163, R166). -/
def BufferController.unreserve (b : BufferController) (n : Nat) : BufferController :=
  { b with reserved := tmap (fun m => if m == some n then none else m) b.reserved }

/-- A release is under way: it enters the release list, and its lane is the lane served last (R161, R162). -/
def BufferController.release (b : BufferController) (n : Nat) (l : Lane) : BufferController :=
  { b with releases := b.releases ++ [⟨n, l⟩], lastServed := l }

/-- Set the shuttle task (R161). -/
def BufferController.setTask (b : BufferController) (n : Nat) (target : TaskFor) (leg : Leg) : BufferController :=
  { b with task := some ⟨n, target, leg⟩ }

/-- Give the shuttle a task (R161): the pickup move is asked, and the task, the mark or the release is set. -/
def State.giveTask (s : State) (n : Nat) (target : TaskFor) : State :=
  match s.askMove n .shuttle with
  | none => s
  | some s' =>
    s'.modBuffer fun b =>
      (match target with
        | .store p => b.reserve p n
        | .release l => b.release n l).setTask n target .pickup

/-- Ask for a delivery; a destination without room leaves the shuttle waiting (R162). -/
def State.askDelivery (s : State) (n : Nat) (dest : Place) : State := (s.askMove n dest).getD s

/-- A STORE becomes a RELEASE (R162). -/
def State.storeToRelease (s : State) (n : Nat) (l : Lane) : State :=
  ((s.modBuffer fun b => ((b.unreserve n).release n l).setTask n (.release l) .delivery).setStage n .releasing).askDelivery n
    (.lane l)

/-- A STORE delivery to its reserved position while that is FREE, or to one chosen anew (R162). -/
def State.storeDelivery (s : State) (n : Nat) (p : Position) (r : Record) : State :=
  if tget s.buffer.reserved p == some n && s.placeState (.position p) == .free then s.askDelivery n (.position p)
  else
    let s := s.modBuffer fun b => b.unreserve n
    match s.choosePosition r with
    | some q => (s.modBuffer fun b => (b.reserve q n).setTask n (.store q) .delivery).askDelivery n (.position q)
    | none => s

/-- Decide the delivery of the shuttle's pallet and ask it (R162). -/
def State.decideDelivery (s : State) : State :=
  match s.buffer.task with
  | none => s
  | some t =>
    match s.record? t.track, t.target with
    | none, _ => s
    | some _, .release l => s.askDelivery t.track (.lane l)
    | some r, .store p =>
      match s.releasable r with
      | some l => s.storeToRelease t.track l
      | none => s.storeDelivery t.track p r

/-- A pickup completes: the leg becomes DELIVERY, decided at once unless SHUTTLE is FAULTED (R162, R165). -/
def State.pickedUp (s : State) (n : Nat) : State :=
  match s.buffer.task with
  | some t =>
    if t.track == n then
      let s := s.modBuffer fun b => b.setTask n t.target .delivery
      if s.buffer.fault then s else s.decideDelivery
    else s
  | none => s

/-- The task of a pallet ends (R163, R166). -/
def BufferController.endTask (b : BufferController) (n : Nat) : BufferController :=
  { b with task := match b.task with | some t => if t.track == n then none else some t | none => none }

/-- A delivery into a position completes (R163). -/
def State.storeCompleted (s : State) (n : Nat) (p : Position) : State :=
  let s := (s.modBuffer fun b => (b.unreserve n).endTask n).setStage n .held
  let lane := ((s.record? n).bind s.boundLane).map (·.2.2)
  s.raise .held (noteOf n (s.refOf n) (p.val + 1) (some (laneNumber lane)))

/-- The Buffer Controller drops a record (R163, R166). -/
def State.dropFromBuffer (s : State) (n : Nat) : State :=
  s.modBuffer fun b =>
    { (b.unreserve n).endTask n with
      releases := b.releases.filter fun r => r.track != n
      forced := b.forced.filter (· != n)
      exitPallet := if b.exitPallet == some n then none else b.exitPallet }

/-- The label-exit pallet leaves the LABEL place (R161). -/
def State.leaveExit (s : State) (n : Nat) : State :=
  s.modBuffer fun b => { b with exitPallet := if b.exitPallet == some n then none else b.exitPallet }

/-- SHUTTLE faults at a lost move; a lost delivery to a position clears its reserved mark (R164). -/
def State.faultShuttle (s : State) (m : Move) : State :=
  s.modBuffer fun b =>
    let b := { b with fault := true }
    if m.source == .shuttle then b.unreserve m.track else b

/-- STATION_RESUME for SHUTTLE (R165). Log entry 39. -/
def State.resumeShuttle (s : State) : State :=
  if s.buffer.fault then
    let s := s.modBuffer fun b => { b with fault := false }
    match s.buffer.task with
    | none => s
    | some t =>
      if t.leg == .pickup then s
      else
        match s.move? t.track with
        | some m => if m.state == .lost then s.modBuffer fun b => b.endTask t.track else s
        | none => s.decideDelivery
  else s

/-! ### Requests (R152, R169 to R172) -/

/-- A window lies as R152 asks: its base and size in range, and inside one rack. -/
def Window.taken (w : Window) : Bool :=
  within 1 16 w.base && within 0 8 w.size
    && (w.size == 0 || decide (w.base + w.size ≤ 9) || (decide (9 ≤ w.base) && decide (w.base + w.size ≤ 17)))

/-- The window table a list of entries makes, when it is taken (R152). -/
def windowsTaken (t : List Window) : Option (Vector Window 6) :=
  if h : t.length = 6 then
    if t.all Window.taken && (allPositions.all fun p => decide ((t.filter fun w => windowHolds w p).length ≤ 1))
    then some ⟨t.toArray, by simpa using h⟩ else none
  else none

/-- SET_TABLE WINDOWS (R152, R196). -/
def setWindows (t : List Window) : Service := fun s =>
  match windowsTaken t with
  | some w => (s.modBuffer fun b => { b with windows := w }, .ok, .nothing)
  | none => refuse s .badArgument

/-- FORCE_RELEASE (R169). The forced list takes a seventeenth number (log entry 52). -/
def forcePallet (track : Nat) : Service := fun s =>
  match s.record? track with
  | none => refuse s .unknownPallet
  | some r =>
    if r.stage != .held then refuse s .badArgument
    else
      match s.boundLane r with
      | none => refuse s .notBound
      | some (_, _, ln) =>
        let s := if s.buffer.forced.contains track then s else s.modBuffer fun b => { b with forced := b.forced ++ [track] }
        (s, .ok, .forced (ln.val + 1) (s.releasable r).isSome)

/-- LANE_HALT and LANE_RESUME set the halt flag (R170, R171). -/
def setHalt (lane : Nat) (halt : Bool) : Service := fun s =>
  match laneOf lane with
  | none => refuse s .badArgument
  | some l =>
    let s := s.modLane l fun e => { e with halt := halt }
    (s, .ok, .lane (s.laneStatus l))

/-- The shuttle's condition (R159). -/
def State.shuttleCondition (s : State) : ShuttleCondition :=
  match s.buffer.task with
  | none => .idle
  | some t => match t.leg with | .pickup => .picking | .delivery => .carrying

/-- A lane's row in READ_LANE (R172). -/
def State.laneRow (s : State) (l : Lane) : LaneRow :=
  let load := s.boundLoad l
  let next := load.bind Load.nextPosition
  let claimant := (load.bind fun ld => next.bind ld.slotAt).bind (·.claimant)
  { status := s.laneStatus l
    beacon := (tget s.field.lamps (Lamp.lane l).idx).pattern
    load := load.map fun ld => (ld.id, ld.status)
    next
    awaitsSlot := match load, next with | some ld, some n => decide (ld.slots.length < n) | _, _ => false
    claiming := (claimant.bind s.record?).map fun r => (r.number, r.stage)
    count := (tget s.lanes l).count
    releases := s.releasesTo l
    doorOpen := s.input (.laneDoor l)
    halt := (tget s.lanes l).halt
    window := tget s.buffer.windows l
    held := match load with
      | some ld => (s.track.records.filter fun r => r.stage == .held && r.ref.map (·.load) == some ld.id).length
      | none => 0 }

/-- READ_LANE (R172). -/
def readLaneOp (lane : Nat) : Service := fun s =>
  let rows : List Lane → ReplyBody := fun ls =>
    .lanes (ls.map s.laneRow) s.shuttleCondition s.buffer.task (s.stationState .shuttle) s.buffer.exitPallet
      (s.buffer.lastServed.val + 1) s.buffer.deadlock
  if lane == 0 then (s, .ok, rows allLanes)
  else
    match laneOf lane with
    | some l => (s, .ok, rows [l])
    | none => refuse s .badArgument

/-! ### The commands -/

/-- The Buffer Controller chooses a pallet and gives the shuttle a task (R160, R161). -/
def execShuttleChoice (s : State) : Answer :=
  if s.shuttleReady then
    match s.shuttleTask with
    | some (r, target) => .next (s.giveTask r.number target).settle
    | none => .next s
  else .next s

/-- A waiting shuttle decides its delivery again (R162). -/
def execDeliveryDecision (s : State) : Answer :=
  if s.shuttleWaiting && !s.buffer.fault then .next s.decideDelivery.settle else .next s

/-- SET_TABLE WINDOWS (R152). -/
def execSetTableWindows (q : Req) (windows : List Window) (s : State) : Answer :=
  .next (serve 0x05 .changes (setWindows windows) q s)

/-- FORCE_RELEASE (R169). -/
def execForceRelease (q : Req) (track : Nat) (s : State) : Answer := .next (serve 0x38 .changes (forcePallet track) q s)

/-- LANE_HALT (R170). -/
def execLaneHalt (q : Req) (lane : Nat) (s : State) : Answer := .next (serve 0x39 .changes (setHalt lane true) q s)

/-- LANE_RESUME (R171). -/
def execLaneResume (q : Req) (lane : Nat) (s : State) : Answer := .next (serve 0x3A .changes (setHalt lane false) q s)

/-- READ_LANE (R172). -/
def execReadLane (q : Req) (lane : Nat) (s : State) : Answer := .next (serve 0x3B .reads (readLaneOp lane) q s)

end Sys2Proof.Machine
end

