-- ==== Sys2Proof/Machine/Track.lean ====
section
/-! DEFINITION. The Track Table (chapter 3): arrivals, scanner answers, deferrals, infeeds and the deletion of records. -/

namespace Sys2Proof.Machine

/-! ### Deletion (R67) -/

/-- Why a record is deleted, as its slot is told (R67): dispatch, the end of a spur, PALLET_REMOVE. -/
inductive Deletion | dispatched | spurEnd | removed
  deriving DecidableEq, Repr

/-- The slot of a deleted record is told (R67, part 1; R13, R14). -/
def State.tellSlot (s : State) (ref : LoadRef) : Deletion → State
  | .dispatched =>
    (s.modSlot ref fun sl => { sl with state := .dispatched, claimant := none }).testComplete ref.load
  | .removed => s.modSlot ref fun sl => { sl with state := .expected, claimant := none }
  | .spurEnd => s

/-- A deleted record's move leaves the list, and its destination gives up the incoming entry (R67, part 2): the destination becomes
UNKNOWN when it is covered, and FREE when it is not and has no other occupant (R44). Log entries 15 and 16. -/
def State.dropMove (s : State) (n : Nat) : State :=
  match s.move? n with
  | none => s
  | some m =>
    let s := (s.removeMove n).leaveIncoming m.dest n
    if s.covered m.dest || s.occupancy m.dest == 0 then s.vacate m.dest 2 else s

/-- A deleted record leaves the occupants of its location (R67, part 3); a lane is left to the Lane Controller. -/
def State.leaveLocation (s : State) (n : Nat) (p : Place) : State :=
  if (s.place p).occupants.contains n then
    let s := s.leaveOccupants p n
    match p with
    | .lane _ => s
    | _ => if (s.place p).occupants.isEmpty then s.vacate p 2 else s
  else s

/-- The check station holds a record: it stands on CHECK, moves to it, or is being checked (R91). -/
def State.checkHolds (s : State) (r : Record) : Bool :=
  (s.place .check).occupants.contains r.number || r.movingTo == some .check
    || (match s.check.current with | some c => c.track == r.number | none => false)

/-- Delete a record in one act (R67). -/
def State.deleteRecord (s : State) (n : Nat) (why : Deletion) : State :=
  match s.record? n with
  | none => s
  | some r =>
    let onCheck := s.checkHolds r
    let s := match r.ref with | some ref => s.tellSlot ref why | none => s
    let s := (s.dropMove n).leaveLocation n r.location
    let s := if onCheck then s.abandonCheck n else s
    let s := ((s.dropFromWrap n).dropFromLabel n).dropFromBuffer n
    let s := allScanners.foldl (fun s sc => s.endReads sc n) s
    s.modTrack fun t => { t with records := t.records.filter fun r => r.number != n }

/-! ### Arrivals (R52, R55 to R57) -/

/-- The first number from `n` upward, 255 being followed by 1, that no record holds (R52); `fuel` numbers are tried. -/
def State.freeNumber (s : State) : Nat → Nat → Nat
  | 0, n => n
  | fuel + 1, n => if (s.record? n).isNone then n else s.freeNumber fuel (nextNumber n)

/-- The case in which an arrival is refused (R56). -/
def State.refusal (s : State) (i : Infeed) : Option Nat :=
  if !tget s.track.enabled i.idx then some 1
  else if s.mode.mode == .drain then some 2
  else if (s.place (.infeed i)).unknown then some 3
  else if 3 ≤ (s.place (.infeed i)).occupants.length then some 4
  else if Config.recordCapacity ≤ s.track.records.length then some 5
  else none

/-- A new record (R57). -/
def newRecord (n : Nat) (i : Infeed) (t : LineTime) : Record where
  number := n
  tag := none
  infeed := i
  arrival := t
  ref := none
  mark := none
  stage := .entering
  preLost := none
  headMark := false
  location := .infeed i
  movingTo := none
  height := none
  overhang := none
  mass := none
  deviation := none
  verdict := none
  faults := []
  faultsLost := 0
  wrapper := none
  wrapAttempts := 0
  filmLength := none
  filmMass := none
  shippedGross := none
  job := none
  labelAttempts := 0
  deferral := none

/-- Set or clear an infeed's entry-taken mark (R29). -/
def State.setTaken (s : State) (i : Infeed) (b : Bool) : State :=
  s.modField fun u => { u with entryTaken := tset u.entryTaken i.idx b }

/-- Create the record of an arrival (R57). -/
def State.createRecord (s : State) (i : Infeed) : State :=
  let n := s.freeNumber 255 s.track.nextNumber
  let s := s.modTrack fun t => { t with records := t.records ++ [newRecord n i s.lineTime], nextNumber := nextNumber n }
  let s := (s.setTaken i true).modPlace (.infeed i) fun e => { e with occupants := e.occupants ++ [n] }
  (s.raise .arrival
    { track := some n, detail := i.number, value := some (s.place (.infeed i)).occupants.length }).askRead (.entry i) ⟨n, .entry⟩

/-- An arrival at an infeed: taken or refused in RUN and DRAIN, and nothing in any other mode (R55, R56). -/
def State.arrive (s : State) (i : Infeed) : State :=
  if s.working then
    match s.refusal i with
    | some c => s.raise .infeedRefused { detail := i.number, value := some c }
    | none => s.createRecord i
  else s

/-- The start of watching of an infeed (R29). -/
def State.watch (s : State) (i : Infeed) : State :=
  if s.input (.entry i) && !tget s.field.entryTaken i.idx then s.arrive i else s

/-- The start of watching considers every infeed in turn (R29). The order A, B, C, which decides who takes the next track number
(R57) and the last free record (R56), is the model's choice: log entry 54. -/
def State.watchAll (s : State) : State := allInfeeds.foldl State.watch s

/-- The oldest pallet that is not leaving its infeed reaches the head (R46, R65). Log entry 14. -/
def State.reachHead (s : State) (i : Infeed) : State :=
  match (s.place (.infeed i)).occupants.find? fun n => s.stageOf n != some .checking with
  | some n => (s.modRecord n fun r => { r with headMark := true }).testReady n
  | none => s

/-! ### Wake holds (R33) -/

/-- Start the wake hold of an infeed when its conditions hold (R33). -/
def State.startWake (s : State) (i : Infeed) : State :=
  if s.mode.mode == .stopped && s.settingOn .autoWake && tget s.track.enabled i.idx && s.input (.entry i) then
    s.modField fun u => { u with wakeHolds := tset u.wakeHolds i.idx (some (s.setting .wakeHold)) }
  else s

/-- Abandon the wake hold of an infeed (R33). -/
def State.stopWake (s : State) (i : Infeed) : State :=
  s.modField fun u => { u with wakeHolds := tset u.wakeHolds i.idx none }

/-- Start every wake hold whose conditions hold. -/
def State.startWakes (s : State) : State := allInfeeds.foldl State.startWake s

/-- Abandon every wake hold. -/
def State.stopWakes (s : State) : State := s.modField fun u => { u with wakeHolds := Vector.replicate 3 none }

/-! ### Scanner answers (R58 to R64) -/

/-- A deferral begins (R61). Log entry 40. -/
def State.beginDeferral (s : State) (n : Nat) : State :=
  let d := s.deadline (s.setting .deferLimit)
  match s.record? n with
  | some r =>
    (s.modRecord n fun r => { r with stage := .deferred, deferral := some d }).raise .defer
      (noteOf n r.ref r.infeed.number (some d.due.toInt))
  | none => s

/-- The answer of an entry read: a tag, matched, or a no-read (R58, R59). -/
def State.entryAnswer (s : State) (n : Nat) (t : Option Text) : State :=
  match t with
  | none =>
    let s := match s.record? n with
      | some r => s.count (.noRead r.infeed)
      | none => s
    (s.reportMatch n 4 1).testReady n
  | some t =>
    match (s.modRecord n fun r => { r with tag := some t }).matchTag n t 1 with
    | (s, .notFound) => if s.setting .deferLimit == 0 then (s.markUnplanned n 1).testReady n else s.beginDeferral n
    | (s, _) => s.testReady n

/-- Apply the answer of a read: the digits of a TAG, or none for NO_READ and for an expired limit (R58, R87, R138). -/
def State.applyRead (s : State) (rd : Read) (digits : Option Text) : State :=
  match rd.purpose with
  | .entry => s.entryAnswer rd.track (digits.filter validTag)
  | .check => s.checkTag rd.track (digits.filter validTag)
  | .verify f => s.faceAnswer rd.track f (match digits with | some t => s.faceResult rd.track t | none => .noRead)

/-- The outstanding read of a scanner ends with an answer; the next waiting read is sent (R58). A late answer to a read whose
limit has expired is taken as the answer of the read that is outstanding when it comes (log entry 48). -/
def State.endRead (s : State) (sc : Scanner) (rd : Read) (digits : Option Text) : State :=
  ((s.modScanner sc fun e => { e with outstanding := none, ended := none }).applyRead rd digits).sendRead sc

/-- The answer to an ended read has come, or its limit has run out: the next waiting read is sent (R58). Log entry 10. -/
def State.closeEnded (s : State) (sc : Scanner) : State := (s.modScanner sc fun e => { e with ended := none }).sendRead sc

/-- An answer that finds no read outstanding is ignored with LATE (R58, R67). -/
def State.lateAnswer (s : State) (sc : Scanner) : State :=
  let s := s.raise .late { detail := sc.number }
  if (s.scanner sc).ended.isSome then s.closeEnded sc else s

/-- TAG (R58). -/
def execTag (sc : Scanner) (digits : Text) (s : State) : Answer :=
  match (s.scanner sc).outstanding with
  | some (rd, _) => .next (s.endRead sc rd (some digits)).settle
  | none => .next (s.lateAnswer sc).settle

/-- NO_READ (R58). -/
def execNoRead (sc : Scanner) (s : State) : Answer :=
  match (s.scanner sc).outstanding with
  | some (rd, _) => .next (s.endRead sc rd none).settle
  | none => .next (s.lateAnswer sc).settle

/-- The answer limit of an outstanding read, or of an ended one, expires (R58). -/
def execAnswerLimitExpiry (sc : Scanner) (s : State) : Answer :=
  match (s.scanner sc).outstanding with
  | some (rd, left) => if left == 0 && s.mode.mode != .halted then .next (s.endRead sc rd none).settle else .next s
  | none => if (s.scanner sc).ended == some 0 && s.mode.mode != .halted then .next (s.closeEnded sc) else .next s

/-- A deferral deadline expires (R63). -/
def execDeferralDeadlineExpiry (track : Nat) (s : State) : Answer :=
  match s.record? track with
  | some r =>
    match r.deferral with
    | some d =>
      if r.stage == .deferred && d.left == 0 && s.mode.mode != .halted then
        .next ((s.markUnplanned track 4).endDeferral track).settle
      else .next s
    | none => .next s
  | none => .next s

/-! ### Requests (R69 to R72) -/

/-- Infeed number 1 to 3 (R56). -/
def infeedOf : Nat → Option Infeed
  | 1 => some .a
  | 2 => some .b
  | 3 => some .c
  | _ => none

/-- Enable or disable an infeed (R66). -/
def State.setEnabled (s : State) (i : Infeed) (on : Bool) : State :=
  if tget s.track.enabled i.idx == on then s
  else
    let s := s.modTrack fun t => { t with enabled := tset t.enabled i.idx on }
    if on then (s.watch i).startWake i else s.stopWake i

/-- INFEED_SET (R69). -/
def setInfeed (infeed state : Nat) : Service := fun s =>
  match infeedOf infeed with
  | none => refuse s .badArgument
  | some i =>
    if 1 < state then refuse s .badArgument
    else
      let s := s.setEnabled i (state == 1)
      (s, .ok, .infeed (tget s.track.enabled i.idx) (s.place (.infeed i)).occupants.length ((s.oldest i).map (·.stage)))

/-- READ_PALLET (R70). -/
def readPalletOp (track : Nat) : Service := fun s =>
  match s.record? track with
  | none => refuse s .unknownPallet
  | some r =>
    (s, .ok, .pallet r ((s.move? track).map (·.state)) (if r.stage == .deferred then r.deferral.map (·.left) else none))

/-- A record's summary in LIST_PALLETS (R71). -/
def Record.summary (r : Record) : PalletRow := ⟨r.number, r.stage, r.infeed, r.location, r.ref, r.mark, r.verdict⟩

/-- LIST_PALLETS (R71); selector 0 is ALL, and 1 to 13 a stage number (log entry 21). -/
def listPalletsOp (start selector : Nat) : Service := fun s =>
  if 31 < start || 13 < selector then refuse s .badArgument
  else
    let admitted := s.track.records.filter fun r => selector == 0 || r.stage.number == selector
    let rest := admitted.drop start
    (s, .ok, .pallets ((rest.take 16).map Record.summary) admitted.length s.track.records.length s.lineTime
      (decide (16 < rest.length)))

/-- The move of a record is IN_FLIGHT (R72). -/
def State.inMotion (s : State) (n : Nat) : Bool := (s.move? n).any fun m => m.state == .inFlight

/-- PALLET_REMOVE (R72). -/
def removePallet (track : Nat) : Service := fun s =>
  match s.record? track with
  | none => refuse s .unknownPallet
  | some r =>
    if s.inMotion track then refuse s .inMotion
    else if r.stage == .releasing || r.stage == .wrapping then refuse s .busy
    else
      let s := (s.deleteRecord track .removed).raise .removed (noteOf track r.ref r.location.number (some 2))
      (s, .ok, .removed r.ref r.location.number (s.placeState r.location))

/-- INFEED_SET (R69). -/
def execInfeedSet (q : Req) (infeed state : Nat) (s : State) : Answer :=
  .next (serve 0x28 .changes (setInfeed infeed state) q s)

/-- READ_PALLET (R70). -/
def execReadPallet (q : Req) (track : Nat) (s : State) : Answer := .next (serve 0x29 .reads (readPalletOp track) q s)

/-- LIST_PALLETS (R71). -/
def execListPallets (q : Req) (start selector : Nat) (s : State) : Answer :=
  .next (serve 0x2A .reads (listPalletsOp start selector) q s)

/-- PALLET_REMOVE (R72). -/
def execPalletRemove (q : Req) (track : Nat) (s : State) : Answer :=
  .next (serve 0x2B .changes (removePallet track) q s)

end Sys2Proof.Machine
end

