-- ==== Sys2Proof/Machine/Field.lean ====
section
/-! DEFINITION. The Field Unit (chapter 2): filtered inputs and what each change does, the start, completion, expiry and late
completion of moves, the speed monitors, and its requests. -/

namespace Sys2Proof.Machine

/-! ### Leaving and reaching places (R42 to R44) -/

/-- The owner of the place a pallet has left by its move is told: CHECK (R90, R91), a wrapper (R126), LABEL (R144, R161). -/
def State.leftPlace (s : State) (n : Nat) : Place → State
  | .check => s.checkLeft
  | .wrapper w => s.leaveWrapper w
  | .label => (s.leaveLabel n).leaveExit n
  | _ => s

/-- A delivery into a lane is taken as a dispatch (R163). -/
def State.dispatch (s : State) (n : Nat) (l : Lane) : State :=
  let ref := s.refOf n
  let s := (s.modLane l fun e => { e with count := e.count + 1 }).deleteRecord n .dispatched
  s.raise .dispatch (noteOf n ref (l.val + 1) (some (tget s.lanes l).count))

/-- The owner of the place a pallet has reached by its move is told. -/
def State.reachedPlace (s : State) (n : Nat) : Place → State
  | .check => s.reachCheck n
  | .staging k => s.enterStaging n k
  | .wrapper w => s.reachWrapper w
  | .label => s.reachLabel
  | .shuttle => s.pickedUp n
  | .position p => s.storeCompleted n p
  | .lane l => s.dispatch n l
  | .infeed _ => s
  | .spur _ => s

/-- The pallet of a move joins its destination: location, occupants and incoming list, and the move leaves the list (R42, R44). -/
def State.joinDest (s : State) (m : Move) : State :=
  let s := s.modRecord m.track fun r => { r with location := m.dest, movingTo := none }
  let s := s.modPlace m.dest fun e => { e with
    incoming := e.incoming.filter (· != m.track)
    occupants := match m.dest with
      | .lane _ => e.occupants
      | _ => e.occupants ++ [m.track] }
  s.removeMove m.track

/-- The pallet of a completing move leaves the place it left, which is clearing while the pallet still covers it (R42). -/
def State.leaveSource (s : State) (m : Move) : State :=
  let s := s.leaveOccupants m.source m.track
  if m.source.capacity == 1 && s.covered m.source then s.modPlace m.source fun e => { e with clearing := true } else s

/-- A move completes (R42). -/
def State.completeMove (s : State) (m : Move) : State :=
  (((s.leaveSource m).joinDest m).leftPlace m.track m.source).reachedPlace m.track m.dest

/-- A lost move completes late (R44): the record first returns to the stage it held before it became LOST. Log entry 25. -/
def State.completeLate (s : State) (m : Move) : State :=
  let s := s.modRecord m.track fun r => { r with stage := r.preLost.getD r.stage, preLost := none }
  ((s.joinDest m).reachedPlace m.track m.dest).raise .late { track := some m.track, detail := m.dest.number }

/-- The sensor that completes moves to a place becomes covered (R42, R44); none when it completes no move. -/
def State.completion (s : State) (p : Place) : Option State :=
  match s.field.moves.find? fun m => m.dest == p && m.state != .waiting with
  | some m => some (if m.state == .inFlight then s.completeMove m else s.completeLate m)
  | none => none

/-! ### The watch of one-pallet places (R38) -/

/-- A sensor of a one-pallet place becomes covered, completing no move (R38, value 1). -/
def State.coverWatch (s : State) (p : Place) : State :=
  if s.placeState p == .free then s.markUnknown p 1 else s

/-- A sensor of a one-pallet place becomes clear (R38, value 2; R42 for a clearing place). -/
def State.clearWatch (s : State) (p : Place) : State :=
  let e := s.place p
  if s.covered p || e.unknown then s
  else if e.clearing then s.modPlace p fun e => { e with clearing := false }
  else if !e.occupants.isEmpty && (s.field.moves.all fun m => !(m.source == p && m.state == .inFlight)) then s.markUnknown p 2
  else s

/-- The completing sensor of a one-pallet place changes. -/
def State.arrivalSensor (s : State) (p : Place) (active : Bool) : State :=
  if active then (s.completion p).getD (s.coverWatch p) else s.clearWatch p

/-- The exit sensor of CHECK or LABEL changes. -/
def State.exitSensor (s : State) (p : Place) (active : Bool) : State := if active then s.coverWatch p else s.clearWatch p

/-! ### Spur and lane ends (R47) -/

/-- The end sensor of a spur goes from covered to clear (R47, R68). -/
def State.spurRemoval (s : State) (sp : Spur) : State :=
  match (s.place (.spur sp)).unknown, (s.place (.spur sp)).occupants with
  | false, n :: _ =>
    (s.deleteRecord n .spurEnd).raise .removed { track := some n, detail := (Place.spur sp).number, value := some 1 }
  | _, _ => s

/-- The end sensor of a lane goes from covered to clear (R47). -/
def State.laneRemoval (s : State) (l : Lane) : State :=
  if (s.place (.lane l)).unknown then s else s.modLane l fun e => { e with count := e.count - 1 }

/-! ### The purge combination (R32) -/

/-- Every input of the purge combination in force is active (R32). -/
def State.purgeActive (s : State) : Bool :=
  match s.setting .purgeCombination with
  | 0 => false
  | 1 => s.input .op1 && s.input .op2
  | _ => s.input .op1 && s.input .op2 && s.input .key

/-- Start or abandon the purge hold as the combination stands (R32). Log entry 26. -/
def State.purgeWatch (s : State) : State :=
  if s.purgeActive then
    if s.field.purgeHold.isNone && !s.field.purgeSpent then s.modField fun u => { u with purgeHold := some Config.purgeHold } else s
  else s.modField fun u => { u with purgeHold := none, purgeSpent := false }

/-! ### Filtered inputs (R27, R28) -/

/-- The entry sensor of an infeed changes (R29, R33, R55). -/
def State.entrySensor (s : State) (i : Infeed) (active : Bool) : State :=
  if active then (s.arrive i).startWake i else (s.setTaken i false).stopWake i

/-- A change of a filtered level is handed to the blocks of R28. -/
def State.handOn (s : State) : Input → Bool → State
  | .entry i, b => s.entrySensor i b
  | .head i, b => if b then s.reachHead i else s
  | .gateAt i, b => s.gateInput i b
  | .checkArrival, b => s.arrivalSensor .check b
  | .checkExit, b => s.exitSensor .check b
  | .staging k, b => s.arrivalSensor (.staging k) b
  | .wrapper k, b => s.arrivalSensor (.wrapper k) b
  | .labelArrival, b => s.arrivalSensor .label b
  | .labelExit, b => s.exitSensor .label b
  | .shuttleLoaded, b => s.arrivalSensor .shuttle b
  | .position p, b => s.arrivalSensor (.position p) b
  | .spurEntry sp, b => if b then (s.completion (.spur sp)).getD s else s
  | .spurEnd sp, b => if b then s else s.spurRemoval sp
  | .laneEntry l, b => if b then (s.completion (.lane l)).getD s else s
  | .laneEnd l, b => if b then s else s.laneRemoval l
  | .laneDoor _, _ => s
  | .op1, _ => s.purgeWatch
  | .op2, _ => s.purgeWatch
  | .key, _ => s.purgeWatch

/-- Set the timing of an input's filter (R27). -/
def State.setTiming (s : State) (i : Input) (t : Option Nat) : State :=
  s.modField fun u => { u with timing := tset u.timing i.idx t }

/-- A new level becomes an input's filtered level and is handed on (R27). -/
def State.filtered (s : State) (i : Input) (b : Bool) : State :=
  ((s.setTiming i none).modField fun u => { u with filtered := tset u.filtered i.idx b }).handOn i b

/-- A raw level of an input (R27). -/
def State.rawLevel (s : State) (i : Input) : Bool := tget s.field.raw i.idx

/-- A change of a raw level starts its filter, or abandons the timing when it returns to the filtered level (R27). -/
def execInputChange (i : Input) (active : Bool) (s : State) : Answer :=
  if s.rawLevel i == active then .next s
  else
    let s := s.modField fun u => { u with raw := tset u.raw i.idx active }
    if s.input i == active then .next (s.setTiming i none)
    else if s.setting .inputFilter == 0 then .next (s.filtered i active).settle
    else .next (s.setTiming i (some (s.setting .inputFilter)))

/-- A new level has been held for the whole filter time (R27). -/
def execInputFilterExpiry (i : Input) (s : State) : Answer :=
  if tget s.field.timing i.idx == some 0 then .next (s.filtered i (s.rawLevel i)).settle else .next s

/-! ### The start of moves (R40, R41) -/

/-- A move's carrier is free: the car and the shuttle carry one move at a time (R40). -/
def State.carrierFree (s : State) (m : Move) : Bool :=
  (m.carTarget.isNone || s.inFlight.all fun k => k.carTarget.isNone)
    && (m.shuttleTarget.isNone || s.inFlight.all fun k => k.shuttleTarget.isNone)

/-- The conditions of R40 hold for a move. -/
def State.startable (s : State) (m : Move) : Bool :=
  m.state == .waiting && s.working && (s.zone m.zone).state != .stalled
    && !(s.place m.source).unknown && !(s.place m.dest).unknown
    && (match m.dest.completedBy with | some i => !s.input i | none => true)
    && (s.field.moves.all fun k => !(k.dest == m.dest && k.state != .waiting))
    && s.carrierFree m

/-- An earlier car move is to start before this one (R40). Log entry 28. -/
def State.carWaitsFor (s : State) (m : Move) : Bool :=
  m.carTarget.isSome
    && (s.field.moves.takeWhile fun k => k.track != m.track).any fun k => k.carTarget.isSome && s.startable k

/-- The owner of a starting move's pallet is told: CHECKING (R78), WRAPPING (R115), the label unit's pallet (R126, R136),
RELEASING (R161). Log entry 22. -/
def State.startedMove (s : State) (n : Nat) : Place → Place → State
  | .infeed _, .check => s.modRecord n fun r => { r with headMark := false, stage := .checking }
  | .staging k, .wrapper w =>
    ((s.setStage n .wrapping).setStaging k none).raise .wrapDone (noteOf n (s.refOf n) 5 (some w.number))
  | .wrapper w, .label =>
    let failed := s.wrap.labelOrder.any fun e => e.track == n && e.failed
    let s := (s.setStage n .labelling).modWrap fun u => { u with labelOrder := u.labelOrder.filter fun e => e.track != n }
    let s := s.modLabel fun u => { u with pallet := some ⟨n, failed⟩, condition := .incoming }
    s.raise .labelDone (noteOf n (s.refOf n) 2 (some w.number))
  | _, .shuttle =>
    match s.buffer.task with
    | some ⟨k, .release _, _⟩ => if k == n then s.setStage n .releasing else s
    | _ => s
  | _, _ => s

/-- The diverter is set at the start of a move out of CHECK (R30). -/
def State.setDiverter (s : State) (m : Move) : State :=
  if m.source == .check then s.modField fun u => { u with diverterReject := m.dest == .spur .check } else s

/-- Start a move: its travel limit, doubled in a DEGRADED zone, the diverter, and its owner told (R40, R41). -/
def State.startMove (s : State) (m : Move) : State :=
  let doubled := (s.zone m.zone).state == .degraded
  let limit := if doubled then 2 * s.setting .travelLimit else s.setting .travelLimit
  ((s.modMove m.track fun k => { k with state := .inFlight, left := limit, limit, doubled }).setDiverter m).startedMove m.track
    m.source m.dest

/-- A WAITING move starts as soon as its conditions hold (R40). Log entry 7. -/
def execMoveStart (track : Nat) (s : State) : Answer :=
  match s.move? track with
  | some m => if s.startable m && !s.carWaitsFor m then .next (s.startMove m).settle else .next s
  | none => .next s

/-! ### Lost moves (R43) -/

/-- The station answerable for a lost move faults (R43, R91, R125, R145, R164). -/
def State.faultStation (s : State) (m : Move) : State :=
  match m.station with
  | .check => s.modCheck fun c => { c with fault := true }
  | .wrapper w => s.modWrapper w fun u => { u with status := .faulted, cause := some .move }
  | .label => s.modLabel fun u => { u with fault := some .move }
  | .shuttle => s.faultShuttle m
  | .mergeGate => s

/-- The record of a lost move: LOST, the stage it held kept, MOVE_TIMEOUT entered (R43). -/
def Record.lose (r : Record) : Record :=
  { r.enterFault .moveTimeout with stage := .lost, preLost := some r.stage }

/-- The pallet of a lost move leaves the place it left; a place of one pallet becomes FREE, or UNKNOWN with value 4 (R43). -/
def State.loseSource (s : State) (m : Move) : State :=
  let s := s.leaveOccupants m.source m.track
  if m.source.capacity == 1 then s.vacate m.source 4 else s

/-- A move becomes LOST (R43). Log entry 17. -/
def State.loseMove (s : State) (m : Move) : State :=
  let s := (s.modMove m.track fun k => { k with state := .lost, left := 0 }).modRecord m.track Record.lose
  let s := ((((s.loseSource m).leftPlace m.track m.source).faultStation m)).settleStations
  (s.raise .palletLost (noteOf m.track (s.refOf m.track) m.dest.number (some m.limit))).count .lostMoves

/-- The travel limit of a move runs out (R43). -/
def execTravelLimitExpiry (track : Nat) (s : State) : Answer :=
  match s.move? track with
  | some m =>
    if m.state == .inFlight && m.left == 0 && s.mode.mode != .halted then .next (s.loseMove m).settle else .next s
  | none => .next s

/-! ### Speed monitors (R34, R35) -/

/-- A zone setting's expected count (R34). -/
def State.expected (s : State) (z : Zone) : Nat := s.setting (.zonePulses z)

/-- The outcomes of a window (R34). -/
inductive WindowClass | inBand | outOfBand | empty
  deriving DecidableEq, Repr

/-- The class of a window count against the expected count and the band (R34). -/
def windowClass (count expected band : Nat) : WindowClass :=
  if count == 0 then .empty
  else if 100 * (((count : Int) - expected).natAbs) ≤ band * expected then .inBand
  else .outOfBand

/-- The zone state and good run after a window (R35). -/
def afterWindow : ZoneState → Nat → WindowClass → ZoneState × Nat
  | .normal, g, .inBand => (.normal, g)
  | .normal, _, .outOfBand => (.degraded, 0)
  | .degraded, g, .inBand => if g + 1 == 3 then (.normal, 0) else (.degraded, g + 1)
  | .degraded, _, .outOfBand => (.degraded, 0)
  | .stalled, _, .inBand => (.degraded, 1)
  | .stalled, _, .outOfBand => (.degraded, 0)
  | _, _, .empty => (.stalled, 0)

/-- SPEED's detail code: the zone number in the high octet, the state number in the low (R35). -/
def speedDetail (z : Zone) (st : ZoneState) : Nat := 256 * z.number + st.number

/-- A zone passing from NORMAL to DEGRADED doubles the remaining times of its moves in flight once (R41). -/
def State.doubleMoves (s : State) (z : Zone) : State :=
  s.modField fun u => { u with moves := u.moves.map fun m =>
    if m.zone == z && m.state == .inFlight && !m.doubled then { m with left := 2 * m.left, doubled := true } else m }

/-- A zone takes a state and good run, its latch set on entering DEGRADED or STALLED, SPEED raised at a change (R35). -/
def State.setZone (s : State) (z : Zone) (st : ZoneState) (good : Nat) (value : Option Int) : State :=
  let before := (s.zone z).state
  let s := s.modZone z fun e => { e with
    state := st, goodRun := good, latch := e.latch || (st != before && st != .normal) }
  if st == before then s
  else
    let s := if before == .normal && st == .degraded then s.doubleMoves z else s
    s.raise .speed { detail := speedDetail z st, value }

/-- A rising edge of a zone's encoder is counted while its drive is on (R34). -/
def execEncoderEdge (z : Zone) (s : State) : Answer :=
  if (s.zone z).drive && s.mode.mode != .halted then .next (s.modZone z fun e => { e with edges := e.edges + 1 }) else .next s

/-- A speed window ends: its count is classed, and the next window starts (R34, R35). -/
def execSpeedWindowEnd (z : Zone) (s : State) : Answer :=
  let e := s.zone z
  if e.drive && e.windowLeft == 0 && s.mode.mode != .halted then
    match afterWindow e.state e.goodRun (windowClass e.edges (s.expected z) (s.setting .speedBand)) with
    | (st, good) =>
      .next ((s.modZone z fun e => { e with edges := 0, windowLeft := Config.speedWindow, last := some e.edges }).setZone z st
        good (some e.edges)).settle
  else .next s

/-! ### Lamps (R31) -/

/-- The half period of a flashing lamp ends in the centisecond now running: it passes to its other half, whose own half period
follows on (R31). Log entry 27. -/
def execFlashHalfPeriod (lamp : Lamp) (s : State) : Answer :=
  let l := tget s.field.lamps lamp.idx
  if (l.pattern == .flashSlow || l.pattern == .flashFast) && decide (l.left ≤ 1) then
    let now := { l with lit := !l.lit, left := l.left + l.pattern.halfPeriod }
    .next (s.modField fun u => { u with lamps := tset u.lamps lamp.idx now })
  else .next s

/-! ### Requests (R48 to R50) -/

/-- The place with a number 1 to 34 (R36). -/
def placeOf (n : Nat) : Option Place := allPlaces.find? fun p => p.number == n

/-- A record names a place as its location or its moving-to (R48). -/
def State.named (s : State) (p : Place) : Bool := s.track.records.any fun r => r.location == p || r.movingTo == some p

/-- A lane's count is set to 0 through the Lane Controller (R48). -/
def State.emptyLane (s : State) : Place → State
  | .lane l => s.modLane l fun e => { e with count := 0 }
  | _ => s

/-- A place returned to use (R48); a grant kept from CHECK asks its move again (R78). -/
def State.clearPlace (s : State) (p : Place) : State :=
  let s := (s.modPlace p fun _ => ⟨false, false, [], []⟩).emptyLane p
  if p == .check then s.pursueGrant else s

/-- PLACE_CLEAR (R48). -/
def clearPlaceOp (n : Nat) : Service := fun s =>
  match placeOf n with
  | none => refuse s .badArgument
  | some p =>
    if !(s.place p).unknown then (s, .ok, .place (s.placeState p))
    else if s.covered p then refuse s .stillCovered
    else if s.named p then refuse s .inUse
    else
      let s := s.clearPlace p
      (s, .ok, .place (s.placeState p))

/-- A place's row in LIST_PLACES (R49). -/
def State.placeRow (s : State) (p : Place) : PlaceRow :=
  { number := p.number, state := s.placeState p, covered := s.covered p, occupants := (s.place p).occupants
    laneCount := match p with | .lane l => some (tget s.lanes l).count | _ => none
    incoming := (s.place p).incoming }

/-- The number of moves in a state (R49). -/
def State.movesIn (s : State) (st : MoveState) : Nat := (s.field.moves.filter (·.state == st)).length

/-- LIST_PLACES (R49). -/
def listPlacesOp : Service := fun s =>
  (s, .ok, .places (allPlaces.map s.placeRow) (s.movesIn .waiting) (s.movesIn .inFlight) (s.movesIn .lost))

/-- A zone's row in READ_ZONES (R50). -/
def State.zoneRow (s : State) (z : Zone) : ZoneRow :=
  let e := s.zone z
  let movesIn : MoveState → Nat := fun st => (s.field.moves.filter fun m => m.zone == z && m.state == st).length
  ⟨e.state, e.goodRun, e.drive, e.last, s.expected z, e.latch, movesIn .inFlight, movesIn .lost⟩

/-- The latch of a NORMAL zone is cleared, and a STALLED zone is released (R50). -/
def State.readZone (release : Bool) (s : State) (z : Zone) : State :=
  let s := if (s.zone z).state == .normal then s.modZone z fun e => { e with latch := false } else s
  if release && (s.zone z).state == .stalled then s.setZone z .degraded 0 none else s

/-- READ_ZONES (R50). The SPEED reports of the zones released are raised in zone number order (log entry 8). -/
def readZonesOp (release : Bool) : Service := fun s =>
  (allZones.foldl (State.readZone release) s, .ok, .zones (allZones.map s.zoneRow))

/-- PLACE_CLEAR (R48). -/
def execPlaceClear (q : Req) (place : Nat) (s : State) : Answer := .next (serve 0x20 .changes (clearPlaceOp place) q s)

/-- LIST_PLACES (R49). -/
def execListPlaces (q : Req) (s : State) : Answer := .next (serve 0x21 .reads listPlacesOp q s)

/-- READ_ZONES (R50). -/
def execReadZones (q : Req) (release : Bool) (s : State) : Answer := .next (serve 0x22 .collects (readZonesOp release) q s)

end Sys2Proof.Machine
end

