-- ==== Sys2Proof/Machine/Mode.lean ====
section
/-! DEFINITION. The Mode Controller (chapter 9, sections 9.1 to 9.4 and 9.6): changes of the line mode, drains and stops,
auto-wake, the emergency stop and RESUME. -/

namespace Sys2Proof.Machine

/-! ### Changes of mode (R174, R175) -/

/-- The causes of MODE_CHANGE (R174). -/
inductive ModeCause | setMode | autoWake | drained | drainExpired | stopped | estop | resumed
  deriving DecidableEq, Repr

/-- A cause's number (R174). -/
def ModeCause.number : ModeCause → Nat
  | .setMode => 1 | .autoWake => 2 | .drained => 3 | .drainExpired => 4 | .stopped => 5 | .estop => 6 | .resumed => 7

/-- Take a mode and raise MODE_CHANGE (R174); the wake holds are abandoned on leaving STOPPED (R33). -/
def State.changeMode (s : State) (m : LineMode) (c : ModeCause) : State :=
  let s := if m == .stopped then s else s.stopWakes
  (s.modMode fun u => { u with mode := m }).raise .modeChange { detail := m.number, value := some c.number }

/-- The drain limit set or made absent. -/
def State.setDrain (s : State) (d : Option Nat) : State := s.modMode fun u => { u with drain := d }

/-- The line enters STOPPED (R177, R178), where wake holds start (R33). -/
def State.enterStopped (s : State) (c : ModeCause) : State := ((s.setDrain none).changeMode .stopped c).startWakes

/-- The line enters RUN: the start of watching hands on arrivals, and a grant that waits for its gate is taken up (R29, R81). -/
def State.enterRun (s : State) (c : ModeCause) : State := ((s.setDrain none).changeMode .run c).watchAll.pursueGrant

/-- The drain test at entry into DRAIN (R177). -/
def State.testDrain (s : State) : State := if s.drainTest then s.enterStopped .drained else s

/-- The quietness test at entry into STOPPING (R178). -/
def State.testStop (s : State) : State := if s.quiet then s.enterStopped .stopped else s

/-! ### The halt (R180 to R182) -/

/-- A message of the Mode Controller to both wrappers and the printer-applicator (R180, R182). -/
def State.sendAll (s : State) (m : Port → Message) : State :=
  ((s.send (m (.wrapper .one))).send (m (.wrapper .two))).send (m .printer)

/-- The window of an open capture is emptied (R96). -/
def State.emptyWindow (s : State) : State :=
  s.modMass fun m => { m with capture := m.capture.map fun c => { c with window := [] } }

/-- The line enters HALTED (R180). -/
def State.halt (s : State) : State :=
  let s := (s.modMode fun u => { u with saved := some u.mode }).sendAll .hold
  s.emptyWindow.changeMode .halted .estop

/-- The line times kept are moved later by the time spent halted: each is due its remaining time from now (R181). One that had run
out before the halt, as the settle end of a check or of a zero capture may, becomes the line time of the return, which is the
model's choice: log entry 55. -/
def State.anchorTimes (s : State) : State :=
  let a := fun d : Deadline => d.anchor s.lineTime
  let s := s.modCheck fun c => { c with
    current := c.current.map fun k => { k with settleEnd := a k.settleEnd, settleLimit := a k.settleLimit } }
  let s := s.modMass fun m => { m with settleEnd := m.settleEnd.map a, limit := m.limit.map a }
  let s := s.modTrack fun t => { t with records := t.records.map fun r => { r with deferral := r.deferral.map a } }
  s.modMerge fun m => { m with
    requests := tmap (fun w => w.map fun w => { w with since := s.lineTime - BitVec.ofNat 32 w.waited }) m.requests }

/-- What the restored mode does at its entry (R182). -/
def State.actAs (s : State) : LineMode → State
  | .run => s.watchAll.pursueGrant
  | .drain => s.pursueGrant.testDrain
  | .stopping => s.testStop
  | .stopped => s.startWakes
  | .halted => s

/-- The mode a halted line returns to. -/
def State.savedMode (s : State) : LineMode := s.mode.saved.getD .stopped

/-- The line returns from HALTED to its saved mode (R182). -/
def State.leaveHalt (s : State) : State :=
  let m := s.savedMode
  let s := (s.modMode fun u => { u with saved := none }).anchorTimes.sendAll .resume
  (s.changeMode m .resumed).actAs m

/-! ### Requests (R185, R186) -/

/-- SET_MODE RUN (R185). -/
def setRun : Service := fun s =>
  if s.mode.mode != .stopped && s.mode.mode != .drain then refuse s .wrongMode
  else if s.link.identity.isNone then refuse s .noIdentity
  else
    let s := s.enterRun .setMode
    (s, .ok, .mode s.mode.mode)

/-- SET_MODE DRAIN (R185, R177). -/
def setDrainMode : Service := fun s =>
  if s.mode.mode != .run then refuse s .wrongMode
  else
    let s := ((s.setDrain (some (s.setting .drainLimit))).changeMode .drain .setMode).pursueGrant.testDrain
    (s, .ok, .mode s.mode.mode)

/-- SET_MODE STOP (R185, R178). -/
def setStop : Service := fun s =>
  if !s.working then refuse s .wrongMode
  else
    let s := ((s.setDrain none).changeMode .stopping .setMode).testStop
    (s, .ok, .mode s.mode.mode)

/-- RESUME (R186). Log entry 38. -/
def resumeOp : Service := fun s =>
  if s.mode.mode != .halted then refuse s .wrongMode
  else if s.field.estop then refuse s .estopActive
  else (s.leaveHalt, .ok, .mode s.savedMode)

/-! ### The commands -/

/-- ESTOP becomes active (R180). -/
def execEstop (s : State) : Answer :=
  if s.field.estop then .next s
  else
    let s := s.modField fun u => { u with estop := true }
    if s.mode.mode == .halted then .next s else .next s.halt.settle

/-- ESTOP becomes inactive, which changes nothing else (R180). -/
def execEstopClear (s : State) : Answer := .next (s.modField fun u => { u with estop := false })

/-- A wake hold runs out: every hold is abandoned, and with the line identity present the line enters RUN (R33, R179). -/
def execWakeHoldExpiry (i : Infeed) (s : State) : Answer :=
  if tget s.field.wakeHolds i.idx == some 0 && s.mode.mode == .stopped then
    let s := s.stopWakes
    if s.link.identity.isSome then .next (s.enterRun .autoWake).settle else .next s
  else .next s

/-- The detail code of DRAIN_FAILED (R177): 1 or 2 in the cases the rule names, and otherwise, when the expiry is taken
first although the test would pass, a value the rule does not state (log entry 1). -/
def State.drainDetail (s : State) : State × Nat :=
  if s.undrained != 0 then (s, 1)
  else if s.moveWaiting || !s.quiet then (s, 2)
  else ({ s with freeDraws := s.freeDraws + 1 }, (Config.unstatedDetail s.freeDraws).toNat)

/-- The drain limit runs out: the line returns to RUN with DRAIN_FAILED (R177). -/
def State.failDrain (s : State) : State :=
  match s.drainDetail with
  | (s, detail) =>
    let value := s.undrained
    let s := (s.setDrain none).changeMode .run .drainExpired
    ((s.raise .drainFailed { detail, value := some value }).watchAll).pursueGrant

/-- The drain limit runs out (R177). -/
def execDrainLimitExpiry (s : State) : Answer :=
  if s.mode.mode == .drain && s.mode.drain == some 0 then .next s.failDrain.settle else .next s

/-- The drain test passes (R177). -/
def execDrainCompleted (s : State) : Answer :=
  if s.mode.mode == .drain && s.drainTest then .next (s.enterStopped .drained).settle else .next s

/-- The line is quiet in STOPPING (R178). -/
def execStopCompleted (s : State) : Answer :=
  if s.mode.mode == .stopping && s.quiet then .next (s.enterStopped .stopped).settle else .next s

/-- SET_MODE RUN (R185). -/
def execSetModeRun (q : Req) (s : State) : Answer := .next (serve 0x40 .changes setRun q s)

/-- SET_MODE DRAIN (R185). -/
def execSetModeDrain (q : Req) (s : State) : Answer := .next (serve 0x40 .changes setDrainMode q s)

/-- SET_MODE STOP (R185). -/
def execSetModeStop (q : Req) (s : State) : Answer := .next (serve 0x40 .changes setStop q s)

/-- RESUME (R186). -/
def execResume (q : Req) (s : State) : Answer := .next (serve 0x41 .changes resumeOp q s)

end Sys2Proof.Machine
end

