-- ==== Sys2Proof/Machine/Reset.lean ====
section
/-! DEFINITION. The three kinds of reset (chapter 9, section 9.5, with each block's own table): power-on, the RESET pin, the
purge and RESET. -/

namespace Sys2Proof.Machine

/-- The gate position taken from the gate-in-position inputs: the one active input, or NONE (R74). -/
def State.gateInputs (s : State) : Option Infeed :=
  match s.input (.gateAt .a), s.input (.gateAt .b), s.input (.gateAt .c) with
  | true, false, false => some .a
  | false, true, false => some .b
  | false, false, true => some .c
  | _, _, _ => none

/-- A place after a full or a line reset: UNKNOWN when covered, with PLACE_UNKNOWN, and FREE otherwise (R37). -/
def State.resetPlace (s : State) (p : Place) : State :=
  let covered := s.covered p
  let s := s.modPlace p fun _ => ⟨covered, false, [], []⟩
  if covered then s.raise .placeUnknown { detail := p.number, value := some 3 } else s

/-- Every place after a full or a line reset, the reports in place number order (R37; log entry 8). -/
def State.resetPlaces (s : State) : State := allPlaces.foldl State.resetPlace s

/-- The end of a full or a line reset: with ESTOP active the line enters HALTED; a line that was HALTED is let go on (R183). -/
def State.endReset (s : State) (wasHalted : Bool) : State :=
  if s.field.estop then s.halt else if wasHalted then s.sendAll .resume else s

/-- The messages every full and line reset sends (R94, R130, R150). -/
def State.sendResets (s : State) : State := { s with sent := s.sent ++ resetMessages }

/-- Every block at its full-reset values, before the places are set (R183; R26, R73, R74, R83, R111, R130, R150, R173, R184,
R204). The raw inputs, the straps and the model's own fields stay as they are (log entry 5). -/
def State.blank (s : State) : State where
  lineTime := 0
  link := linkReset s.link.straps
  plan := ⟨[], defaultBases, defaultRecipes, defaultBands, []⟩
  field := fieldReset s.field.raw s.field.estop
  track := trackReset (Vector.replicate 3 true)
  merge := mergeReset none
  check := ⟨.empty, false, none⟩
  mass := ⟨none, 0, .none, false, none, none⟩
  wrap := ⟨Vector.replicate 2 none, Vector.replicate 2 (wrapperReset 0 1), []⟩
  label := labelReset 1
  buffer := bufferReset defaultWindows
  lanes := Vector.replicate 6 ⟨0, false, .unbound⟩
  mode := ⟨.stopped, none, none⟩
  settings := defaultSettings
  reported := Vector.replicate 6 .working
  sent := s.sent
  freeDraws := s.freeDraws
  pending := s.pending

/-- A full reset (R183, R184). -/
def State.fullReset (s : State) : State :=
  let wasHalted := s.mode.mode == .halted
  let s := s.blank.sendResets
  let s := s.modMerge fun m => { m with gate := s.gateInputs }
  (((s.resetPlaces.endReset wasHalted).purgeWatch).settleSilently)

/-- A slot of a line reset: CLAIMED and FINISHED return to EXPECTED (R26). -/
def Slot.returned (sl : Slot) : Slot :=
  if sl.state == .claimed || sl.state == .finished then { sl with state := .expected, claimant := none } else sl

/-- A zone after a line reset, its latch kept (R35). -/
def ZoneEntry.lineReset (e : ZoneEntry) : ZoneEntry := ⟨.normal, 0, e.latch, false, 0, 0, none⟩

/-- The Field Unit's part of a line reset, before its places are set (section 2.9). -/
def FieldUnit.lineReset (u : FieldUnit) : FieldUnit :=
  { u with
    entryTaken := Vector.replicate 3 false
    gateDrive := none, car := none, shuttleDrive := none, diverterReject := false
    wakeHolds := Vector.replicate 3 none
    zones := tmap ZoneEntry.lineReset u.zones
    moves := [] }

/-- The Mass Unit's part of a line reset (R111). -/
def MassUnit.lineReset (m : MassUnit) : MassUnit :=
  { m with
    capture := none, settleEnd := none, limit := none
    status := if m.status == .running then .none else m.status }

/-- The Wrap Controller's part of a line reset (R130). -/
def WrapController.lineReset (u : WrapController) (now : LineTime) : WrapController :=
  ⟨Vector.replicate 2 none, tmap (fun w => wrapperReset now w.nextOrder) u.wrappers, []⟩

/-- A scanner after a line reset: its reads are dropped, and the answer to one sent before the reset is still ignored when it
comes (R73; log entry 10). -/
def ScannerState.dropped (e : ScannerState) : ScannerState :=
  match e.outstanding with
  | some (_, left) => ⟨none, [], some left⟩
  | none => ⟨none, [], e.ended⟩

/-- Every block at its line-reset values, before the places are set (R183; R26, R73, R74, R83, R111, R130, R150, R173, R184). -/
def State.emptied (s : State) : State :=
  { s with
    plan := { s.plan with loads := s.plan.loads.map fun l => { l with slots := l.slots.map Slot.returned } }
    field := s.field.lineReset
    track := { trackReset s.track.enabled with scanners := tmap ScannerState.dropped s.track.scanners }
    merge := mergeReset s.gateInputs
    check := ⟨.empty, false, none⟩
    mass := s.mass.lineReset
    wrap := s.wrap.lineReset s.lineTime
    label := labelReset s.label.nextJob
    buffer := bufferReset s.buffer.windows
    lanes := tmap (fun e => { e with count := 0 }) s.lanes
    mode := ⟨.stopped, none, none⟩ }

/-- A line reset; `cause` is 1 for RESET LINE and 2 for a purge (R183, R184). -/
def State.lineReset (s : State) (cause : Nat) : State :=
  let wasHalted := s.mode.mode == .halted
  let deleted := s.track.records.length
  let s := s.emptied.sendResets.resetPlaces.raise .lineReset { detail := cause, value := some deleted }
  (s.endReset wasHalted).startWakes.settleSilently

/-- A settings reset (R183): settings and tables at their defaults, the holds abandoned (R26, R32, R33, R173, R204, R209). -/
def State.settingsReset (s : State) : State :=
  let s : State := { s with settings := defaultSettings }
  let s := s.modPlan fun p => { p with bases := defaultBases, recipes := defaultRecipes, bands := defaultBands }
  let s := (s.modBuffer fun b => { b with windows := defaultWindows }).modLink fun u => { u with mask := Vector.replicate 26 true }
  (s.modField fun u => { u with purgeHold := none, purgeSpent := false, wakeHolds := Vector.replicate 3 none }).purgeWatch

/-! ### The commands -/

/-- Power-on (R183). -/
def execPowerOn (s : State) : Answer := .next s.fullReset

/-- The RESET pin held low for at least 10 ms (R183). -/
def execResetPin (s : State) : Answer := .next s.fullReset

/-- The purge hold runs out: the combination is spent, and a purge performs a line reset (R32, R183). -/
def execPurgeHoldExpiry (s : State) : Answer :=
  if s.field.purgeHold == some 0 then
    .next ((s.modField fun u => { u with purgeHold := none, purgeSpent := true }).lineReset 2)
  else .next s

/-- RESET FULL (R187): the reply goes out before the reset, which clears answering (R192, R204). -/
def execResetFull (q : Req) (s : State) : Answer :=
  if q.broadcast && s.settingOn .broadcastOff then .next s
  else if s.link.answering then .next (s.count .linkErrors)
  else if q.broadcast then .next (if q.whole then s.fullReset else s)
  else if q.whole then .next ((s.send (s.reply 0x42 .ok .nothing)).fullReset)
  else .next ((s.modLink fun u => { u with answering := true }).send (s.reply 0x42 .badArgument .nothing))

/-- RESET LINE (R187). -/
def resetLineOp : Service := fun s =>
  let deleted := s.track.records.length
  let s := s.lineReset 1
  (s, .ok, .reset deleted s.mode.mode)

/-- RESET LINE (R187). -/
def execResetLine (q : Req) (s : State) : Answer := .next (serve 0x42 .changes resetLineOp q s)

/-- RESET SETTINGS (R187). -/
def resetSettingsOp : Service := fun s =>
  if s.mode.mode != .stopped then refuse s .wrongMode else (s.settingsReset, .ok, .nothing)

/-- RESET SETTINGS (R187). -/
def execResetSettings (q : Req) (s : State) : Answer := .next (serve 0x42 .changes resetSettingsOp q s)

end Sys2Proof.Machine
end

