-- ==== Sys2Proof/Machine/Station.lean ====
section
/-! DEFINITION. STATION_RESUME (R92): the six stations. -/

namespace Sys2Proof.Machine

/-- The station with a number 1 to 6 (R83). -/
def stationOf (n : Nat) : Option Station := allStations.find? fun st => st.number == n

/-- STATION_RESUME for CHECK (R92): the fault is cleared, and a pallet in ARRIVED begins its check. -/
def State.resumeCheck (s : State) : State :=
  if s.check.fault then
    let s := (s.modCheck fun c => { c with fault := false }).settleStations
    match s.check.condition, (s.place .check).occupants with
    | .arrived, n :: _ => s.startCheck n
    | _, _ => s
  else s

/-- STATION_RESUME for MERGE_GATE (R81, R92): the fault is cleared, and a grant that waits is taken up. -/
def State.resumeGate (s : State) : State :=
  if s.merge.fault then (s.modMerge fun m => { m with fault := false }).settleStations.pursueGrant else s

/-- Clear the fault of a station, which takes up its work (R92, R125, R147, R165). -/
def State.resumeStation (s : State) : Station → State
  | .check => s.resumeCheck
  | .wrapper w => s.resumeWrapper w
  | .label => s.resumeLabel
  | .shuttle => s.resumeShuttle
  | .mergeGate => s.resumeGate

/-- STATION_RESUME (R92). -/
def resumeStationOp (station : Nat) : Service := fun s =>
  match stationOf station with
  | none => refuse s .badArgument
  | some st =>
    let s := s.resumeStation st
    (s, .ok, .station (s.stationState st))

/-- STATION_RESUME (R92). -/
def execStationResume (q : Req) (station : Nat) (s : State) : Answer :=
  .next (serve 0x31 .changes (resumeStationOp station) q s)

end Sys2Proof.Machine
end

