-- ==== Sys2Proof/Machine/Settings.lean ====
section
/-! DEFINITION. The Link Unit's own requests (chapter 10): settings, tables, reports, counters and identity, and the
events of the reply and the straps. -/

namespace Sys2Proof.Machine

/-! ### Settings (R194, R195, R209) -/

/-- The 33 settings in number order (R209). -/
def allSettings : List Setting :=
  [.inputFilter, .purgeCombination, .wakeHold, .autoWake, .travelLimit, .speedBand,
   .zonePulses (.infeed .a), .zonePulses (.infeed .b), .zonePulses (.infeed .c), .zonePulses .centre, .zonePulses .buffer,
   .zonePulses .lanes, .deferLimit, .ackLimit, .trainLength, .starvationLimit, .parkInfeed, .settleDelay, .settleLimit,
   .windowSize, .stabilityWidth, .division, .toleranceMax, .wrapBypass, .wrapLimit, .wrapAttempts, .filmLinearMass,
   .topSheetMass, .printerDepth, .applyLimit, .labelRetries, .drainLimit, .broadcastOff]

/-- The setting with a number 1 to 33 (R209). -/
def settingOf (n : Nat) : Option Setting := allSettings.find? fun k => k.idx.val + 1 == n

/-- The low and high ends of a setting's range (R209). -/
def Setting.ends : Setting → Nat × Nat
  | .inputFilter => (0, 50)
  | .purgeCombination => (0, 2)
  | .wakeHold => (50, 1000)
  | .autoWake => (0, 1)
  | .travelLimit => (200, 9000)
  | .speedBand => (5, 50)
  | .zonePulses _ => (1, 60000)
  | .deferLimit => (0, 12000)
  | .ackLimit => (50, 1000)
  | .trainLength => (1, 4)
  | .starvationLimit => (1000, 30000)
  | .parkInfeed => (0, 3)
  | .settleDelay => (0, 500)
  | .settleLimit => (100, 3000)
  | .windowSize => (4, 16)
  | .stabilityWidth => (0, 1000)
  | .division => (10, 100)
  | .toleranceMax => (1000, 100000)
  | .wrapBypass => (0, 1)
  | .wrapLimit => (3000, 60000)
  | .wrapAttempts => (1, 3)
  | .filmLinearMass => (100, 5000)
  | .topSheetMass => (0, 2000)
  | .printerDepth => (1, 4)
  | .applyLimit => (500, 6000)
  | .labelRetries => (0, 2)
  | .drainLimit => (6000, 360000)
  | .broadcastOff => (0, 1)

/-- The default of a setting (R209). -/
def Setting.default (k : Setting) : Nat := tget defaultSettings k.idx

/-- A value brought to the nearer end of a range (R194). -/
def clampTo (lo hi : Nat) (v : Int) : Nat := if v < lo then lo else if (hi : Int) < v then hi else v.toNat

/-- The value applied for a value sent: clamped, or brought to an allowed value (R194; R110 for DIVISION, R150 for
PRINTER_DEPTH). -/
def Setting.applied (k : Setting) (v : Int) : Nat :=
  match k with
  | .division => if v ≤ 10 then 10 else if v ≤ 20 then 20 else if v ≤ 50 then 50 else 100
  | .printerDepth => if v ≤ 1 then 1 else 4
  | _ => clampTo k.ends.1 k.ends.2 v

/-- What a SET_SETTING restarts: the purge hold (R32), and the wake holds (R33). Log entry 26. -/
def State.settingTaken (s : State) : Setting → State
  | .purgeCombination => (s.modField fun u => { u with purgeHold := none, purgeSpent := false }).purgeWatch
  | .autoWake => s.stopWakes.startWakes
  | _ => s

/-- Apply a setting's value. -/
def State.applySetting (s : State) (k : Setting) (v : Nat) : State :=
  ({ s with settings := tset s.settings k.idx v } : State).settingTaken k

/-- SET_SETTING (R194). -/
def setSettingOp (number : Nat) (value : Int) : Service := fun s =>
  match settingOf number with
  | none => refuse s .badArgument
  | some k =>
    let v := k.applied value
    (s.applySetting k v, if (v : Int) == value then .ok else .okClamped, .value v)

/-- GET_SETTING (R195). -/
def getSettingOp (number : Nat) : Service := fun s =>
  match settingOf number with
  | none => refuse s .badArgument
  | some k => (s, .ok, .setting (s.setting k) k.default k.ends.1 k.ends.2)

/-! ### Tables (R196, R197) -/

/-- The report mask a list of flags makes, when it carries exactly 26, each 0 or 1 (R197). -/
def maskTaken (t : List Nat) : Option (Vector Bool 26) :=
  if h : t.length = 26 then
    if t.all fun f => decide (f ≤ 1) then some ⟨(t.map (· == 1)).toArray, by simpa using h⟩ else none
  else none

/-- SET_TABLE REPORT_MASK (R197). -/
def setMask (flags : List Nat) : Service := fun s =>
  match maskTaken flags with
  | some m => (s.modLink fun u => { u with mask := m }, .ok, .nothing)
  | none => refuse s .badArgument

/-- GET_TABLE (R196). -/
def getTableOp (number : Nat) : Service := fun s =>
  match number with
  | 1 => (s, .ok, .bands s.plan.bands)
  | 2 => (s, .ok, .bases s.plan.bases.toList)
  | 3 => (s, .ok, .recipes s.plan.recipes.toList)
  | 4 => (s, .ok, .windows s.buffer.windows.toList)
  | 5 => (s, .ok, .mask s.link.mask.toList)
  | _ => refuse s .badArgument

/-! ### Reports and counters (R198, R200) -/

/-- TAKE_REPORTS (R198). -/
def takeReportsOp : Service := fun s =>
  let rest := s.link.reports.drop Config.reportsPerTake
  (s.modLink fun u => { u with reports := rest, overflow := false, attention := !rest.isEmpty }, .ok,
    .reports (s.link.reports.take Config.reportsPerTake) s.link.overflow rest.length)

/-- READ_COUNTERS (R200). -/
def readCountersOp (clear : Nat) : Service := fun s =>
  if 1 < clear then refuse s .badArgument
  else
    (if clear == 1 then s.modLink fun u => { u with counters := Vector.replicate 11 ⟨0, true⟩ } else s, .ok,
      .counters s.link.counters.toList)

/-! ### Identity (R201 to R203) -/

/-- SET_IDENTITY (R202). -/
def setIdentityOp (chars : Text) : Service := fun s =>
  if chars.length != 16 || !printable chars then refuse s .badArgument
  else if s.link.identity.isSome then refuse s .alreadySet
  else (s.modLink fun u => { u with identity := some chars }, .ok, .nothing)

/-- The vendor code "ZWM" (R203). -/
def vendorCode : Text := [90#8, 87#8, 77#8]

/-- The part code "MD420" (R203). -/
def partCode : Text := [77#8, 68#8, 52#8, 50#8, 48#8]

/-- IDENTIFY (R203). -/
def identifyOp : Service := fun s =>
  (s, .ok, .identity vendorCode partCode 3 s.link.address.toNat s.link.identity s.mode.mode s.mass.status s.mass.valid
    s.link.reports.length)

/-! ### The commands -/

/-- IDENTIFY (R203). -/
def execIdentify (q : Req) (s : State) : Answer := .next (serve 0x01 .reads identifyOp q s)

/-- SET_IDENTITY (R202). -/
def execSetIdentity (q : Req) (chars : Text) (s : State) : Answer := .next (serve 0x02 .changes (setIdentityOp chars) q s)

/-- SET_SETTING (R194). -/
def execSetSetting (q : Req) (number : Nat) (value : Int) (s : State) : Answer :=
  .next (serve 0x03 .changes (setSettingOp number value) q s)

/-- GET_SETTING (R195). -/
def execGetSetting (q : Req) (number : Nat) (s : State) : Answer := .next (serve 0x04 .reads (getSettingOp number) q s)

/-- SET_TABLE REPORT_MASK (R197). -/
def execSetTableReportMask (q : Req) (flags : List Nat) (s : State) : Answer :=
  .next (serve 0x05 .changes (setMask flags) q s)

/-- GET_TABLE (R196). -/
def execGetTable (q : Req) (number : Nat) (s : State) : Answer := .next (serve 0x06 .reads (getTableOp number) q s)

/-- TAKE_REPORTS (R198). -/
def execTakeReports (q : Req) (s : State) : Answer := .next (serve 0x07 .collects takeReportsOp q s)

/-- READ_COUNTERS (R200). -/
def execReadCounters (q : Req) (clear : Nat) (s : State) : Answer :=
  .next (serve 0x08 .collects (readCountersOp clear) q s)

/-- A request whose kind names no request (R192, R207). Log entry 13. -/
def execUnknownKind (q : Req) (kind : Nat) (s : State) : Answer :=
  .next (serve kind .reads (fun s => refuse s .unknownKind) { q with whole := true } s)

/-- The last octet of the reply has left: answering is cleared (R191). -/
def execReplySent (s : State) : Answer := .next (s.modLink fun u => { u with answering := false })

/-- The strap pins change, which acts at the next full reset (R188). -/
def execStrapChange (pins : BitVec 3) (s : State) : Answer := .next (s.modLink fun u => { u with straps := pins })

end Sys2Proof.Machine
end

