-- ==== Sys2Proof/Machine/Link.lean ====
section
/-! DEFINITION. The frame receiver (chapter 10, sections 10.2 and 10.3): octets, the check, acceptance, and the request a
frame carries. -/

namespace Sys2Proof.Machine

/-! ### The request of a frame (R196, R207) -/

/-- SET_TABLE with its table number and contents (R196). Log entry 41. -/
def runTable (b : Bool) (p : List Octet) (s : State) : Answer :=
  match p with
  | 1#8 :: t => withFields b (readEntries 9 readBand) [] t fun q x => execSetTableBands q x s
  | 2#8 :: t => withFields b (readEntries 8 readBase) [] t fun q x => execSetTableBases q x s
  | 3#8 :: t => withFields b (readEntries 7 readRecipe) [] t fun q x => execSetTableRecipes q x s
  | 4#8 :: t => withFields b (readEntries 2 readWindow) [] t fun q x => execSetTableWindows q x s
  | 5#8 :: t => withFields b (readEntries 1 (readNat 1)) [] t fun q x => execSetTableReportMask q x s
  | _ => .next (serve 0x05 .changes (fun s => refuse s .badArgument) ⟨b, true⟩ s)

/-- ARTICLE_GET with its form octet, 0 for EXACT and 1 for NEXT (log entry 20). Any other octet is refused with BAD_ARGUMENT before
the code is looked up (log entry 41). -/
def runArticleGet (q : Req) (code form : Nat) (s : State) : Answer :=
  match form with
  | 0 => execArticleGet q code .exact s
  | 1 => execArticleGet q code .next s
  | _ => execArticleGet { q with whole := false } code .exact s

/-- SET_MODE with its octet (R185). Log entry 41. -/
def runMode (q : Req) (mode : Nat) (s : State) : Answer :=
  match mode with
  | 1 => execSetModeRun q s
  | 2 => execSetModeDrain q s
  | 3 => execSetModeStop q s
  | _ => execSetModeRun { q with whole := false } s

/-- RESET with its octet (R187). Log entry 41. -/
def runReset (q : Req) (kind : Nat) (s : State) : Answer :=
  match kind with
  | 1 => execResetFull q s
  | 2 => execResetLine q s
  | 3 => execResetSettings q s
  | _ => execResetLine { q with whole := false } s

/-- The requests of kinds 0x01 to 0x19 (R207). -/
def runLow (b : Bool) (kind : Nat) (p : List Octet) (s : State) : Option Answer :=
  match kind with
  | 0x01 => some (withFields b readNothing () p fun q _ => execIdentify q s)
  | 0x02 => some (withFields b (takeOctets 16) [] p fun q x => execSetIdentity q x s)
  | 0x03 => some (withFields b (readPair (readNat 1) readInt) (0, 0) p fun q x => execSetSetting q x.1 x.2 s)
  | 0x04 => some (withFields b (readNat 1) 0 p fun q x => execGetSetting q x s)
  | 0x05 => some (runTable b p s)
  | 0x06 => some (withFields b (readNat 1) 0 p fun q x => execGetTable q x s)
  | 0x07 => some (withFields b readNothing () p fun q _ => execTakeReports q s)
  | 0x08 => some (withFields b (readNat 1) 0 p fun q x => execReadCounters q x s)
  | 0x10 => some (withFields b (readPair (readNat 2) (readPair (readNat 4) readText)) (0, 0, []) p
      fun q x => execArticlePut q x.1 x.2.1 x.2.2 s)
  | 0x11 => some (withFields b (readNat 2) 0 p fun q x => execArticleDrop q x s)
  | 0x12 => some (withFields b (readPair (readNat 2) (readNat 1)) (0, 0) p fun q x => runArticleGet q x.1 x.2 s)
  | 0x13 => some (withFields b (readPair (readNat 2) (readPair (readNat 1) (readPair (readNat 2) (takeOctets 10)))) (0, 0, 0, [])
      p fun q x => execLoadCreate q x.1 x.2.1 x.2.2.1 x.2.2.2 s)
  | 0x14 => some (withFields b readSlot (0, 0, [], 0, 0, [], []) p
      fun q x => execSlotAdd q x.1 x.2.1 x.2.2.1 x.2.2.2.1 x.2.2.2.2.1 x.2.2.2.2.2.1 x.2.2.2.2.2.2 s)
  | 0x15 => some (withFields b (readPair (readNat 2) (readNat 1)) (0, 0) p fun q x => execSlotSkip q x.1 x.2 s)
  | 0x16 => some (withFields b (readPair (readNat 2) (readNat 1)) (0, 0) p fun q x => execLoadBind q x.1 x.2 s)
  | 0x17 => some (withFields b (readNat 2) 0 p fun q x => execLoadUnbind q x s)
  | 0x18 => some (withFields b (readNat 2) 0 p fun q x => execLoadClose q x s)
  | 0x19 => some (withFields b (readPair (readNat 2) (readPair (readNat 1) (readNat 1))) (0, 0, 0) p
      fun q x => execReadLoad q x.1 x.2.1 x.2.2 s)
  | _ => none

/-- The requests of kinds 0x20 to 0x42 (R207). Log entry 31. -/
def runHigh (b : Bool) (kind : Nat) (p : List Octet) (s : State) : Option Answer :=
  match kind with
  | 0x20 => some (withFields b (readNat 1) 0 p fun q x => execPlaceClear q x s)
  | 0x21 => some (withFields b readNothing () p fun q _ => execListPlaces q s)
  | 0x22 => some (withFields b (readNat 1) 0 p fun q x => execReadZones q (x != 0) s)
  | 0x28 => some (withFields b (readPair (readNat 1) (readNat 1)) (0, 0) p fun q x => execInfeedSet q x.1 x.2 s)
  | 0x29 => some (withFields b (readNat 1) 0 p fun q x => execReadPallet q x s)
  | 0x2A => some (withFields b (readPair (readNat 1) (readNat 1)) (0, 0) p fun q x => execListPallets q x.1 x.2 s)
  | 0x2B => some (withFields b (readNat 1) 0 p fun q x => execPalletRemove q x s)
  | 0x30 => some (withFields b readNothing () p fun q _ => execZeroScale q s)
  | 0x31 => some (withFields b (readNat 1) 0 p fun q x => execStationResume q x s)
  | 0x38 => some (withFields b (readNat 1) 0 p fun q x => execForceRelease q x s)
  | 0x39 => some (withFields b (readNat 1) 0 p fun q x => execLaneHalt q x s)
  | 0x3A => some (withFields b (readNat 1) 0 p fun q x => execLaneResume q x s)
  | 0x3B => some (withFields b (readNat 1) 0 p fun q x => execReadLane q x s)
  | 0x40 => some (withFields b (readNat 1) 0 p fun q x => runMode q x s)
  | 0x41 => some (withFields b readNothing () p fun q _ => execResume q s)
  | 0x42 => some (withFields b (readNat 1) 0 p fun q x => runReset q x s)
  | _ => none

/-- Run the request of a frame (R191, R192, R207). -/
def runRequest (b : Bool) (kind : Nat) (p : List Octet) (s : State) : Answer :=
  match runLow b kind p s with
  | some a => a
  | none =>
    match runHigh b kind p s with
    | some a => a
    | none => execUnknownKind ⟨b, true⟩ kind s

/-! ### The receiver (R189 to R191) -/

/-- The receiver takes a value. -/
def State.receive (s : State) (r : Receiver) : State := s.modLink fun u => { u with receiver := r }

/-- The payload length a frame carries (R206). -/
def frameLength (t : List Octet) : Nat := numberOf ((t.drop 3).take 2)

/-- The two check octets of a whole frame agree with the check computed over it (R190). -/
def frameGood (t : List Octet) : Bool :=
  let n := frameLength t
  numberOf (t.drop (5 + n)) == (checkOf ((t.drop 1).take (4 + n))).toNat

/-- A whole frame with a good check is taken by its kind and address (R191); the answering state and BROADCAST_OFF are
read as the request is run. -/
def State.acceptFrame (s : State) (t : List Octet) : Answer :=
  let address := numberOf ((t.drop 1).take 1)
  let kind := numberOf ((t.drop 2).take 1)
  let payload := (t.drop 5).take (frameLength t)
  if 128 ≤ kind then .next s
  else if address == Config.broadcastAddress then runRequest true kind payload s
  else if address == s.link.address.toNat then runRequest false kind payload s
  else .next s

/-- A frame is discarded: link errors rises, and the receiver hunts (R189). -/
def State.discardFrame (s : State) : State := (s.receive .hunting).count .linkErrors

/-- An octet is appended to the frame: discarded for its length, taken when whole, or waited on (R189). -/
def State.appendOctet (s : State) (t : List Octet) : Answer :=
  if t.length == 5 && decide (Config.maxPayload < frameLength t) then .next s.discardFrame
  else if decide (5 ≤ t.length) && t.length == 7 + frameLength t then
    if frameGood t then (s.receive .hunting).acceptFrame t else .next s.discardFrame
  else .next (s.receive (.receiving t Config.gapLimit))

/-- LINK_OCTET (R189). -/
def execLinkOctet (o : Octet) (s : State) : Answer :=
  match s.link.receiver with
  | .hunting => if o == Config.startOctet then .next (s.receive (.receiving [o] Config.gapLimit)) else .next s
  | .receiving t _ => s.appendOctet (t ++ [o])

/-- The gap limit of a frame in reception runs out (R189). -/
def execGapLimitExpiry (s : State) : Answer :=
  match s.link.receiver with
  | .receiving _ 0 => .next s.discardFrame
  | _ => .next s

end Sys2Proof.Machine
end

