-- ==== Sys2Proof/Machine/Time.lean ====
section
/-! DEFINITION. The passing of one centisecond: the line time and the running timers (00_scope.md, "Units and the time
base"; R181). The table has no row for it; a step takes it when no command waits (log entry 3). -/

namespace Sys2Proof.Machine

/-- A remaining time one centisecond on, held at 0 until its expiry is taken. -/
def onward (t : Option Nat) : Option Nat := t.map (· - 1)

/-- A deadline one centisecond on. -/
def Deadline.onward (d : Deadline) : Deadline := { d with left := d.left - 1 }

/-- The gap limit one centisecond on (R189). -/
def Receiver.onward : Receiver → Receiver
  | .hunting => .hunting
  | .receiving t gap => .receiving t (gap - 1)

/-- A lamp's half period one centisecond on, held at 0 until its end is taken (R31). -/
def LampState.onward (l : LampState) : LampState := { l with left := l.left - 2 }

/-- What runs on in every mode: the line time, the input filters, the purge and wake holds, the flashing of the lamps, the gap
limit (R31, R181, R189). -/
def State.tickAlways (s : State) : State :=
  let s : State := { s with lineTime := s.lineTime + 1 }
  let s := s.modField fun u => { u with
    timing := tmap onward u.timing, purgeHold := onward u.purgeHold, wakeHolds := tmap onward u.wakeHolds
    lamps := tmap LampState.onward u.lamps }
  s.modLink fun u => { u with receiver := u.receiver.onward }

/-- An order's limits one centisecond on (R127). -/
def Order.onward (o : Order) : Order := { o with ack := Machine.onward o.ack, wrap := Machine.onward o.wrap }

/-- A move's travel limit one centisecond on, while it is IN_FLIGHT (R41). -/
def Move.onward (m : Move) : Move := if m.state == .inFlight then { m with left := m.left - 1 } else m

/-- A zone's window one centisecond on, while its drive is on (R34). -/
def ZoneEntry.onward (e : ZoneEntry) : ZoneEntry := if e.drive then { e with windowLeft := e.windowLeft - 1 } else e

/-- A check's settle times one centisecond on (R88). -/
def Check.onward (c : Check) : Check := { c with settleEnd := c.settleEnd.onward, settleLimit := c.settleLimit.onward }

/-- A scanner's answer limits one centisecond on (R58). -/
def ScannerState.onward (e : ScannerState) : ScannerState :=
  { e with outstanding := e.outstanding.map fun (rd, left) => (rd, left - 1), ended := Machine.onward e.ended }

/-- The timers of R181, which run on outside a halt, and the speed windows (R34). -/
def State.tickRunning (s : State) : State :=
  let s := s.modField fun u => { u with moves := u.moves.map Move.onward, zones := tmap ZoneEntry.onward u.zones }
  let s := s.modTrack fun t => { t with
    records := t.records.map fun r => { r with deferral := r.deferral.map Deadline.onward }
    scanners := tmap ScannerState.onward t.scanners }
  let s := s.modMerge fun m => { m with
    switch := m.switch.map fun w => { w with left := w.left - 1 }
    requests := tmap (fun w => w.map fun w => { w with waited := w.waited + 1 }) m.requests }
  let s := s.modCheck fun c => { c with current := c.current.map Check.onward }
  let s := s.modMass fun m => { m with settleEnd := m.settleEnd.map Deadline.onward, limit := m.limit.map Deadline.onward }
  let s := s.modWrap fun u => { u with wrappers := tmap (fun w => { w with order := w.order.map Order.onward }) u.wrappers }
  let s := s.modLabel fun u => { u with ack := onward u.ack, print := onward u.print, apply := onward u.apply }
  s.modMode fun m => { m with drain := onward m.drain }

/-- One centisecond passes. -/
def State.tick (s : State) : State := if s.mode.mode == .halted then s.tickAlways else s.tickAlways.tickRunning

end Sys2Proof.Machine
end

