-- ==== Sys2Proof/Machine/Dispatch.lean ====
section
/-! DEFINITION. The command dispatch: one arm per row of the table, each one call of that row's meaning. -/

namespace Sys2Proof.Machine

/-- The effect of a command on everything but the queue of waiting commands. -/
def exec (i : Instr) (s : State) : Host.Outcome State Fault Refusal :=
  match i with
  | .powerOn => Sys2Proof.Machine.execPowerOn s
  | .resetPin => Sys2Proof.Machine.execResetPin s
  | .inputChange n active => Sys2Proof.Machine.execInputChange n active s
  | .inputFilterExpiry n => Sys2Proof.Machine.execInputFilterExpiry n s
  | .estop => Sys2Proof.Machine.execEstop s
  | .estopClear => Sys2Proof.Machine.execEstopClear s
  | .encoderEdge z => Sys2Proof.Machine.execEncoderEdge z s
  | .speedWindowEnd z => Sys2Proof.Machine.execSpeedWindowEnd z s
  | .travelLimitExpiry track => Sys2Proof.Machine.execTravelLimitExpiry track s
  | .purgeHoldExpiry => Sys2Proof.Machine.execPurgeHoldExpiry s
  | .wakeHoldExpiry n => Sys2Proof.Machine.execWakeHoldExpiry n s
  | .answerLimitExpiry sc => Sys2Proof.Machine.execAnswerLimitExpiry sc s
  | .deferralDeadlineExpiry track => Sys2Proof.Machine.execDeferralDeadlineExpiry track s
  | .gateLimitExpiry => Sys2Proof.Machine.execGateLimitExpiry s
  | .settleDelayEnd => Sys2Proof.Machine.execSettleDelayEnd s
  | .settleLimitExpiry => Sys2Proof.Machine.execSettleLimitExpiry s
  | .zeroSettleEnd => Sys2Proof.Machine.execZeroSettleEnd s
  | .zeroLimitExpiry => Sys2Proof.Machine.execZeroLimitExpiry s
  | .wrapperAckLimitExpiry w => Sys2Proof.Machine.execWrapperAckLimitExpiry w s
  | .wrapLimitExpiry w => Sys2Proof.Machine.execWrapLimitExpiry w s
  | .jobAckLimitExpiry => Sys2Proof.Machine.execJobAckLimitExpiry s
  | .purgeAckLimitExpiry => Sys2Proof.Machine.execPurgeAckLimitExpiry s
  | .printLimitExpiry => Sys2Proof.Machine.execPrintLimitExpiry s
  | .applyLimitExpiry => Sys2Proof.Machine.execApplyLimitExpiry s
  | .drainLimitExpiry => Sys2Proof.Machine.execDrainLimitExpiry s
  | .gapLimitExpiry => Sys2Proof.Machine.execGapLimitExpiry s
  | .linkOctet o => Sys2Proof.Machine.execLinkOctet o s
  | .replySent => Sys2Proof.Machine.execReplySent s
  | .unknownKind q kind => Sys2Proof.Machine.execUnknownKind q kind s
  | .tag sc digits => Sys2Proof.Machine.execTag sc digits s
  | .noRead sc => Sys2Proof.Machine.execNoRead sc s
  | .profile height flags => Sys2Proof.Machine.execProfile height flags s
  | .reading r => Sys2Proof.Machine.execReading r s
  | .accept w order => Sys2Proof.Machine.execAccept w order s
  | .done w order revolutions film => Sys2Proof.Machine.execDone w order revolutions film s
  | .fault w order code => Sys2Proof.Machine.execFault w order code s
  | .taken job => Sys2Proof.Machine.execTaken job s
  | .printed job => Sys2Proof.Machine.execPrinted job s
  | .applied job => Sys2Proof.Machine.execApplied job s
  | .cancelled => Sys2Proof.Machine.execCancelled s
  | .moveStart track => Sys2Proof.Machine.execMoveStart track s
  | .mergeChoice => Sys2Proof.Machine.execMergeChoice s
  | .gatePark => Sys2Proof.Machine.execGatePark s
  | .checkRouteRetry => Sys2Proof.Machine.execCheckRouteRetry s
  | .wrapperChoice => Sys2Proof.Machine.execWrapperChoice s
  | .orderSend w => Sys2Proof.Machine.execOrderSend w s
  | .labelOrderMove => Sys2Proof.Machine.execLabelOrderMove s
  | .jobSend => Sys2Proof.Machine.execJobSend s
  | .purgeStart => Sys2Proof.Machine.execPurgeStart s
  | .applySend => Sys2Proof.Machine.execApplySend s
  | .labelRejectMove => Sys2Proof.Machine.execLabelRejectMove s
  | .shuttleChoice => Sys2Proof.Machine.execShuttleChoice s
  | .deliveryDecision => Sys2Proof.Machine.execDeliveryDecision s
  | .drainCompleted => Sys2Proof.Machine.execDrainCompleted s
  | .stopCompleted => Sys2Proof.Machine.execStopCompleted s
  | .identify q => Sys2Proof.Machine.execIdentify q s
  | .setIdentity q chars => Sys2Proof.Machine.execSetIdentity q chars s
  | .setSetting q number value => Sys2Proof.Machine.execSetSetting q number value s
  | .getSetting q number => Sys2Proof.Machine.execGetSetting q number s
  | .setTableBands q bands => Sys2Proof.Machine.execSetTableBands q bands s
  | .setTableBases q bases => Sys2Proof.Machine.execSetTableBases q bases s
  | .setTableRecipes q recipes => Sys2Proof.Machine.execSetTableRecipes q recipes s
  | .setTableWindows q windows => Sys2Proof.Machine.execSetTableWindows q windows s
  | .setTableReportMask q flags => Sys2Proof.Machine.execSetTableReportMask q flags s
  | .getTable q number => Sys2Proof.Machine.execGetTable q number s
  | .takeReports q => Sys2Proof.Machine.execTakeReports q s
  | .readCounters q clear => Sys2Proof.Machine.execReadCounters q clear s
  | .articlePut q code mass name => Sys2Proof.Machine.execArticlePut q code mass name s
  | .articleDrop q code => Sys2Proof.Machine.execArticleDrop q code s
  | .articleGet q code form => Sys2Proof.Machine.execArticleGet q code form s
  | .loadCreate q id planned heightLimit shipDate => Sys2Proof.Machine.execLoadCreate q id planned heightLimit shipDate s
  | .slotAdd q id pos tag base recipe lines texts => Sys2Proof.Machine.execSlotAdd q id pos tag base recipe lines texts s
  | .slotSkip q id pos => Sys2Proof.Machine.execSlotSkip q id pos s
  | .loadBind q id lane => Sys2Proof.Machine.execLoadBind q id lane s
  | .loadUnbind q id => Sys2Proof.Machine.execLoadUnbind q id s
  | .loadClose q id => Sys2Proof.Machine.execLoadClose q id s
  | .readLoad q id pos form => Sys2Proof.Machine.execReadLoad q id pos form s
  | .placeClear q place => Sys2Proof.Machine.execPlaceClear q place s
  | .listPlaces q => Sys2Proof.Machine.execListPlaces q s
  | .readZones q release => Sys2Proof.Machine.execReadZones q release s
  | .infeedSet q infeed state => Sys2Proof.Machine.execInfeedSet q infeed state s
  | .readPallet q track => Sys2Proof.Machine.execReadPallet q track s
  | .listPallets q start selector => Sys2Proof.Machine.execListPallets q start selector s
  | .palletRemove q track => Sys2Proof.Machine.execPalletRemove q track s
  | .stationResume q station => Sys2Proof.Machine.execStationResume q station s
  | .zeroScale q => Sys2Proof.Machine.execZeroScale q s
  | .forceRelease q track => Sys2Proof.Machine.execForceRelease q track s
  | .laneHalt q lane => Sys2Proof.Machine.execLaneHalt q lane s
  | .laneResume q lane => Sys2Proof.Machine.execLaneResume q lane s
  | .readLane q lane => Sys2Proof.Machine.execReadLane q lane s
  | .setModeRun q => Sys2Proof.Machine.execSetModeRun q s
  | .setModeDrain q => Sys2Proof.Machine.execSetModeDrain q s
  | .setModeStop q => Sys2Proof.Machine.execSetModeStop q s
  | .resume q => Sys2Proof.Machine.execResume q s
  | .resetFull q => Sys2Proof.Machine.execResetFull q s
  | .resetLine q => Sys2Proof.Machine.execResetLine q s
  | .resetSettings q => Sys2Proof.Machine.execResetSettings q s
  | .flashHalfPeriod lamp => Sys2Proof.Machine.execFlashHalfPeriod lamp s
  | .strapChange pins => Sys2Proof.Machine.execStrapChange pins s

end Sys2Proof.Machine
end

