-- ==== Sys2Proof/Safety.lean ====
section
/-! DEFINITION. The terms statements about the machine are made in: the blocks of state a command leaves as they were, what
the reading requests show, and what a safe run keeps. -/

namespace Sys2Proof.Machine

/-! ### Frames -/

/-- The parts of the state a frame names. The seven derived parts are those that `settle` brings up to date. -/
inductive Block
  | lineTime | queue | counters | address | straps | receiver | answering | identity | mask
  | articles | bases | recipes | bands | loads
  | raw | filtered | timing | estop | entryTaken | diverter | purgeHold | wakeHolds | zones | outputs | places | moves
  | records | nextNumber | enabled | scanners | grant | merge | check | mass | wrap | label | printLimit
  | buffer | deadlock | windows | lanes | laneStates | mode | settings | reported | sent | freeDraws | pending
  deriving DecidableEq, Repr

/-- One part of the state is the same in two states. -/
def Block.Same : Block → State → State → Prop
  | .lineTime, s, t => t.lineTime = s.lineTime
  | .queue, s, t => t.link.reports = s.link.reports ∧ t.link.overflow = s.link.overflow
      ∧ t.link.attention = s.link.attention
  | .counters, s, t => t.link.counters = s.link.counters
  | .address, s, t => t.link.address = s.link.address
  | .straps, s, t => t.link.straps = s.link.straps
  | .receiver, s, t => t.link.receiver = s.link.receiver
  | .answering, s, t => t.link.answering = s.link.answering
  | .identity, s, t => t.link.identity = s.link.identity
  | .mask, s, t => t.link.mask = s.link.mask
  | .articles, s, t => t.plan.articles = s.plan.articles
  | .bases, s, t => t.plan.bases = s.plan.bases
  | .recipes, s, t => t.plan.recipes = s.plan.recipes
  | .bands, s, t => t.plan.bands = s.plan.bands
  | .loads, s, t => t.plan.loads = s.plan.loads
  | .raw, s, t => t.field.raw = s.field.raw
  | .filtered, s, t => t.field.filtered = s.field.filtered
  | .timing, s, t => t.field.timing = s.field.timing
  | .estop, s, t => t.field.estop = s.field.estop
  | .entryTaken, s, t => t.field.entryTaken = s.field.entryTaken
  | .diverter, s, t => t.field.diverterReject = s.field.diverterReject
  | .purgeHold, s, t => t.field.purgeHold = s.field.purgeHold ∧ t.field.purgeSpent = s.field.purgeSpent
  | .wakeHolds, s, t => t.field.wakeHolds = s.field.wakeHolds
  | .zones, s, t => ∀ i, (tget t.field.zones i).state = (tget s.field.zones i).state
      ∧ (tget t.field.zones i).goodRun = (tget s.field.zones i).goodRun
      ∧ (tget t.field.zones i).latch = (tget s.field.zones i).latch
      ∧ (tget t.field.zones i).last = (tget s.field.zones i).last
  | .outputs, s, t => t.field.gateDrive = s.field.gateDrive ∧ t.field.car = s.field.car
      ∧ t.field.shuttleDrive = s.field.shuttleDrive ∧ t.field.lamps = s.field.lamps
      ∧ ∀ i, (tget t.field.zones i).drive = (tget s.field.zones i).drive
        ∧ (tget t.field.zones i).edges = (tget s.field.zones i).edges
        ∧ (tget t.field.zones i).windowLeft = (tget s.field.zones i).windowLeft
  | .places, s, t => t.field.places = s.field.places
  | .moves, s, t => t.field.moves = s.field.moves
  | .records, s, t => t.track.records = s.track.records
  | .nextNumber, s, t => t.track.nextNumber = s.track.nextNumber
  | .enabled, s, t => t.track.enabled = s.track.enabled
  | .scanners, s, t => t.track.scanners = s.track.scanners
  | .grant, s, t => t.merge.grant = s.merge.grant ∧ t.merge.requests = s.merge.requests
  | .merge, s, t => t.merge.lastGranted = s.merge.lastGranted ∧ t.merge.train = s.merge.train ∧ t.merge.gate = s.merge.gate
      ∧ t.merge.switch = s.merge.switch ∧ t.merge.parkPending = s.merge.parkPending ∧ t.merge.fault = s.merge.fault
  | .check, s, t => t.check = s.check
  | .mass, s, t => t.mass = s.mass
  | .wrap, s, t => t.wrap = s.wrap
  | .label, s, t => t.label.pallet = s.label.pallet ∧ t.label.condition = s.label.condition ∧ t.label.fault = s.label.fault
      ∧ t.label.jobs = s.label.jobs ∧ t.label.nextJob = s.label.nextJob ∧ t.label.purge = s.label.purge
      ∧ t.label.ack = s.label.ack ∧ t.label.apply = s.label.apply ∧ t.label.faceA = s.label.faceA
      ∧ t.label.faceB = s.label.faceB
  | .printLimit, s, t => t.label.print = s.label.print
  | .buffer, s, t => t.buffer.reserved = s.buffer.reserved ∧ t.buffer.exitPallet = s.buffer.exitPallet
      ∧ t.buffer.task = s.buffer.task ∧ t.buffer.fault = s.buffer.fault ∧ t.buffer.releases = s.buffer.releases
      ∧ t.buffer.forced = s.buffer.forced ∧ t.buffer.lastServed = s.buffer.lastServed
  | .deadlock, s, t => t.buffer.deadlock = s.buffer.deadlock
  | .windows, s, t => t.buffer.windows = s.buffer.windows
  | .lanes, s, t => ∀ l, (tget t.lanes l).count = (tget s.lanes l).count ∧ (tget t.lanes l).halt = (tget s.lanes l).halt
  | .laneStates, s, t => ∀ l, (tget t.lanes l).status = (tget s.lanes l).status
  | .mode, s, t => t.mode = s.mode
  | .settings, s, t => t.settings = s.settings
  | .reported, s, t => t.reported = s.reported
  | .sent, s, t => t.sent = s.sent
  | .freeDraws, s, t => t.freeDraws = s.freeDraws
  | .pending, s, t => t.pending = s.pending

/-- Every part of the state but those named is the same in two states. -/
def KeepsAllBut (bs : List Block) (s t : State) : Prop := ∀ b, b ∉ bs → b.Same s t

/-- The parts that follow from the rest of the state, brought up to date at the end of a step: the report queue, the grant's
release and the requests, the reported states, the lane states, the deadlock flag, the print limit and the outputs. -/
def derived : List Block := [.queue, .grant, .reported, .laneStates, .deadlock, .printLimit, .outputs]

/-! ### What a request finds -/

/-- A request that this part runs and answers: whole, at its station address, with answering clear (R191). -/
abbrev Addressed (q : Req) (s : State) : Prop := q.whole = true ∧ q.broadcast = false ∧ s.link.answering = false

/-- The part while it answers a request: answering is set (R191). -/
def State.asked (s : State) : State := s.modLink fun u => { u with answering := true }

/-- The part after a request it only answers: answering set and the reply sent, nothing else changed (R191, R192). -/
def State.answers (s : State) (kind : Nat) (code : Result) (body : ReplyBody) : State := s.asked.send (s.reply kind code body)

/-- A request is answered with one reply, the only message sent: it carries the station address and the request's kind plus 128
(R191, R192). -/
def Replied (s t : State) (kind : Nat) (code : Result) (body : ReplyBody) : Prop :=
  t.link.answering = true ∧ t.sent = s.sent ++ [.reply s.link.address (kind + 128) code body]

/-- What a request that changes the state leaves alone: everything but the parts named, answering, the reply and the derived
parts. -/
def RequestKeeps (bs : List Block) (s t : State) : Prop := KeepsAllBut (bs ++ .answering :: .sent :: derived) s t

/-- The octet that completes a frame, which may carry any request (R190, R191). -/
def EndsFrame (c : Instr) (s : State) : Prop :=
  ∃ o f gap, c = .linkOctet o ∧ s.link.receiver = .receiving f gap ∧ (f ++ [o]).length = 7 + frameLength (f ++ [o])

/-- A full reset: at power-on, by the RESET pin, or by a RESET FULL that is not broken or lost (R183). -/
def ResetsInFull (c : Instr) (s : State) : Prop :=
  c = .powerOn ∨ c = .resetPin ∨ ∃ q, c = .resetFull q ∧ q.whole = true ∧ s.link.answering = false

/-- A report stands in the report queue. -/
def Reported (t : State) (k : ReportKind) (r : Report → Prop) : Prop := ∃ x ∈ t.link.reports, x.kind = k ∧ r x

/-- The report queue takes every report: no kind is masked, and there is room for thirty-two (R197). -/
def QueueOpen (s : State) : Prop := s.link.mask = Vector.replicate 26 true ∧ s.link.reports.length ≤ 32

/-- The record after faults entered in its fault list in order, those beyond four counted lost (R54). -/
def Record.withFaults (r : Record) (new : List Code) : Record :=
  let room := 4 - r.faults.length
  { r with
    faults := r.faults ++ new.take room
    faultsLost := if new.length ≤ room then r.faultsLost else min 255 (r.faultsLost + (new.length - room)) }

/-- The COUNTER_HALF report that a raise of a counter makes: one when it passes from 32,767 to 32,768 with its half mark armed (R199). -/
def halfReports (s : State) (k : Counter) : List Report :=
  if tget s.link.counters k.idx = ⟨32767, true⟩ then [⟨.counterHalf, s.lineTime, none, none, none, k.number, some 32768⟩] else []

/-- A counter raised once (R199): one higher, held at 65,535; its half mark kept, and spent by the raise that takes it to 32,768; that
raise alone queues COUNTER_HALF, once, when the queue is open and the mark was armed. -/
def Counted (s t : State) (k : Counter) : Prop :=
  let e := tget s.link.counters k.idx
  tget t.link.counters k.idx = ⟨max e.count (min 65535 (e.count + 1)), e.armed && e.count != 32767⟩
    ∧ (QueueOpen s → ∃ new, t.link.reports = s.link.reports ++ new
        ∧ new.filter (fun x => x.kind == .counterHalf && x.detail == k.number) = halfReports s k)

/-- A rejected slot: EXPECTED without a claimant, one reject more, at most 255 (R12). -/
def Slot.rejected (sl : Slot) : Slot := { sl with state := .expected, claimant := none, rejects := min 255 (sl.rejects + 1) }

/-- Sixteen decimal digits, not all zeros (R58). -/
def TagDigits (d : Text) : Prop := d.length = 16 ∧ (∀ c ∈ d, 48 ≤ c.toNat ∧ c.toNat ≤ 57) ∧ ∃ c ∈ d, c ≠ 48#8

/-- The fields of a SLOT_ADD are in range (R20, second check). -/
def SlotInRange (pos : Nat) (tag : Text) (base recipe : Nat) (lines : List ArticleLine) (texts : List Text) : Prop :=
  1 ≤ pos ∧ pos ≤ 36 ∧ TagDigits tag ∧ base ≤ 3 ∧ recipe ≤ 15 ∧ 1 ≤ lines.length ∧ lines.length ≤ 8
    ∧ (∀ l ∈ lines, 1 ≤ l.article ∧ l.article ≤ 65535 ∧ 1 ≤ l.count ∧ l.count ≤ 999) ∧ texts.length ≤ 4
    ∧ ∀ x ∈ texts, x.length ≤ 32 ∧ ∀ c ∈ x, 32 ≤ c.toNat ∧ c.toNat ≤ 126

/-- No entry read of a record is outstanding or waiting at its infeed's scanner (R58). -/
def EntryReadOver (s : State) (r : Record) : Prop :=
  (∀ rd left, (s.scanner (.entry r.infeed)).outstanding = some (rd, left) → rd.track ≠ r.number)
    ∧ ∀ rd ∈ (s.scanner (.entry r.infeed)).waiting, rd.track ≠ r.number

/-- The DEFERRED records that carry a tag, in creation order (R62). -/
def State.deferredWith (s : State) (d : Text) : List Record := s.track.records.filter fun r => r.stage == .deferred && r.tag == some d

/-- A DEFERRED record after the offer of a slot with its tag (R62): the one that claims it has the load reference, every other is
DUPLICATE, the deferral is over, and the record is READY when its head mark is set and ENTERING otherwise. -/
def Record.offered (r : Record) (claims : Bool) (ref : LoadRef) : Record :=
  { r with
    ref := if claims then some ref else r.ref
    mark := if claims then r.mark else some .duplicate
    deferral := none
    stage := if r.headMark then .ready else .entering }

/-- The MATCH report of a DEFERRED record that an offer takes (R59, R62): CLAIMED or TAKEN, on occasion 3. -/
def offerReport (s : State) (r : Record) (claims : Bool) (ref : LoadRef) : Report :=
  let shown := if claims then some ref else r.ref
  ⟨.matched, s.lineTime, some r.number, shown.map (·.load), shown.map (·.position), if claims then 1 else 2, some 3⟩

/-- A scanner no longer waits for the answer to an ended read: the next waiting read, if any, has been sent (R58). -/
def EndedReadOver (s t : State) (sc : Scanner) : Prop :=
  (∀ k, k ≠ sc → t.scanner k = s.scanner k)
    ∧ match (s.scanner sc).waiting with
      | [] => t.scanner sc = ⟨none, [], none⟩ ∧ t.sent = s.sent
      | rd :: rest => t.scanner sc = ⟨some (rd, s.setting .ackLimit), rest, none⟩
          ∧ t.sent = s.sent ++ [.read sc (match rd.purpose with | .verify f => some f | _ => none)]

/-- The stage of a record once its read outstanding at an infeed's scanner has ended: READY when it is ENTERING at the head with
no other entry read of it outstanding or waiting, and the stage it had otherwise (R65). -/
def StageAfterRead (s : State) (i : Infeed) (r : Record) : Stage :=
  let own := s.scanner (.entry r.infeed)
  let another := (r.infeed ≠ i ∧ ∃ x, own.outstanding = some x ∧ x.1.track = r.number) ∨ ∃ rd ∈ own.waiting, rd.track = r.number
  if r.stage = .entering ∧ r.headMark = true ∧ ¬ another then .ready else r.stage

/-- The conditions under which a move starts (R40); which of several car moves goes first is the reading of log entry 28. -/
def MayStart (s : State) (m : Move) : Prop :=
  m.state = .waiting ∧ (s.mode.mode = .run ∨ s.mode.mode = .drain) ∧ (s.zone m.zone).state ≠ .stalled
    ∧ (s.place m.source).unknown = false ∧ (s.place m.dest).unknown = false
    ∧ (∀ i, m.dest.completedBy = some i → s.input i = false)
    ∧ (∀ k ∈ s.field.moves, k.dest = m.dest → k.state = .waiting) ∧ s.carrierFree m = true ∧ s.carWaitsFor m = false

/-- The first move to a place that a covering of its sensor completes: the first in the list that has started (R40, R42). -/
def BoundFor (s : State) (p : Place) (m : Move) : Prop :=
  s.field.moves.find? (fun k => k.dest == p && k.state != .waiting) = some m

/-- The filter of a sensor has run out to a level (R27). -/
def Senses (s : State) (i : Input) (b : Bool) : Prop := tget s.field.timing i.idx = some 0 ∧ s.rawLevel i = b

/-- The pallet of a completing move has left the place it left, which is clearing while a pallet still covers it (R42). -/
def LeftBehind (s t : State) (m : Move) : Prop :=
  t.place m.source = { s.place m.source with
    occupants := (s.place m.source).occupants.filter (· != m.track)
    clearing := (s.place m.source).clearing || (m.source.capacity == 1 && t.covered m.source) }

/-- The pallet of a completed move stands in its destination: in its occupants, and no longer in its incoming list (R42). -/
def StandsIn (s t : State) (m : Move) : Prop :=
  t.place m.dest = { s.place m.dest with
    incoming := (s.place m.dest).incoming.filter (· != m.track)
    occupants := (s.place m.dest).occupants ++ [m.track] }

/-- A move of a record from a place to another waits in the list, the record is moving there, and the place expects it (R39). -/
def MoveAsked (s t : State) (n : Nat) (src dest : Place) (z : Zone) : Prop :=
  t.move? n = some ⟨n, src, dest, z, .waiting, 0, 0, false⟩
    ∧ t.place dest = { s.place dest with incoming := (s.place dest).incoming ++ [n] }

/-- The record of a pallet once its move to a place is over: it stands there, a late one again in the stage it held before it was
LOST (R42, R44). -/
def Record.arrivedAt (r : Record) (m : Move) : Record :=
  if m.state = .lost then { r with stage := r.preLost.getD r.stage, preLost := none, location := m.dest, movingTo := none }
  else { r with location := m.dest, movingTo := none }

/-- What the end of a move leaves at the place its pallet left: nothing changed there by a late completion, which is reported LATE
(R44), and otherwise the pallet gone (R42). -/
def SourceAfter (s t : State) (m : Move) : Prop :=
  (m.state = .lost → t.place m.source = s.place m.source
      ∧ (QueueOpen s → Reported t .late fun x => x.track = some m.track ∧ x.detail = m.dest.number))
    ∧ (m.state ≠ .lost → LeftBehind s t m)

/-! ### What a pallet leaves behind when its move is lost or its record deleted -/

/-- A place that has given up a pallet for good (R43, R67; log entry 15 for one that was UNKNOWN): where it is to be set anew it is no
longer clearing, and it is UNKNOWN when it is covered, with PLACE_UNKNOWN of a value raised, and FREE when it is not. -/
def GivenUp (s t : State) (p : Place) (n : Nat) (setAnew : Prop) (why : Int) : Prop :=
  let e := s.place p
  (setAnew → t.place p = { e with occupants := e.occupants.filter (· != n), unknown := s.covered p, clearing := false }
      ∧ (s.covered p = true → t.placeState p = .unknown
        ∧ (QueueOpen s → Reported t .placeUnknown fun x => x.detail = p.number ∧ x.value = some why)))
    ∧ (¬ setAnew → t.place p = { e with occupants := e.occupants.filter (· != n) })

/-- The Mass Unit when CHECK becomes UNKNOWN, and when it does not (R108): a zero capture that is open then ends FAILED. -/
def ZeroDisturbed (s t : State) (disturbed : Prop) : Prop :=
  (∀ cap, disturbed → s.mass.capture = some cap → cap.purpose = .zero →
      t.mass = ⟨none, s.mass.offset, .failed, s.mass.valid, none, none⟩ ∧ t.sent = s.sent ++ [.hush]
      ∧ (QueueOpen s → Reported t .zeroDone fun x => x.detail = 5 ∧ x.value = none))
    ∧ (¬ disturbed ∨ (∀ cap, s.mass.capture = some cap → cap.purpose ≠ .zero) → t.mass = s.mass ∧ t.sent = s.sent)

/-- A wrapper whose pallet has left it (R126, R128): IDLE with its idle-since time set, unless it is FAULTED. -/
def WrapperState.given (u : WrapperState) (now : LineTime) : WrapperState :=
  { u with
    pallet := none
    order := none
    status := if u.status = .faulted then .faulted else .idle
    idleSince := if u.status = .faulted then u.idleSince else now }

/-- The label unit after a pallet has left LABEL: without its pallet and EMPTY when it was the unit's (R144; log entry 47 for the
faces), and as it was otherwise. -/
def LabelController.given (u : LabelController) (n : Nat) : LabelController :=
  if u.pallet.map (·.track) = some n then
    { u with pallet := none, condition := .empty, print := none, apply := none, faceA := .pending, faceB := .pending }
  else u

/-- The blocks that own the place a lost pallet left, and the station answerable for its move, after the expiry (R43): CHECK (R91), the
wrappers (R125, R126), LABEL (R144, R145) and SHUTTLE (R161, R164). -/
def OwnersAfterLoss (s t : State) (m : Move) : Prop :=
  (t.check.condition = (if m.source = .check then if ∃ k ∈ s.field.moves, k.dest = .check then .incoming else .empty
        else s.check.condition)
      ∧ t.check.fault = (s.check.fault || m.station = .check)
      ∧ (m.source ≠ .check → t.check.current = s.check.current) ∧ (s.check.current = none → t.check.current = none))
    ∧ (∀ w, let u := if m.source = .wrapper w then (s.wrapper w).given s.lineTime else s.wrapper w;
        t.wrapper w = if m.station = .wrapper w then { u with status := .faulted, cause := some .move } else u)
    ∧ t.wrap.staging = s.wrap.staging ∧ t.wrap.labelOrder = s.wrap.labelOrder
    ∧ (let u := if m.source = .label then s.label.given m.track else s.label;
        t.label = { u with fault := if m.station = .label then some .move else u.fault, print := t.label.print })
    ∧ (m.source = .label → s.label.pallet.map (·.track) = some m.track → t.label.print = none)
    ∧ t.buffer = { s.buffer with
        exitPallet := if m.source = .label ∧ s.buffer.exitPallet = some m.track then none else s.buffer.exitPallet
        fault := s.buffer.fault || m.station = .shuttle
        reserved := if m.station = .shuttle ∧ m.source = .shuttle then
            tmap (fun x => if x = some m.track then none else x) s.buffer.reserved else s.buffer.reserved
        deadlock := t.buffer.deadlock }

/-- The blocks that hold a deleted record drop it (R67): the Wrap Controller (R128), the Label Controller (R149) and the Buffer
Controller (R166). -/
def OwnersAfterDeletion (s t : State) (n : Nat) : Prop :=
  let job : Prop := ∃ j ∈ s.label.jobs, j.track = n
  let applying : Prop := s.label.pallet.map (·.track) = some n ∧ s.label.apply.isSome = true
  (∀ w, t.wrapper w = if (s.wrapper w).pallet = some n then
        { (s.wrapper w).given s.lineTime with held := if (s.wrapper w).status = .stalled then none else (s.wrapper w).held }
      else s.wrapper w)
    ∧ (∀ k, t.staging k = if (s.staging k).map (·.track) = some n then none else s.staging k)
    ∧ t.wrap.labelOrder = s.wrap.labelOrder.filter (·.track != n)
    ∧ t.label = { s.label.given n with
        jobs := s.label.jobs.filter (·.track != n)
        ack := if ∃ j ∈ s.label.jobs, j.track = n ∧ j.state = .sent then none else s.label.ack
        purge := if job ∨ applying then if s.label.purge = .running then .running else .pending else s.label.purge
        print := t.label.print }
    ∧ t.buffer = { s.buffer with
        reserved := tmap (fun x => if x = some n then none else x) s.buffer.reserved
        task := match s.buffer.task with | some k => if k.track = n then none else some k | none => none
        releases := s.buffer.releases.filter (·.track != n)
        forced := s.buffer.forced.filter (· != n)
        exitPallet := if s.buffer.exitPallet = some n then none else s.buffer.exitPallet
        deadlock := t.buffer.deadlock }

/-- The check station holds a record: it stands there, is on its way there or is under check (R91). -/
def CheckHolds (s : State) (r : Record) : Prop :=
  r.number ∈ (s.place .check).occupants ∨ r.movingTo = some .check ∨ ∃ c, s.check.current = some c ∧ c.track = r.number

/-- The check station drops a deleted record that it holds (R91). -/
def CheckAfterDeletion (s t : State) (r : Record) : Prop :=
  (CheckHolds s r → t.check = { s.check with
      condition := if ∃ m ∈ s.field.moves, m.track ≠ r.number ∧ m.dest = .check then .incoming else .empty
      current := match s.check.current with | some c => if c.track = r.number then none else some c | none => none })
    ∧ (¬ CheckHolds s r → t.check = s.check)

/-- The case in which an arrival at an infeed is refused in a mode: the first of R56 that applies. -/
def RefusedFor (s : State) (i : Infeed) (mode : LineMode) (case : Nat) : Prop :=
  let e := s.place (.infeed i)
  (tget s.track.enabled i.idx = false ∧ case = 1)
    ∨ (tget s.track.enabled i.idx = true ∧ mode = .drain ∧ case = 2)
    ∨ (tget s.track.enabled i.idx = true ∧ mode ≠ .drain ∧ e.unknown = true ∧ case = 3)
    ∨ (tget s.track.enabled i.idx = true ∧ mode ≠ .drain ∧ e.unknown = false ∧ 3 ≤ e.occupants.length ∧ case = 4)
    ∨ (tget s.track.enabled i.idx = true ∧ mode ≠ .drain ∧ e.unknown = false ∧ e.occupants.length < 3
        ∧ 32 ≤ s.track.records.length ∧ case = 5)

/-- The number that the next record takes (R52): the counter's when no record holds it, and otherwise the next upward that none holds,
255 being followed by 1. -/
def NextFree (s : State) (n : Nat) : Prop :=
  let upward (k : Nat) : Nat := (s.track.nextNumber - 1 + k) % 255 + 1
  s.record? n = none ∧ ∃ k, k < 255 ∧ n = upward k ∧ ∀ j, j < k → (s.record? (upward j)).isSome = true

/-- The report of an arrival (R57): the infeed as detail code, the number of pallets then on it as value. -/
def ArrivalReported (s t : State) (i : Infeed) (n : Nat) : Prop :=
  QueueOpen s → Reported t .arrival fun x => x.track = some n ∧ x.load = none ∧ x.position = none ∧ x.detail = i.number
    ∧ x.value = some (((s.place (.infeed i)).occupants.length + 1 : Nat) : Int)

/-- The entry read of a new record at its infeed's scanner (R57, R58): sent at once to an idle scanner, its limit ACK_LIMIT, and waiting
last while a read is outstanding there, or the answer to an ended read may still come (log entry 10). -/
def EntryReadAsked (s t : State) (i : Infeed) (n : Nat) : Prop :=
  let e := s.scanner (.entry i)
  (e = ⟨none, [], none⟩ → t.scanner (.entry i) = ⟨some (⟨n, .entry⟩, s.setting .ackLimit), [], none⟩ ∧ .read (.entry i) none ∈ t.sent)
    ∧ (e.outstanding.isSome = true ∨ e.ended.isSome = true →
        t.scanner (.entry i) = { e with waiting := e.waiting ++ [⟨n, .entry⟩] })

/-- An arrival at an infeed is taken (R57): a record under a number no record held, last among the occupants, the entry-taken mark
set, the arrival reported and its entry read asked, outstanding or waiting. The record may since have been asked to move. -/
def Arrived (s t : State) (i : Infeed) : Prop :=
  ∃ n r, ArrivalReported s t i n ∧ EntryReadAsked s t i n ∧ s.record? n = none ∧ 1 ≤ n ∧ n ≤ 255 ∧ t.record? n = some r
    ∧ r = { newRecord n i s.lineTime with movingTo := r.movingTo }
    ∧ t.place (.infeed i) = { s.place (.infeed i) with occupants := (s.place (.infeed i)).occupants ++ [n] }
    ∧ tget t.field.entryTaken i.idx = true
    ∧ (((t.scanner (.entry i)).outstanding.map (·.1)) = some ⟨n, .entry⟩ ∨ ⟨n, .entry⟩ ∈ (t.scanner (.entry i)).waiting)

/-- No arrival is taken at an infeed: its place and its entry-taken mark stay (R56). -/
def NotArrived (s t : State) (i : Infeed) : Prop :=
  t.place (.infeed i) = s.place (.infeed i) ∧ tget t.field.entryTaken i.idx = tget s.field.entryTaken i.idx

/-- The arrivals the start of watching hands on at an infeed when the mode becomes one: taken or refused where the entry sensor is
covered with its mark clear, and otherwise none (R29). -/
def Watched (s t : State) (i : Infeed) (mode : LineMode) : Prop :=
  (s.input (.entry i) = true → tget s.field.entryTaken i.idx = false →
      ((∀ case, ¬ RefusedFor s i mode case) → Arrived s t i)
      ∧ ∀ case, RefusedFor s i mode case → NotArrived s t i
        ∧ (QueueOpen s → Reported t .infeedRefused fun x => x.detail = i.number ∧ x.value = some (case : Int)))
    ∧ (s.input (.entry i) = false ∨ tget s.field.entryTaken i.idx = true → NotArrived s t i)

/-- The wake hold of an infeed where holds start: WAKE_HOLD with AUTO_WAKE on, the infeed enabled and its entry sensor covered, and
otherwise what it was (R33). -/
def WakeStarts (t : State) (i : Infeed) (was : Option Nat) : Prop :=
  tget t.field.wakeHolds i.idx =
    if t.setting .autoWake = 1 ∧ tget t.track.enabled i.idx = true ∧ t.input (.entry i) = true then some (t.setting .wakeHold) else was

/-- Every wake hold has been abandoned, and in STOPPED those whose conditions hold have started afresh (R33). -/
def WakesAnew (t : State) : Prop :=
  ∀ i, (t.mode.mode = .stopped → WakeStarts t i none) ∧ (t.mode.mode ≠ .stopped → tget t.field.wakeHolds i.idx = none)

/-- Every input of the purge combination in force is active; with NONE, never (R32). -/
def PurgeCombined (s : State) : Prop :=
  (s.setting .purgeCombination = 1 ∧ s.input .op1 = true ∧ s.input .op2 = true)
    ∨ (s.setting .purgeCombination = 2 ∧ s.input .op1 = true ∧ s.input .op2 = true ∧ s.input .key = true)

/-- The check of the pallet that stands on CHECK begins (R85): its parts PENDING but for the tag part of a record with a load
reference, a capture open, STREAM, MEASURE and the messages named sent, and scanner 4 asked for a tag that is absent. -/
def CheckBegun (s t : State) (r : Record) (after : List Message) : Prop :=
  let e := s.scanner .check
  let asks : Prop := r.tag = none ∧ e.outstanding = none ∧ e.ended = none ∧ e.waiting = []
  t.check = ⟨.weighing, false, some
      ⟨r.number, s.lineTime, ⟨s.lineTime + BitVec.ofNat 32 (s.setting .settleDelay), s.setting .settleDelay⟩,
        ⟨s.lineTime + BitVec.ofNat 32 (s.setting .settleLimit), s.setting .settleLimit⟩, .pending, .pending,
        if r.ref.isSome then .present else .pending, true⟩⟩
    ∧ t.mass = { s.mass with
        capture := some ⟨.check r.number, [], s.setting .windowSize, s.setting .stabilityWidth, s.setting .division,
          s.setting .settleDelay == 0⟩ }
    ∧ t.record? r.number = some r
    ∧ (r.tag ≠ none → t.scanner .check = e)
    ∧ (asks → t.scanner .check = ⟨some (⟨r.number, .check⟩, s.setting .ackLimit), [], none⟩
        ∧ t.sent = s.sent ++ [.stream, .measure, .read .check none] ++ after)
    ∧ (r.tag = none → e.outstanding.isSome = true ∨ e.ended.isSome = true →
        t.scanner .check = { e with waiting := e.waiting ++ [⟨r.number, .check⟩] })
    ∧ (r.tag ≠ none ∨ e.outstanding.isSome = true ∨ e.ended.isSome = true → t.sent = s.sent ++ [.stream, .measure] ++ after)

/-- The pallet that stands on CHECK is failed unweighed for its plan mark (R84, R89, R90): verdict, fault, reject and the way to the
check reject spur, or BLOCKED without room there. -/
def FailedUnchecked (s t : State) (r : Record) (v : Code) : Prop :=
  ∃ goes : Bool, (goes = true ↔ s.hasRoom (.spur .check) = true)
    ∧ t.record? r.number = some { r.withFaults [v] with
        verdict := some v, stage := .toReject, ref := none
        movingTo := if goes then some (.spur .check) else r.movingTo }
    ∧ t.check = ⟨if goes then .routing else .blocked, false, none⟩
    ∧ (goes = true → MoveAsked s t r.number .check (.spur .check) .centre)
    ∧ (goes = false → t.move? r.number = none ∧ t.place (.spur .check) = s.place (.spur .check))
    ∧ (∀ ref sl, r.ref = some ref → s.slot? ref = some sl → t.slot? ref = some sl.rejected)
    ∧ (r.ref = none → t.plan.loads = s.plan.loads) ∧ t.mass = s.mass
    ∧ (QueueOpen s → Reported t .checkDone fun x => x.track = some r.number ∧ x.detail = v.number ∧ x.value = none)
    ∧ (QueueOpen s → Reported t .reject fun x => x.track = some r.number ∧ x.detail = v.number)

/-- The pallet on CHECK, with its record as it then stands, is sent to the first place of a list that has room, or waits BLOCKED
when none has (R90). -/
def RoutedOut (s t : State) (r : Record) (places : List Place) : Prop :=
  ∃ dest : Option Place, dest = places.find? s.hasRoom
    ∧ t.record? r.number = some { r with movingTo := if dest.isSome then dest else r.movingTo }
    ∧ t.check.condition = (if dest.isSome then .routing else .blocked)
    ∧ (∀ p, dest = some p → MoveAsked s t r.number .check p .centre)
    ∧ (dest = none → t.move? r.number = none ∧ ∀ p ∈ places, t.place p = s.place p)

/-- The conditions of the verdict, in the order they are tested (R89). -/
def checkOrder : List Code :=
  [.noTag, .unplanned, .duplicate, .overload, .unstable, .profileMissing, .overhang, .height, .over, .under]

/-- A condition of the verdict fails, on the parts of a check, its record, the height limit of the record's load and the verdict on
mass (R89). -/
def CheckFails (k : Check) (r : Record) (limit : Option Nat) (onMass : Option Code) : Code → Prop
  | .noTag => k.tag = .failed .noTag
  | .unplanned => r.mark = some .unplanned
  | .duplicate => r.mark = some .duplicate
  | .overload => k.mass = .failed .overload
  | .unstable => k.mass = .failed .unstable
  | .profileMissing => ∃ c, k.profile = .failed c
  | .overhang => k.profile = .present ∧ ∃ o, r.overhang = some o ∧ o ≠ ⟨false, false, false, false⟩
  | .height => k.profile = .present ∧ ∃ h n, r.height = some h ∧ limit = some n ∧ n < h
  | .over => onMass = some .over
  | .under => onMass = some .under
  | _ => False

/-- The verdict of a plan mark (R84). -/
def PlanMark.verdict : PlanMark → Code
  | .unplanned => .unplanned
  | .duplicate => .duplicate

/-- A wrapper is ORDERED with an order: in RUN or DRAIN the order is sent at once under the next number, and otherwise it waits
(R117). The messages named follow. -/
def OrderedWith (s t : State) (w : Side) (o : Order) (after : List Message) : Prop :=
  let u := s.wrapper w
  (s.mode.mode = .run ∨ s.mode.mode = .drain →
      t.wrapper w = { u with
        status := .ordered, cause := none
        order := some { o with number := some u.nextOrder, sent := true, ack := some (s.setting .ackLimit), wrap := none }
        held := some u.nextOrder
        nextOrder := if 255 ≤ u.nextOrder then 1 else u.nextOrder + 1 }
      ∧ t.sent = s.sent ++ .order w u.nextOrder o.recipe o.height :: after)
    ∧ (s.mode.mode ≠ .run → s.mode.mode ≠ .drain →
      t.wrapper w = { u with status := .ordered, cause := none, order := some { o with sent := false, ack := none, wrap := none } }
      ∧ t.sent = s.sent ++ after)

/-- The label unit's pallet, with its record as it then stands, is passed on to the finish reject spur, or waits BLOCKED without room
there (R143). -/
def PassedOn (s t : State) (r : Record) : Prop :=
  ∃ goes : Bool, (goes = true ↔ r.location = .label ∧ s.hasRoom (.spur .finish) = true)
    ∧ t.record? r.number = some { r with stage := .toReject, movingTo := if goes then some (.spur .finish) else r.movingTo }
    ∧ t.label.condition = (if goes then .rejecting else .blocked)
    ∧ (goes = true → MoveAsked s t r.number .label (.spur .finish) .centre)
    ∧ (goes = false → t.move? r.number = none ∧ t.place (.spur .finish) = s.place (.spur .finish))

/-- The work of the label unit's pallet begins by its outcome (R136). -/
def LabelWorkBegun (s t : State) (r : Record) (failed : Bool) : Prop :=
  (failed = false → t.record? r.number = some r ∧ t.label.condition = .printWait ∧ t.label.faceA = .pending
      ∧ t.label.faceB = .pending)
    ∧ (failed = true → PassedOn s t r
      ∧ (QueueOpen s → Reported t .labelDone fun x => x.track = some r.number ∧ x.detail = 3 ∧ x.value = some 0))

/-- The label unit's pallet, with its record, becomes LABEL_FAILED (R142). -/
def LabelGivenUp (s t : State) (r : Record) : Prop :=
  PassedOn s t { r with verdict := some .labelFailed, ref := none }
    ∧ (∀ ref sl, r.ref = some ref → s.slot? ref = some sl → t.slot? ref = some sl.rejected)
    ∧ Counted s t .labelFailures ∧ (∀ k : Counter, k ≠ .labelFailures → tget t.link.counters k.idx = tget s.link.counters k.idx)
    ∧ (QueueOpen s → Reported t .reject fun x => x.track = some r.number ∧ x.load = r.ref.map (·.load) ∧ x.detail = 14)

/-! ### The choice of an infeed (R77) -/

/-- The infeed requests the check station (R75). -/
def Asks (s : State) (i : Infeed) : Prop := (tget s.merge.requests i.idx).isSome = true

/-- The conditions under which the Merge Arbiter makes a choice (R76). -/
def MayChoose (s : State) : Prop :=
  s.merge.grant = none ∧ (∃ i, Asks s i) ∧ (s.mode.mode = .run ∨ s.mode.mode = .drain) ∧ s.mass.valid = true
    ∧ s.mass.status ≠ .running ∧ s.merge.switch = none ∧ s.merge.parkPending = false ∧ s.merge.fault = false
    ∧ s.check.fault = false ∧ s.placeState .check = .free

/-- How long an infeed's request has waited (R75). -/
def waited (s : State) (i : Infeed) : Nat := ((tget s.merge.requests i.idx).map (·.waited)).getD 0

/-- The infeed requests and has waited at least STARVATION_LIMIT (R77, case 2). -/
def Starves (s : State) (i : Infeed) : Prop := Asks s i ∧ s.setting .starvationLimit ≤ waited s i

/-- Steps from the infeed after the last granted to an infeed, in the order A, B, C, A, B; from A with none granted (R77, case 4). -/
def turn (last : Option Infeed) (i : Infeed) : Nat :=
  match last with
  | none => i.number
  | some j => (i.number + 2 - j.number) % 3

/-- The first case of R77 that applies chooses the infeed. -/
def MergeChosen (s : State) (i : Infeed) : Prop :=
  let train (j : Infeed) : Prop := s.merge.lastGranted = some j ∧ Asks s j ∧ s.merge.train < s.setting .trainLength
  let park (j : Infeed) : Prop := s.setting .parkInfeed = j.number ∧ Asks s j
  let earlier (j k : Infeed) : Prop := turn s.merge.lastGranted j < turn s.merge.lastGranted k
  train i
    ∨ ((∀ j, ¬ train j) ∧ Starves s i
        ∧ ∀ j, j ≠ i → Starves s j → waited s j < waited s i ∨ (waited s j = waited s i ∧ earlier i j))
    ∨ ((∀ j, ¬ train j) ∧ (∀ j, ¬ Starves s j) ∧ park i)
    ∨ ((∀ j, ¬ train j) ∧ (∀ j, ¬ Starves s j) ∧ (∀ j, ¬ park j) ∧ Asks s i ∧ ∀ j, j ≠ i → Asks s j → earlier i j)

/-! ### The verdict on mass (R97, R101, R103) -/

/-- The band used for a net mass: the first whose edge exceeds it, or the last when no edge does (R101). -/
def BandUsed (t : List Band) (net : Nat) (b : Band) : Prop :=
  ∃ before after, t = before ++ b :: after ∧ (∀ x ∈ before, x.edge ≤ net) ∧ (net < b.edge ∨ after = [])

/-- The verdict on mass from D and T (R103). -/
def MassVerdict (d : Int) (t : Nat) (v : Code) : Prop :=
  (-(t : Int) ≤ d ∧ d ≤ t ∧ 2 * d.natAbs ≤ t ∧ v = .pass) ∨ (-(t : Int) ≤ d ∧ d ≤ t ∧ t < 2 * d.natAbs ∧ v = .passMarginal)
    ∨ ((t : Int) < d ∧ v = .over) ∨ (d < -(t : Int) ∧ v = .under)

/-- A reading in range makes the last K readings of a check capture no more than W apart, and `m` is then M: their average rounded
to d, half-way upward, less the zero offset, brought into 0 to 2,000,000 g (R96, R97, R100). -/
def WindowMass (s : State) (cap : Capture) (g m : Int) : Prop :=
  ∃ (q : Int) (old win : List Int), 0 < cap.size ∧ cap.window.length ≤ cap.size ∧ 0 < cap.division
    ∧ cap.window ++ [g] = old ++ win ∧ win.length = cap.size ∧ (∀ x ∈ win, ∀ y ∈ win, x - y ≤ cap.width)
    ∧ q * (cap.size * cap.division) ≤ win.sum + (cap.size * cap.division) / 2
    ∧ win.sum + (cap.size * cap.division) / 2 < (q + 1) * (cap.size * cap.division)
    ∧ m = max 0 (min 2000000 (q * cap.division - s.mass.offset))

/-- What the mass part gives the verdict: D, T and the verdict on mass, computed when the part is PRESENT and the record carries a load
reference (R89, R101 to R103). -/
def MassJudged (s : State) (k : Check) (r : Record) (onMass : Option (Int × Nat × Code)) : Prop :=
  (∀ ref sl m, k.mass = .present → r.ref = some ref → s.slot? ref = some sl → r.mass = some m →
      ∃ T v, onMass = some ((m : Int) - sl.gross, T, v) ∧ MassVerdict ((m : Int) - sl.gross) T v
        ∧ ∀ b, BandUsed s.plan.bands sl.net b → T = min (s.setting .toleranceMax) (b.fixed + sl.net * b.perMille / 1000))
    ∧ (k.mass ≠ .present ∨ r.ref = none → onMass = none)

/-- The verdict is given on a check whose parts are resolved and on its record (R89, R90): the failing conditions enter the fault
list in order, the first of them, or with none the verdict on mass, is written to the record, D and T too where they were
computed, and the pallet is routed, its slot given back when it fails. -/
def VerdictGiven (s t : State) (k : Check) (r : Record) (onMass : Option (Int × Nat × Code)) : Prop :=
  ∃ (fails : List Code) (primary : Code) (r' : Record),
    fails.Sublist checkOrder
    ∧ (∀ c, c ∈ fails ↔
        CheckFails k r ((r.ref.bind fun ref => s.load? ref.load).map (·.heightLimit)) (onMass.map (·.2.2)) c)
    ∧ (fails.head? = some primary ∨ (fails = [] ∧ onMass.map (·.2.2) = some primary))
    ∧ r' = { r.withFaults fails with
        deviation := match onMass with | some (d, T, _) => some (d, T) | none => r.deviation
        verdict := some primary
        stage := if fails = [] then r.stage else .toReject
        ref := if fails = [] then r.ref else none }
    ∧ (∃ dest, t.record? r.number = some { r' with movingTo := dest })
    ∧ (r.location = .check → s.move? r.number = none →
        RoutedOut s t r' (if fails = [] then [.staging .one, .staging .two] else [.spur .check]))
    ∧ t.check.current = none ∧ t.check.condition ≠ .weighing
    ∧ (∀ ref sl, fails ≠ [] → r.ref = some ref → s.slot? ref = some sl → t.slot? ref = some sl.rejected)
    ∧ (QueueOpen s → Reported t .checkDone fun x =>
        x.track = some r.number ∧ x.load = r.ref.map (·.load) ∧ x.detail = primary.number ∧ x.value = onMass.map (·.1))
    ∧ (QueueOpen s → fails ≠ [] → Reported t .reject fun x =>
        x.track = some r.number ∧ x.load = r.ref.map (·.load) ∧ x.detail = primary.number)

/-- The last part of a check is resolved and the verdict given (R88, R89). A record without a verdict on mass always fails a
condition (R89). -/
def Judged (s t : State) (k : Check) (r : Record) : Prop :=
  ∃ onMass, MassJudged s k r onMass
    ∧ ((∃ c, CheckFails k r ((r.ref.bind fun ref => s.load? ref.load).map (·.heightLimit)) (onMass.map (·.2.2)) c)
        ∨ onMass.isSome = true → VerdictGiven s t k r onMass)

/-! ### The choice of a wrapper (R113, R114) and the film estimate (R120) -/

/-- The pallet staged at `k` is the oldest staged pallet: no other was staged earlier, nor, at position 2, at the same time (R113). -/
def OldestStaged (s : State) (k : Side) : Prop :=
  ∃ e, s.staging k = some e ∧ ∀ j d, j ≠ k → s.staging j = some d → s.age d.since < s.age e.since ∨ (s.age d.since = s.age e.since ∧ k = .one)

/-- A wrapper that is not the one with a top-sheet dispenser cannot serve a recipe with a top sheet (R114). -/
def Serves (w : Side) (rc : Recipe) : Prop := w = .one ∨ rc.topSheet = false

/-- The pallet staged at `k` is a candidate with the recipe `rc` (R114), its staging place not UNKNOWN (R36). -/
def Candidate (s : State) (k : Side) (rc : Recipe) : Prop :=
  (s.place (.staging k)).unknown = false ∧ ∃ e, s.staging k = some e ∧ s.move? e.track = none ∧ s.recipeOf e.track = some rc

/-- The first case of R114 that applies gives the pallet staged at `k`, of recipe `rc`, to wrapper `w`. -/
def WrapChosen (s : State) (k w : Side) (rc : Recipe) : Prop :=
  Candidate s k rc ∧ s.wrapperFree w = true
    ∧ (((∀ v, s.wrapperFree v = true) ∧ OldestStaged s k
          ∧ w = (if rc.topSheet then .one
                 else if s.age (s.wrapper .two).idleSince > s.age (s.wrapper .one).idleSince then .two else .one))
      ∨ ((∀ v, v ≠ w → s.wrapperFree v = false) ∧ Serves w rc
          ∧ (OldestStaged s k
              ∨ (s.setting .wrapBypass = 1 ∧ ∀ j rj, j ≠ k → Candidate s j rj → ¬ Serves w rj))))

/-- The estimate of a wrap's film in dm: the least E with E times (100 + prestretch) not below revolutions times perimeter (R120). -/
def FilmEstimate (rc : Recipe) (height length width e : Nat) : Prop :=
  ∃ pitch body, pitch = 500 * (100 - rc.overlap) / 100
    ∧ height ≤ body * pitch ∧ (∀ k, height ≤ k * pitch → body ≤ k)
    ∧ (rc.bottom + rc.top + body) * (2 * (length + width)) ≤ e * (100 + rc.prestretch)
    ∧ (∀ k, (rc.bottom + rc.top + body) * (2 * (length + width)) ≤ k * (100 + rc.prestretch) → e ≤ k)

/-! ### The jobs of the printer (R132, R133) -/

/-- The pallet the next job is for: the first of the label sequence that needs a job (R132, R134). -/
def JobDue (s : State) (n : Nat) : Prop :=
  let jobless (k : Nat) : Prop := ∀ j ∈ s.label.jobs, j.track ≠ k
  let first (k : Nat) : Prop := s.label.pallet = some ⟨k, false⟩
    ∧ (s.label.condition = .incoming ∨ s.label.condition = .arrived ∨ s.label.condition = .printWait) ∧ jobless k
  first n
    ∨ ((∀ k, ¬ first k) ∧ ∃ before e after, s.wrap.labelOrder = before ++ e :: after ∧ e.track = n ∧ e.failed = false
        ∧ jobless n ∧ ∀ x ∈ before, x.failed = true ∨ ¬ jobless x.track)

/-- A mass as it is printed: hundreds of grams, a half rounded up, in decimal with a point before the last digit (R133). -/
def PrintedMass (g : Nat) (t : Text) : Prop :=
  ∃ whole last, t = whole ++ [46#8, last] ∧ whole ≠ [] ∧ (whole.head? = some 48#8 → whole.length = 1)
    ∧ (∀ c ∈ last :: whole, 48 ≤ c.toNat ∧ c.toNat ≤ 57)
    ∧ (whole.foldl (fun n c => 10 * n + (c.toNat - 48)) 0) * 10 + (last.toNat - 48) = (g + 50) / 100

/-! ### Load order and the shuttle (R153, R157, R158, R160) -/

/-- The next position of a load (R157). -/
def NextPosition (l : Load) (k : Nat) : Prop :=
  1 ≤ k ∧ (∀ j sl, j < k → l.slotAt j = some sl → sl.state = .dispatched ∨ sl.state = .skipped)
    ∧ ((∃ sl, l.slotAt k = some sl ∧ sl.state ≠ .dispatched ∧ sl.state ≠ .skipped)
        ∨ (k = l.slots.length + 1 ∧ l.slots.length < l.planned))

/-- The lane of the load a record belongs to (R5, R51). -/
def LaneOf (s : State) (r : Record) (ref : LoadRef) (ld : Load) (l : Lane) : Prop :=
  r.ref = some ref ∧ s.load? ref.load = some ld ∧ ld.lane = some l

/-- A pallet is releasable into a lane (R158). -/
def CanRelease (s : State) (r : Record) (l : Lane) : Prop :=
  ∃ ref ld, LaneOf s r ref ld l ∧ (NextPosition ld ref.position ∨ r.number ∈ s.buffer.forced) ∧ s.laneStatus l = .ready
    ∧ (tget s.lanes l).count + (s.buffer.releases.filter (·.lane == l)).length < 3
    ∧ (s.place (.lane l)).unknown = false ∧ ∀ m ∈ s.field.moves, m.dest = .lane l → m.state ≠ .lost

/-- The position chosen for a pallet: the lowest open one of its lane's window, or else the lowest open shared one (R153). -/
def PositionChosen (s : State) (r : Record) (p : Position) : Prop :=
  let opened (q : Position) : Prop := s.placeState (.position q) = .free ∧ tget s.buffer.reserved q = none
  let own (q : Position) : Prop := opened q ∧ ∃ ref ld l, LaneOf s r ref ld l ∧ windowHolds (tget s.buffer.windows l) q = true
  let shared (q : Position) : Prop := opened q ∧ ∀ l, windowHolds (tget s.buffer.windows l) q = false
  (own p ∧ ∀ q, own q → p ≤ q) ∨ ((∀ q, ¬ own q) ∧ shared p ∧ ∀ q, shared q → p ≤ q)

/-- Steps from the lane after the one served last to a lane, 6 being followed by 1 (R160). -/
def laneTurn (s : State) (l : Lane) : Nat := (l.val + 5 - s.buffer.lastServed.val) % 6

/-- A HELD pallet that case 1 of R160 may take for a lane. -/
def HeldFor (s : State) (r : Record) (l : Lane) : Prop :=
  r ∈ s.track.records ∧ r.stage = .held ∧ CanRelease s r l ∧ (s.place r.location).unknown = false ∧ s.move? r.number = none

/-- The record is that of a slot at its load's next position. -/
def IsNext (s : State) (r : Record) : Prop := ∃ ref ld, r.ref = some ref ∧ s.load? ref.load = some ld ∧ NextPosition ld ref.position

/-- The first case of R160 that applies gives the shuttle this pallet and this task. -/
def ShuttleChosen (s : State) (r : Record) (target : TaskFor) : Prop :=
  (∃ l, target = .release l ∧ HeldFor s r l ∧ (∀ k h, HeldFor s h k → laneTurn s l ≤ laneTurn s k)
      ∧ (IsNext s r ∨ ((∀ h, HeldFor s h l → ¬ IsNext s h)
          ∧ ∀ h, HeldFor s h l → (r.ref.map (·.position)).getD 0 ≤ (h.ref.map (·.position)).getD 0)))
    ∨ ((∀ k h, ¬ HeldFor s h k) ∧ s.buffer.exitPallet = some r.number ∧ s.record? r.number = some r
        ∧ (s.place .label).unknown = false
        ∧ ((∃ l, target = .release l ∧ CanRelease s r l)
            ∨ (∃ p, target = .store p ∧ (∀ l, ¬ CanRelease s r l) ∧ PositionChosen s r p)))

/-- The deadlock condition: a label-exit pallet not releasable and without a position, no HELD pallet releasable, the shuttle
IDLE (R168). -/
def Deadlocked (s : State) : Prop :=
  s.buffer.task = none
    ∧ (∃ n r, s.buffer.exitPallet = some n ∧ s.record? n = some r ∧ (∀ l, ¬ CanRelease s r l) ∧ ∀ p, ¬ PositionChosen s r p)
    ∧ ∀ h ∈ s.track.records, h.stage = .held → ∀ l, ¬ CanRelease s h l

/-- The release of a pallet to a lane is under way (R161, R162). -/
def ReleaseUnderWay (b b' : BufferController) (n : Nat) (l : Lane) (leg : Leg) : Prop :=
  b' = { b with task := some ⟨n, .release l, leg⟩, releases := b.releases ++ [⟨n, l⟩], lastServed := l, reserved := b'.reserved,
                deadlock := b'.deadlock }

/-! ### Quiet and worked off (R176, R177) -/

/-- The line is quiet (R176). -/
def Quiet (s : State) : Prop :=
  (∀ m ∈ s.field.moves, m.state ≠ .inFlight) ∧ s.merge.switch = none ∧ s.check.condition ≠ .weighing ∧ s.mass.status ≠ .running
    ∧ (∀ w, (s.wrapper w).status ≠ .running
        ∧ ((s.wrapper w).status = .ordered → ∀ o, (s.wrapper w).order = some o → o.sent = false))
    ∧ (∀ j ∈ s.label.jobs, j.state ≠ .sent) ∧ s.label.purge ≠ .running ∧ s.label.condition ≠ .applying
    ∧ s.label.condition ≠ .verifying

/-- A record is HELD or stands in a reject spur (R177). -/
def AtRest (s : State) (r : Record) : Prop :=
  r.stage = .held ∨ ∃ sp, r.number ∈ (s.place (.spur sp)).occupants

/-- The drain test passes (R177). -/
def WorkedOff (s : State) : Prop :=
  (∀ r ∈ s.track.records, AtRest s r) ∧ (∀ m ∈ s.field.moves, m.state ≠ .waiting) ∧ Quiet s

/-! ### The requests (R193, R207) -/

/-- The request a command is and its kind number (R207). UNKNOWN_KIND names no request. -/
def requestOf : Instr → Option (Req × Nat)
  | .identify q => some (q, 0x01)
  | .setIdentity q _ => some (q, 0x02)
  | .setSetting q _ _ => some (q, 0x03)
  | .getSetting q _ => some (q, 0x04)
  | .setTableBands q _ => some (q, 0x05)
  | .setTableBases q _ => some (q, 0x05)
  | .setTableRecipes q _ => some (q, 0x05)
  | .setTableWindows q _ => some (q, 0x05)
  | .setTableReportMask q _ => some (q, 0x05)
  | .getTable q _ => some (q, 0x06)
  | .takeReports q => some (q, 0x07)
  | .readCounters q _ => some (q, 0x08)
  | .articlePut q _ _ _ => some (q, 0x10)
  | .articleDrop q _ => some (q, 0x11)
  | .articleGet q _ _ => some (q, 0x12)
  | .loadCreate q _ _ _ _ => some (q, 0x13)
  | .slotAdd q _ _ _ _ _ _ _ => some (q, 0x14)
  | .slotSkip q _ _ => some (q, 0x15)
  | .loadBind q _ _ => some (q, 0x16)
  | .loadUnbind q _ => some (q, 0x17)
  | .loadClose q _ => some (q, 0x18)
  | .readLoad q _ _ _ => some (q, 0x19)
  | .placeClear q _ => some (q, 0x20)
  | .listPlaces q => some (q, 0x21)
  | .readZones q _ => some (q, 0x22)
  | .infeedSet q _ _ => some (q, 0x28)
  | .readPallet q _ => some (q, 0x29)
  | .listPallets q _ _ => some (q, 0x2A)
  | .palletRemove q _ => some (q, 0x2B)
  | .zeroScale q => some (q, 0x30)
  | .stationResume q _ => some (q, 0x31)
  | .forceRelease q _ => some (q, 0x38)
  | .laneHalt q _ => some (q, 0x39)
  | .laneResume q _ => some (q, 0x3A)
  | .readLane q _ => some (q, 0x3B)
  | .setModeRun q => some (q, 0x40)
  | .setModeDrain q => some (q, 0x40)
  | .setModeStop q => some (q, 0x40)
  | .resume q => some (q, 0x41)
  | .resetFull q => some (q, 0x42)
  | .resetLine q => some (q, 0x42)
  | .resetSettings q => some (q, 0x42)
  | _ => none

/-- A request as it is when it reaches the part in another way: the same row and fields (R193). Other commands stay as they are. -/
def sentAs (p : Req) : Instr → Instr
  | .identify _ => .identify p
  | .setIdentity _ x => .setIdentity p x
  | .setSetting _ n v => .setSetting p n v
  | .getSetting _ n => .getSetting p n
  | .setTableBands _ t => .setTableBands p t
  | .setTableBases _ t => .setTableBases p t
  | .setTableRecipes _ t => .setTableRecipes p t
  | .setTableWindows _ t => .setTableWindows p t
  | .setTableReportMask _ t => .setTableReportMask p t
  | .getTable _ n => .getTable p n
  | .takeReports _ => .takeReports p
  | .readCounters _ n => .readCounters p n
  | .articlePut _ code mass name => .articlePut p code mass name
  | .articleDrop _ code => .articleDrop p code
  | .articleGet _ code form => .articleGet p code form
  | .loadCreate _ id planned height date => .loadCreate p id planned height date
  | .slotAdd _ id pos tag base recipe lines texts => .slotAdd p id pos tag base recipe lines texts
  | .slotSkip _ id pos => .slotSkip p id pos
  | .loadBind _ id lane => .loadBind p id lane
  | .loadUnbind _ id => .loadUnbind p id
  | .loadClose _ id => .loadClose p id
  | .readLoad _ id pos form => .readLoad p id pos form
  | .placeClear _ n => .placeClear p n
  | .listPlaces _ => .listPlaces p
  | .readZones _ release => .readZones p release
  | .infeedSet _ n v => .infeedSet p n v
  | .readPallet _ n => .readPallet p n
  | .listPallets _ start selector => .listPallets p start selector
  | .palletRemove _ n => .palletRemove p n
  | .zeroScale _ => .zeroScale p
  | .stationResume _ n => .stationResume p n
  | .forceRelease _ n => .forceRelease p n
  | .laneHalt _ n => .laneHalt p n
  | .laneResume _ n => .laneResume p n
  | .readLane _ n => .readLane p n
  | .setModeRun _ => .setModeRun p
  | .setModeDrain _ => .setModeDrain p
  | .setModeStop _ => .setModeStop p
  | .resume _ => .resume p
  | .resetFull _ => .resetFull p
  | .resetLine _ => .resetLine p
  | .resetSettings _ => .resetSettings p
  | c => c

/-- A message is no reply on the dispatch link. -/
def NoReply (m : Message) : Prop := ∀ a k code body, m ≠ .reply a k code body

/-- The kinds of the requests whose only work is to build a reply (R193). -/
def replyOnly : List Nat := [0x01, 0x04, 0x06, 0x07, 0x08, 0x12, 0x19, 0x21, 0x22, 0x29, 0x2A, 0x3B]

/-- The payload a request is sent with, its fields in the order the request's entry names them, high octet first (R205, R207;
section 12.7 for SLOT_ADD). The widths the spec leaves open are those of log entry 20. -/
def payloadOf : Instr → List Octet
  | .setIdentity _ x => x
  | .setSetting _ n v => octets1 n ++ octetsInt v
  | .getSetting _ n => octets1 n
  | .setTableBands _ t => octets1 1 ++ t.flatMap Band.octets
  | .setTableBases _ t => octets1 2 ++ t.flatMap Base.octets
  | .setTableRecipes _ t => octets1 3 ++ t.flatMap Recipe.octets
  | .setTableWindows _ t => octets1 4 ++ t.flatMap Window.octets
  | .setTableReportMask _ t => octets1 5 ++ t.flatMap octets1
  | .getTable _ n => octets1 n
  | .readCounters _ n => octets1 n
  | .articlePut _ code mass name => octets2 code ++ octets4 mass ++ octetsText name
  | .articleDrop _ code => octets2 code
  | .articleGet _ code form => octets2 code ++ octets1 (match form with | .exact => 0 | .next => 1)
  | .loadCreate _ id planned height date => octets2 id ++ octets1 planned ++ octets2 height ++ date
  | .slotAdd _ id pos tag base recipe lines texts =>
    octets2 id ++ octets1 pos ++ tag ++ octets1 base ++ octets1 recipe ++ octetsList ArticleLine.octets lines
      ++ octetsList octetsText texts
  | .slotSkip _ id pos => octets2 id ++ octets1 pos
  | .loadBind _ id lane => octets2 id ++ octets1 lane
  | .loadUnbind _ id => octets2 id
  | .loadClose _ id => octets2 id
  | .readLoad _ id pos form => octets2 id ++ octets1 pos ++ octets1 form
  | .placeClear _ n => octets1 n
  | .readZones _ release => octetsFlag release
  | .infeedSet _ n v => octets1 n ++ octets1 v
  | .readPallet _ n => octets1 n
  | .listPallets _ start selector => octets1 start ++ octets1 selector
  | .palletRemove _ n => octets1 n
  | .stationResume _ n => octets1 n
  | .forceRelease _ n => octets1 n
  | .laneHalt _ n => octets1 n
  | .laneResume _ n => octets1 n
  | .readLane _ n => octets1 n
  | .setModeRun _ => octets1 1
  | .setModeDrain _ => octets1 2
  | .setModeStop _ => octets1 3
  | .resetFull _ => octets1 1
  | .resetLine _ => octets1 2
  | .resetSettings _ => octets1 3
  | _ => []

/-- The fields of a request fit the octets its payload gives them (R205, R206). -/
def Fits (c : Instr) : Prop :=
  (payloadOf c).length ≤ 480 ∧
  match c with
  | .setIdentity _ x => x.length = 16
  | .setSetting _ n v => n < 256 ∧ -2147483648 ≤ v ∧ v < 2147483648
  | .getSetting _ n => n < 256
  | .setTableBands _ t => ∀ b ∈ t, b.edge < 4294967296 ∧ b.fixed < 4294967296 ∧ b.perMille < 256
  | .setTableBases _ t => ∀ b ∈ t, b.tare < 4294967296 ∧ b.length < 65536 ∧ b.width < 65536
  | .setTableRecipes _ t =>
    ∀ r ∈ t, r.bottom < 256 ∧ r.top < 256 ∧ r.overlap < 256 ∧ r.prestretch < 65536 ∧ r.tension < 256
  | .setTableWindows _ t => ∀ w ∈ t, w.base < 256 ∧ w.size < 256
  | .setTableReportMask _ t => ∀ f ∈ t, f < 256
  | .getTable _ n => n < 256
  | .readCounters _ n => n < 256
  | .articlePut _ code mass name => code < 65536 ∧ mass < 4294967296 ∧ name.length < 256
  | .articleDrop _ code => code < 65536
  | .articleGet _ code _ => code < 65536
  | .loadCreate _ id planned height date => id < 65536 ∧ planned < 256 ∧ height < 65536 ∧ date.length = 10
  | .slotAdd _ id pos tag base recipe lines texts =>
    id < 65536 ∧ pos < 256 ∧ tag.length = 16 ∧ base < 256 ∧ recipe < 256 ∧ lines.length < 256 ∧ texts.length < 256
      ∧ (∀ l ∈ lines, l.article < 65536 ∧ l.count < 65536) ∧ ∀ x ∈ texts, x.length < 256
  | .slotSkip _ id pos => id < 65536 ∧ pos < 256
  | .loadBind _ id lane => id < 65536 ∧ lane < 256
  | .loadUnbind _ id => id < 65536
  | .loadClose _ id => id < 65536
  | .readLoad _ id pos form => id < 65536 ∧ pos < 256 ∧ form < 256
  | .placeClear _ n => n < 256
  | .infeedSet _ n v => n < 256 ∧ v < 256
  | .readPallet _ n => n < 256
  | .listPallets _ start selector => start < 256 ∧ selector < 256
  | .palletRemove _ n => n < 256
  | .stationResume _ n => n < 256
  | .forceRelease _ n => n < 256
  | .laneHalt _ n => n < 256
  | .laneResume _ n => n < 256
  | .readLane _ n => n < 256
  | _ => True

/-- The payload lengths of the requests whose payload has one length, by kind number (R192, R205, R207). -/
def payloadLengths : List (Nat × Nat) :=
  [(0x01, 0), (0x02, 16), (0x03, 5), (0x04, 1), (0x06, 1), (0x07, 0), (0x08, 1), (0x11, 2), (0x12, 3), (0x13, 15), (0x15, 3),
   (0x16, 3), (0x17, 2), (0x18, 2), (0x19, 4), (0x20, 1), (0x21, 0), (0x22, 1), (0x28, 2), (0x29, 1), (0x2A, 2), (0x2B, 1),
   (0x30, 0), (0x31, 1), (0x38, 1), (0x39, 1), (0x3A, 1), (0x3B, 1), (0x40, 1), (0x41, 0), (0x42, 1)]

/-- The octets of a SLOT_ADD payload whose length its own counts imply: 21 octets, a count of lines of four octets each, and a count
of texts, each after its length octet (section 12.7, R205). -/
def SlotPayload (p : List Octet) : Prop :=
  ∃ (head lines : List Octet) (n m : Octet) (texts : List Text),
    p = head ++ n :: lines ++ m :: texts.flatMap (fun x => BitVec.ofNat 8 x.length :: x)
      ∧ head.length = 21 ∧ lines.length = 4 * n.toNat ∧ texts.length = m.toNat ∧ ∀ x ∈ texts, x.length < 256

/-- A payload of SET_TABLE that names no table, or whose contents are not whole entries (R196, R205; the octets of an entry are those
of log entry 20). -/
def BrokenTable (p : List Octet) : Prop :=
  p = [] ∨ ∃ (n : Octet) (rest : List Octet), p = n :: rest
    ∧ (n.toNat = 0 ∨ 5 < n.toNat ∨ ∃ k size, (k, size) ∈ [(1, 9), (2, 8), (3, 7), (4, 2)] ∧ n.toNat = k ∧ rest.length % size ≠ 0)

/-- A flag as a number, for the presence bits of chapter 12. -/
def bit (b : Bool) (k : Nat) : Nat := if b then 2 ^ k else 0

/-- The READ_PALLET reply, each field with its offset and octets (section 12.6). -/
def palletLayout (r : Record) (move : Option MoveState) (left : Option Nat) : List (Nat × List Octet) :=
  [(1, octets2 (bit r.tag.isSome 0 + bit r.ref.isSome 1 + bit r.movingTo.isSome 2 + bit r.height.isSome 3 + bit r.overhang.isSome 4
      + bit r.mass.isSome 5 + bit r.deviation.isSome 6 + bit r.verdict.isSome 7 + bit r.wrapper.isSome 8 + bit r.filmLength.isSome 9
      + bit r.filmMass.isSome 10 + bit r.shippedGross.isSome 11 + bit r.job.isSome 12 + bit r.deferral.isSome 13)),
   (3, octets1 r.number), (4, match r.tag with | some d => d | none => List.replicate 16 0#8), (20, octets1 r.infeed.number),
   (21, octets4 r.arrival.toNat), (25, octets2 (match r.ref with | some x => x.load | none => 0)),
   (27, octets1 (match r.ref with | some x => x.position | none => 0)),
   (28, octets1 (match r.mark with | none => 0 | some .unplanned => 1 | some .duplicate => 2)), (29, octets1 r.stage.number),
   (30, octets1 (bit r.headMark 0)), (31, octets1 r.location.number),
   (32, octets1 (match r.movingTo with | some p => p.number | none => 0)), (33, octets2 (r.height.getD 0)),
   (35, octets1 (match r.overhang with | some o => bit o.front 0 + bit o.back 1 + bit o.left 2 + bit o.right 3 | none => 0)),
   (36, octets4 (r.mass.getD 0)), (40, octetsInt (match r.deviation with | some x => x.1 | none => 0)),
   (44, octets4 (match r.deviation with | some x => x.2 | none => 0)),
   (48, octets1 (match r.verdict with | some c => c.number | none => 0)), (49, octets1 r.faults.length),
   (50, octets1 (match r.faults[0]? with | some c => c.number | none => 0)),
   (51, octets1 (match r.faults[1]? with | some c => c.number | none => 0)),
   (52, octets1 (match r.faults[2]? with | some c => c.number | none => 0)),
   (53, octets1 (match r.faults[3]? with | some c => c.number | none => 0)), (54, octets1 r.faultsLost),
   (55, octets1 (match r.wrapper with | some w => w.number | none => 0)), (56, octets1 r.wrapAttempts),
   (57, octets2 (r.filmLength.getD 0)), (59, octets4 (r.filmMass.getD 0)), (63, octets4 (r.shippedGross.getD 0)),
   (67, octets1 (r.job.getD 0)), (68, octets1 r.labelAttempts),
   (69, octets4 (match r.deferral with | some d => d.due.toNat | none => 0)),
   (73, octets1 (match move with | none => 0 | some .waiting => 1 | some .inFlight => 2 | some .lost => 3)),
   (74, octets4 (left.getD 0))]

/-! ### What a safe run keeps -/

/-- The report queue holds at most 64 reports, the attention line is asserted exactly while it holds one, and every counter lies
between 0 and 65,535 (R197, R199). -/
def LinkInv (s : State) : Prop :=
  s.link.reports.length ≤ 64 ∧ (s.link.attention = true ↔ s.link.reports ≠ []) ∧ ∀ i, (tget s.link.counters i).count ≤ 65535

/-- A value a setting may hold (R209; R110 for DIVISION, R150 for PRINTER_DEPTH). -/
def Setting.allows (k : Setting) (v : Nat) : Prop :=
  match k with
  | .division => v = 10 ∨ v = 20 ∨ v = 50 ∨ v = 100
  | .printerDepth => v = 1 ∨ v = 4
  | _ => k.ends.1 ≤ v ∧ v ≤ k.ends.2

/-- Every setting holds a value of its range (R194, R209). -/
def SettingsInv (s : State) : Prop := ∀ k : Setting, k.allows (s.setting k)

/-- The saved mode is present exactly while the line is HALTED and is not HALTED itself; a drain limit is present only while
the mode, or the saved mode of a halt, is DRAIN (R174). -/
def ModeInv (s : State) : Prop :=
  (s.mode.saved.isSome ↔ s.mode.mode = .halted) ∧ s.mode.saved ≠ some .halted
    ∧ (s.mode.drain.isSome → s.mode.mode = .drain ∨ s.mode.saved = some .drain)

/-- The zero offset lies within 40,000 g of 0 (R93). -/
def ZeroInv (s : State) : Prop := -40000 ≤ s.mass.offset ∧ s.mass.offset ≤ 40000

/-- The article table holds at most 256 records in ascending order of code, each with its fields in range (R1). -/
def ArticlesInv (s : State) : Prop :=
  s.plan.articles.length ≤ 256 ∧ s.plan.articles.Pairwise (fun a b => a.code < b.code)
    ∧ ∀ a ∈ s.plan.articles, 1 ≤ a.code ∧ a.code ≤ 65535 ∧ 1 ≤ a.mass ∧ a.mass ≤ 80000 ∧ a.name.length ≤ 24
      ∧ ∀ c ∈ a.name, 32 ≤ c.toNat ∧ c.toNat ≤ 126

/-- The Track Table holds at most 32 records under distinct track numbers from 1 to 255, and its counter lies in that range
(R51, R52). -/
def RecordsInv (s : State) : Prop :=
  s.track.records.length ≤ 32 ∧ (s.track.records.map (·.number)).Nodup
    ∧ (∀ r ∈ s.track.records, 1 ≤ r.number ∧ r.number ≤ 255) ∧ 1 ≤ s.track.nextNumber ∧ s.track.nextNumber ≤ 255

/-- The Plan Store holds at most 12 loads under distinct ids and lanes, no tag twice, and every field in its range (R5, R7 to R9,
R19). -/
def LoadsInv (s : State) : Prop :=
  s.plan.loads.length ≤ 12 ∧ (s.plan.loads.map (·.id)).Nodup ∧ (s.plan.loads.filterMap (·.lane)).Nodup
    ∧ (s.plan.loads.flatMap fun l => l.slots.map (·.tag)).Nodup
    ∧ ∀ l ∈ s.plan.loads, 1 ≤ l.id ∧ l.id ≤ 65535 ∧ 1 ≤ l.planned ∧ l.planned ≤ 36 ∧ l.slots.length ≤ l.planned
      ∧ 1000 ≤ l.heightLimit ∧ l.heightLimit ≤ 2700 ∧ (l.status = .bound → l.lane.isSome = true)
      ∧ (l.status = .stored → l.lane = none) ∧ ∀ x ∈ l.slots, x.gross ≤ 2000000 ∧ x.base ≤ 3 ∧ x.recipe ≤ 15

/-- An infeed accumulates (R46). -/
def Accumulates (s : State) (i : Infeed) : Prop :=
  (s.mode.mode = .run ∨ s.mode.mode = .drain) ∧ (s.zone (.infeed i)).state ≠ .stalled ∧ (s.place (.infeed i)).unknown = false
    ∧ (s.place (.infeed i)).occupants ≠ [] ∧ s.input (.head i) = false

/-- The pattern a lamp or beacon is to show (R31 for the stop lamps, spur beacons and fault beacon; R156 for the lane beacons). -/
def Shows (s : State) : Lamp → Pattern → Prop
  | .lane l, p =>
    (s.boundLoad l = none ∧ p = .off)
      ∨ ∃ ld, s.boundLoad l = some ld
        ∧ ((ld.status = .complete ∧ p = .flashFast)
          ∨ (ld.status ≠ .complete ∧ s.laneStatus l = .halted ∧ p = .off)
          ∨ (ld.status ≠ .complete ∧ s.laneStatus l = .ready ∧ p = .steady)
          ∨ (ld.status ≠ .complete ∧ (s.laneStatus l = .full ∨ s.laneStatus l = .doorShut) ∧ p = .flashSlow))
  | .stop i, p =>
    let refuses : Prop := tget s.track.enabled i.idx = false ∨ s.mode.mode ≠ .run ∨ (s.place (.infeed i)).unknown = true
      ∨ 3 ≤ (s.place (.infeed i)).occupants.length ∨ 32 ≤ s.track.records.length
    (refuses ∧ p = .steady) ∨ (¬ refuses ∧ p = .off)
  | .spur sp, p =>
    let e := s.place (.spur sp)
    (e.unknown = true ∧ p = .flashFast) ∨ (e.unknown = false ∧ 3 ≤ e.occupants.length ∧ p = .steady)
      ∨ (e.unknown = false ∧ (e.occupants.length = 1 ∨ e.occupants.length = 2) ∧ p = .flashSlow)
      ∨ (e.unknown = false ∧ e.occupants = [] ∧ p = .off)
  | .fault, p =>
    let trouble : Prop := (∃ st, s.stationState st = .faulted ∨ s.stationState st = .stalled) ∨ (∃ z, (s.zone z).state = .stalled)
      ∨ (∃ q, (s.place q).unknown = true) ∨ ∃ r ∈ s.track.records, r.stage = .lost
    (s.mode.mode = .halted ∧ p = .flashFast) ∨ (s.mode.mode ≠ .halted ∧ trouble ∧ p = .steady)
      ∨ (s.mode.mode ≠ .halted ∧ ¬ trouble ∧ p = .off)

/-- A lamp is lit all the time while STEADY and not at all while OFF, and a flashing one has no more of its half period left than a
half period and the part of a centisecond it began early (R31). -/
def LampLit (l : LampState) : Prop :=
  (l.pattern = .off → l.lit = false) ∧ (l.pattern = .steady → l.lit = true)
    ∧ (l.pattern = .flashSlow → l.left ≤ 101) ∧ (l.pattern = .flashFast → l.left ≤ 26)

/-- A carrier's drive follows the moves in flight: it is off in STOPPED and HALTED and with no move that it carries, and otherwise its
target is that of such a move (R30). -/
def CarrierFollows {α : Type} (s : State) (drive : Option α) (carries : Move → α → Prop) : Prop :=
  (∀ x, drive = some x → s.mode.mode ≠ .stopped ∧ s.mode.mode ≠ .halted
      ∧ ∃ m ∈ s.field.moves, m.state = .inFlight ∧ carries m x)
    ∧ (drive = none → s.mode.mode ≠ .stopped → s.mode.mode ≠ .halted →
      ∀ m ∈ s.field.moves, m.state = .inFlight → ∀ x, ¬ carries m x)

/-- An infeed is to request the check station: its oldest record is READY, it is enabled and its place is not UNKNOWN (R75). -/
def WantsCheck (s : State) (i : Infeed) : Prop :=
  (∃ n rest r, (s.place (.infeed i)).occupants = n :: rest ∧ s.record? n = some r ∧ r.stage = .ready)
    ∧ tget s.track.enabled i.idx = true ∧ (s.place (.infeed i)).unknown = false

/-- A grant is over: its record is deleted, or has left CHECK's occupants by its move out with the check exit sensor clear (R79). A
record that still stands on its infeed has not come to CHECK yet. -/
def GrantOver (s : State) (g : Grant) : Prop :=
  s.record? g.track = none
    ∨ (s.input .checkExit = false ∧ g.track ∉ (s.place .check).occupants
      ∧ ∃ r, s.record? g.track = some r ∧ ∀ i, r.location ≠ .infeed i)

/-- The print limit is to run: the label unit's pallet is in PRINT_WAIT, its job is TAKEN and LABEL is not FAULTED (R135). -/
def PrintWaits (s : State) : Prop :=
  s.label.condition = .printWait ∧ s.label.fault = none
    ∧ ∃ p j, s.label.pallet = some p ∧ s.label.jobs.find? (fun x => x.track == p.track) = some j ∧ j.state = .taken

/-- The outputs and the reported states are those that the rest of the state calls for: the drives (R30), the lamps and beacons
(R31, R156), the stations (R83, R116, R131, R159), the lanes (R155), the deadlock flag (R168), the requests of the infeeds (R75),
the grant, not over (R79), and the print limit (R135). -/
def SignalsInv (s : State) : Prop :=
  (∀ z, (s.zone z).drive = true ↔ s.mode.mode ≠ .stopped ∧ s.mode.mode ≠ .halted
      ∧ ((∃ m ∈ s.field.moves, m.zone = z ∧ m.state = .inFlight) ∨ ∃ i, z = .infeed i ∧ Accumulates s i))
    ∧ s.field.gateDrive = (if s.mode.mode = .stopped ∨ s.mode.mode = .halted then none else s.merge.switch.map (·.target))
    ∧ CarrierFollows s s.field.car (fun m w => (∃ k, m.source = .staging k) ∧ m.dest = .wrapper w)
    ∧ CarrierFollows s s.field.shuttleDrive (fun m p => (m.source = .shuttle ∨ m.dest = .shuttle) ∧ m.dest = p)
    ∧ (∀ l, Shows s l (tget s.field.lamps l.idx).pattern ∧ LampLit (tget s.field.lamps l.idx))
    ∧ (∀ st, tget s.reported st.idx = s.stationState st)
    ∧ (∀ l, (tget s.lanes l).status = s.laneStatus l)
    ∧ (s.buffer.deadlock = true ↔ Deadlocked s)
    ∧ (∀ i, (tget s.merge.requests i.idx).isSome = true ↔ WantsCheck s i)
    ∧ (∀ g, s.merge.grant = some g → ¬ GrantOver s g)
    ∧ (s.label.print.isSome = true ↔ PrintWaits s)

/-- What a step does to the requests, the grant and the print limit: a request that begins waits from the line time of the step
(R75); a grant is given up only when it is over (R79); a print limit that starts is APPLY_LIMIT as it then stands (R135). -/
def SignalsBegin (s t : State) : Prop :=
  (∀ (i : Infeed) (w : Waiting), tget s.merge.requests i.idx = none → tget t.merge.requests i.idx = some w → w = ⟨t.lineTime, 0⟩)
    ∧ (∀ g, s.merge.grant = some g → t.merge.grant = some g ∨ (t.merge.grant = none ∧ GrantOver t g))
    ∧ (∀ n, s.label.print = none → t.label.print = some n → n = t.setting .applyLimit)

/-! ### What the reading requests show -/

/-- The sensors of a place (R37). -/
def sensorsOf : Place → List Input
  | .infeed i => [.entry i, .head i]
  | .check => [.checkArrival, .checkExit]
  | .staging k => [.staging k]
  | .wrapper w => [.wrapper w]
  | .label => [.labelArrival, .labelExit]
  | .shuttle => [.shuttleLoaded]
  | .position p => [.position p]
  | .spur sp => [.spurEntry sp, .spurEnd sp]
  | .lane l => [.laneEntry l, .laneEnd l]

/-- The entry of a place in LIST_PLACES (R49): its number, its state (R36), whether it is covered (R37), its occupants or lane count,
and its incoming track numbers. -/
def PlaceRowOf (s : State) (p : Place) (row : PlaceRow) : Prop :=
  let e := s.place p
  let empty : Prop := match p with | .lane l => (tget s.lanes l).count = 0 | _ => e.occupants = []
  row.number = p.number
    ∧ (row.state = .unknown ↔ e.unknown = true)
    ∧ (row.state = .free ↔ e.unknown = false ∧ empty ∧ e.incoming = [] ∧ e.clearing = false)
    ∧ (row.covered = true ↔ ∃ i ∈ sensorsOf p, s.input i = true)
    ∧ row.occupants = e.occupants ∧ row.incoming = e.incoming
    ∧ row.laneCount = (match p with | .lane l => some (tget s.lanes l).count | _ => none)

/-- The entry of a zone in READ_ZONES (R50). -/
def zoneRowOf (s : State) (z : Zone) : ZoneRow :=
  { state := (s.zone z).state
    goodRun := (s.zone z).goodRun
    drive := (s.zone z).drive
    last := (s.zone z).last
    expected := s.setting (.zonePulses z)
    latch := (s.zone z).latch
    inFlight := (s.field.moves.filter fun m => m.zone == z && m.state == .inFlight).length
    lost := (s.field.moves.filter fun m => m.zone == z && m.state == .lost).length }

/-- The entry of a lane in READ_LANE (R172), its state as R155 derives it. -/
def LaneRowOf (s : State) (l : Lane) (row : LaneRow) : Prop :=
  let e := tget s.lanes l
  row.beacon = (tget s.field.lamps (Lamp.lane l).idx).pattern ∧ row.count = e.count
    ∧ row.releases = (s.buffer.releases.filter (·.lane == l)).length ∧ row.doorOpen = s.input (.laneDoor l) ∧ row.halt = e.halt
    ∧ row.window = tget s.buffer.windows l
    ∧ (s.plan.loads.find? (·.lane == some l) = none →
        row.status = .unbound ∧ row.load = none ∧ row.next = none ∧ row.awaitsSlot = false ∧ row.claiming = none ∧ row.held = 0)
    ∧ ∀ ld, s.plan.loads.find? (·.lane == some l) = some ld →
        row.status = (if e.halt then .halted else if s.input (.laneDoor l) = false then .doorShut
          else if e.count = 3 then .full else .ready)
        ∧ row.load = some (ld.id, ld.status)
        ∧ (∀ k, row.next = some k ↔ NextPosition ld k)
        ∧ (row.awaitsSlot = true ↔ NextPosition ld (ld.slots.length + 1))
        ∧ (∀ n st, row.claiming = some (n, st) ↔
            ∃ k sl r, NextPosition ld k ∧ ld.slotAt k = some sl ∧ sl.claimant = some n ∧ s.record? n = some r ∧ r.stage = st)
        ∧ row.held = (s.track.records.filter fun r => r.stage == .held && r.ref.map (·.load) == some ld.id).length

/-- The shuttle's condition and reported state in READ_LANE (R159, R172). -/
def ShuttleShown (s : State) (condition : ShuttleCondition) (reported : StationState) : Prop :=
  let waiting : Prop := ∃ k, s.buffer.task = some k ∧ k.leg = .delivery
    ∧ ∀ m ∈ s.field.moves, m.track = k.track → m.source ≠ .shuttle
  (condition = .idle ↔ s.buffer.task = none)
    ∧ (condition = .picking ↔ ∃ k, s.buffer.task = some k ∧ k.leg = .pickup)
    ∧ (reported = .faulted ↔ s.buffer.fault = true)
    ∧ (reported = .blocked ↔ s.buffer.fault = false ∧ waiting)
    ∧ (reported = .working ↔ s.buffer.fault = false ∧ ¬ waiting)

/-! ### What joins the report queue -/

/-- The commands that take reports from the queue: an addressed TAKE_REPORTS (R198), the full resets (R184), and the octet that
completes a frame, which may carry one of those (R191). -/
def TakesFromQueue (c : Instr) (s : State) : Prop :=
  (∃ q, c = .takeReports q ∧ Addressed q s) ∨ ResetsInFull c s ∨ EndsFrame c s

/-- The reports that changes of state raise stand among those that join the queue in a step: one LANE_CHANGE for each lane whose state
has changed (R155), one DEADLOCK when the flag is set (R168), one LOAD_COMPLETE for each load that becomes COMPLETE (R6), none of
these kinds otherwise, and a STATION_CHANGE with its new state for each station whose reported state has changed (R83), but for CHECK at
the deletion of a record that it holds (R91; log entry 53). -/
def ChangesReported (s t : State) (new : List Report) : Prop :=
  (∀ l : Lane, new.filter (fun x => x.kind == .laneChange && x.detail == l.val + 1) =
      if (tget t.lanes l).status = (tget s.lanes l).status then []
      else [⟨.laneChange, s.lineTime, none, (t.boundLoad l).map (·.id), none, l.val + 1, some (tget t.lanes l).status.number⟩])
    ∧ (s.buffer.deadlock = true ∨ t.buffer.deadlock = false → new.filter (fun x => x.kind == .deadlock) = [])
    ∧ (s.buffer.deadlock = false → t.buffer.deadlock = true →
        ∃ n r, t.buffer.exitPallet = some n ∧ t.record? n = some r
          ∧ new.filter (fun x => x.kind == .deadlock) =
            [⟨.deadlock, s.lineTime, some n, r.ref.map (·.load), r.ref.map (·.position),
              laneNumber (r.ref.bind fun ref => (t.load? ref.load).bind (·.lane)),
              some ((t.track.records.filter fun h => h.stage == .held).length : Nat)⟩])
    ∧ (∀ id, let completed (l : Load) : Prop := t.load? id = some l ∧ l.status = .complete
          ∧ ∃ k, s.load? id = some k ∧ k.status ≠ .complete
        (∀ l, completed l → new.filter (fun x => x.kind == .loadComplete && x.load == some id) =
          [⟨.loadComplete, s.lineTime, none, some id, none, laneNumber l.lane, some (l.dispatched : Nat)⟩])
        ∧ ((∀ l, ¬ completed l) → new.filter (fun x => x.kind == .loadComplete && x.load == some id) = []))
    ∧ (∀ st : Station, (st = .check → ∀ r ∈ s.track.records, CheckHolds s r → (t.record? r.number).isSome = true) →
        tget t.reported st.idx ≠ tget s.reported st.idx →
        ∃ x ∈ new, x.kind = .stationChange ∧ x.detail = st.number ∧ x.value = some (tget t.reported st.idx).number)

end Sys2Proof.Machine
end

