-- ==== Sys2Proof/WellFormed.lean ====
section
/-! DEFINITION. The commands whose fields fit the octets that carry them (R205 and the layouts of chapter 12; log entry 20 for
the layouts the spec does not give), and the expiries that name a track number (R51). -/

namespace Sys2Proof

/-- A number fits its octets. -/
def fits (octets n : Nat) : Bool := decide (n < 256 ^ octets)

/-- A signed number fits four octets (R205). -/
def fitsInt (v : Int) : Bool := decide (-2147483648 ≤ v ∧ v ≤ 2147483647)

/-- A track number, 1 to 255 (R51). -/
def trackFits (n : Nat) : Bool := decide (1 ≤ n ∧ n ≤ 255)

/-- A table's entries fit the payload that follows the table number: at most 479 octets (R206). -/
def entriesFit (size count : Nat) : Bool := decide (size * count ≤ 479)

/-- A band's fields fit their octets. -/
def Band.fits (b : Band) : Bool := Sys2Proof.fits 4 b.edge && Sys2Proof.fits 4 b.fixed && Sys2Proof.fits 1 b.perMille

/-- A base's fields fit their octets. -/
def Base.fits (b : Base) : Bool := Sys2Proof.fits 4 b.tare && Sys2Proof.fits 2 b.length && Sys2Proof.fits 2 b.width

/-- A recipe's fields fit their octets. -/
def Recipe.fits (r : Recipe) : Bool :=
  Sys2Proof.fits 1 r.bottom && Sys2Proof.fits 1 r.top && Sys2Proof.fits 1 r.overlap && Sys2Proof.fits 2 r.prestretch
    && Sys2Proof.fits 1 r.tension

/-- A window's fields fit their octets. -/
def Window.fits (w : Window) : Bool := Sys2Proof.fits 1 w.base && Sys2Proof.fits 1 w.size

/-- The fields of a slot fit the payload of SLOT_ADD, 480 octets at most (section 12.7, R206); more lines or texts, and longer
texts, than R20 allows fit it too. -/
def slotFits (id pos : Nat) (tag : Text) (base recipe : Nat) (lines : List ArticleLine) (texts : List Text) : Bool :=
  fits 2 id && fits 1 pos && tag.length == 16 && fits 1 base && fits 1 recipe && decide (lines.length < 256)
    && (lines.all fun l => fits 2 l.article && fits 2 l.count) && decide (texts.length < 256)
    && (texts.all fun t => decide (t.length < 256))
    && decide (23 + 4 * lines.length + (texts.map fun t => t.length + 1).sum ≤ 480)

/-- The fields of a whole request fit their octets. -/
def fieldsFit : Instr → Bool
  | .setIdentity _ chars => chars.length == 16
  | .setSetting _ number value => fits 1 number && fitsInt value
  | .getSetting _ number => fits 1 number
  | .setTableBands _ t => entriesFit 9 t.length && t.all Band.fits
  | .setTableBases _ t => entriesFit 8 t.length && t.all Base.fits
  | .setTableRecipes _ t => entriesFit 7 t.length && t.all Recipe.fits
  | .setTableWindows _ t => entriesFit 2 t.length && t.all Window.fits
  | .setTableReportMask _ t => entriesFit 1 t.length && t.all (fits 1)
  | .getTable _ number => fits 1 number
  | .readCounters _ clear => fits 1 clear
  | .articlePut _ code mass name => fits 2 code && fits 4 mass && decide (name.length < 256) && decide (7 + name.length ≤ 480)
  | .articleDrop _ code => fits 2 code
  | .articleGet _ code _ => fits 2 code
  | .loadCreate _ id planned height date => fits 2 id && fits 1 planned && fits 2 height && date.length == 10
  | .slotAdd _ id pos tag base recipe lines texts => slotFits id pos tag base recipe lines texts
  | .slotSkip _ id pos => fits 2 id && fits 1 pos
  | .loadBind _ id lane => fits 2 id && fits 1 lane
  | .loadUnbind _ id => fits 2 id
  | .loadClose _ id => fits 2 id
  | .readLoad _ id pos form => fits 2 id && fits 1 pos && fits 1 form
  | .placeClear _ place => fits 1 place
  | .infeedSet _ infeed state => fits 1 infeed && fits 1 state
  | .readPallet _ track => fits 1 track
  | .listPallets _ start selector => fits 1 start && fits 1 selector
  | .palletRemove _ track => fits 1 track
  | .stationResume _ station => fits 1 station
  | .forceRelease _ track => fits 1 track
  | .laneHalt _ lane => fits 1 lane
  | .laneResume _ lane => fits 1 lane
  | .readLane _ lane => fits 1 lane
  | _ => true

/-- How a request reached the part; none for a command that is no request with fields. -/
def Instr.req? : Instr → Option Req
  | .setIdentity q _ => some q
  | .setSetting q _ _ => some q
  | .getSetting q _ => some q
  | .setTableBands q _ => some q
  | .setTableBases q _ => some q
  | .setTableRecipes q _ => some q
  | .setTableWindows q _ => some q
  | .setTableReportMask q _ => some q
  | .getTable q _ => some q
  | .readCounters q _ => some q
  | .articlePut q _ _ _ => some q
  | .articleDrop q _ => some q
  | .articleGet q _ _ => some q
  | .loadCreate q _ _ _ _ => some q
  | .slotAdd q _ _ _ _ _ _ _ => some q
  | .slotSkip q _ _ => some q
  | .loadBind q _ _ => some q
  | .loadUnbind q _ => some q
  | .loadClose q _ => some q
  | .readLoad q _ _ _ => some q
  | .placeClear q _ => some q
  | .infeedSet q _ _ => some q
  | .readPallet q _ => some q
  | .listPallets q _ _ => some q
  | .palletRemove q _ => some q
  | .stationResume q _ => some q
  | .forceRelease q _ => some q
  | .laneHalt q _ => some q
  | .laneResume q _ => some q
  | .readLane q _ => some q
  | _ => none

/-- A well-formed command: a request that is not whole has no fields to read (R205); a whole one has fields that fit; an
expiry names a track number; a kind that names no request is one octet. -/
def Instr.wellFormed (c : Instr) : Bool :=
  match c with
  | .travelLimitExpiry track => trackFits track
  | .deferralDeadlineExpiry track => trackFits track
  | .moveStart track => trackFits track
  | .unknownKind _ kind => fits 1 kind
  | _ =>
    match c.req? with
    | some q => !q.whole || fieldsFit c
    | none => true

end Sys2Proof
end

