-- ==== Sys2Proof/Certificates/Slice0/Obligations.lean ====
section
/-! DEFINITION. The statements about the model, taken from the spec's numbered rules. Each is proved elsewhere. -/

open Sys2Proof Sys2Proof.Machine

/-- For an addressed ARTICLE_PUT with its fields in range, into a table in ascending order of code that holds the code or
has room: exec answers a next state in which the code finds the record put, every other code finds what it found before,
the table is again in ascending order, the reply is OK with REPLACED or ADDED and the number of records then held, and
nothing else changes but the derived parts. For an addressed ARTICLE_DROP exec answers a next state. With the code held,
no record has the code, every other code finds what it found before, the records left keep their order, and the reply is
OK with the number of records then held; with the code not held the reply is UNKNOWN_ARTICLE and nothing else changes.
Stored slots, and everything but the table and the derived parts, stay as they were. An ARTICLE_PUT with a field out of
range, each of a size its octets carry, is refused with BAD_ARGUMENT, and else one of a new code into a table of 256
records with FULL; nothing else changes. A SLOT_ADD that passes the checks before that of its articles, and names a code
not held, is refused with UNKNOWN_ARTICLE, and a code not held stays so at every command but an ARTICLE_PUT of it and the
octet that completes a frame, which may be one. -/
def Obligations.ArticlesArePutAndDropped : Prop :=
  (∀ (q : Req) (code mass : Nat) (name : Text) (s : State), Addressed q s → 1 ≤ code → code ≤ 65535 → 1 ≤ mass → mass ≤ 80000 →
      name.length ≤ 24 → (∀ c ∈ name, 32 ≤ c.toNat ∧ c.toNat ≤ 126) →
      ((s.article? code).isSome = true ∨ s.plan.articles.length < 256) → s.plan.articles.Pairwise (fun a b => a.code < b.code) →
      ∃ t, exec (.articlePut q code mass name) s = .next t
        ∧ t.article? code = some ⟨code, mass, name⟩
        ∧ (∀ c, c ≠ code → t.article? c = s.article? c)
        ∧ t.plan.articles.length = (if (s.article? code).isSome then s.plan.articles.length else s.plan.articles.length + 1)
        ∧ t.plan.articles.Pairwise (fun a b => a.code < b.code)
        ∧ Replied s t 0x10 .ok (.articlePut (s.article? code).isSome t.plan.articles.length)
        ∧ RequestKeeps [.articles] s t)
  ∧ (∀ (q : Req) (code : Nat) (s : State), Addressed q s →
      ((s.article? code).isSome = true →
        ∃ t, exec (.articleDrop q code) s = .next t
          ∧ t.article? code = none
          ∧ (∀ c, c ≠ code → t.article? c = s.article? c)
          ∧ Replied s t 0x11 .ok (.articleDrop t.plan.articles.length)
          ∧ t.plan.articles.Sublist s.plan.articles
          ∧ RequestKeeps [.articles] s t)
      ∧ (s.article? code = none → exec (.articleDrop q code) s = .next (s.answers 0x11 .unknownArticle .nothing)))
  ∧ (∀ (q : Req) (code mass : Nat) (name : Text) (s : State), Addressed q s →
      let ranged : Prop := 1 ≤ code ∧ code ≤ 65535 ∧ 1 ≤ mass ∧ mass ≤ 80000 ∧ name.length ≤ 24
        ∧ ∀ c ∈ name, 32 ≤ c.toNat ∧ c.toNat ≤ 126
      (¬ ranged → code ≤ 65535 → mass < 2 ^ 32 → name.length ≤ 255 →
          exec (.articlePut q code mass name) s = .next (s.answers 0x10 .badArgument .nothing))
      ∧ (ranged → s.article? code = none → 256 ≤ s.plan.articles.length →
          exec (.articlePut q code mass name) s = .next (s.answers 0x10 .full .nothing)))
  ∧ (∀ (q : Req) (code id pos : Nat) (tag : Text) (base recipe : Nat) (lines : List ArticleLine) (texts : List Text) (s : State)
      (l : Load), Addressed q s → s.article? code = none → s.load? id = some l → SlotInRange pos tag base recipe lines texts →
      l.slots.length < l.planned → pos = l.slots.length + 1 → s.tagIndex tag = none → (∃ x ∈ lines, x.article = code) →
      ∃ k, exec (.slotAdd q id pos tag base recipe lines texts) s = .next (s.answers 0x14 .unknownArticle (.value k)))
  ∧ (∀ (c : Instr) (code : Nat) (s t : State), s.article? code = none → exec c s = .next t →
      t.article? code = none ∨ (∃ q mass name, c = .articlePut q code mass name) ∨ EndsFrame c s)

/-- For an addressed LOAD_CREATE with its fields in range, a free load id and fewer than 12 loads: exec answers a next
state in which the load stands last in the Plan Store, STORED, unbound and without slots, its height limit brought into
1,000 to 2,700 mm; the reply is OK, or OK_CLAMPED with the limit applied when it was clamped; nothing else changes but the
derived parts. Addressed, each answers a next state. LOAD_BIND of a STORED load to a lane with no bound load makes it
BOUND to that lane. LOAD_UNBIND of a bound load with no release to its lane in flight clears the lane, a BOUND load
returning to STORED, and takes its pallets from the forced list. LOAD_CLOSE of a load with no slot CLAIMED or FINISHED
deletes it so unbound, its reply carrying its slots dispatched and skipped. No other load changes, and nothing but loads,
the forced list and the derived parts. The rest is refused in the order of each entry: UNKNOWN_LOAD, BAD_ARGUMENT for the
lane, IN_USE, NOT_BOUND, BUSY. A LOAD_CREATE is refused in this order, nothing else changed: BAD_ARGUMENT for an id, a
planned count or a date out of range, IN_USE for an id in use, FULL with 12 loads stored. -/
def Obligations.LoadsAreCreatedBoundAndClosed : Prop :=
  (∀ (q : Req) (id planned height : Nat) (date : Text) (s : State), Addressed q s → 1 ≤ id → id ≤ 65535 → 1 ≤ planned →
      planned ≤ 36 → date.length = 10 → (∀ c ∈ date, 32 ≤ c.toNat ∧ c.toNat ≤ 126) → s.load? id = none →
      s.plan.loads.length < 12 →
      ∃ t limit, exec (.loadCreate q id planned height date) s = .next t
        ∧ limit = (if height < 1000 then 1000 else if 2700 < height then 2700 else height)
        ∧ t.plan.loads = s.plan.loads ++ [⟨id, planned, limit, date, .stored, none, []⟩]
        ∧ (if limit = height then Replied s t 0x13 .ok .nothing else Replied s t 0x13 .okClamped (.value limit))
        ∧ RequestKeeps [.loads] s t)
  ∧ (∀ (q : Req) (id : Nat) (s : State), Addressed q s →
      (s.load? id = none → (∀ n, exec (.loadBind q id n) s = .next (s.answers 0x16 .unknownLoad .nothing))
        ∧ exec (.loadUnbind q id) s = .next (s.answers 0x17 .unknownLoad .nothing)
        ∧ exec (.loadClose q id) s = .next (s.answers 0x18 .unknownLoad .nothing))
      ∧ ∀ l, s.load? id = some l →
      (∀ n, (n = 0 ∨ 6 < n → exec (.loadBind q id n) s = .next (s.answers 0x16 .badArgument .nothing))
        ∧ ∀ ln, laneOf n = some ln → l.status ≠ .stored ∨ (s.boundLoad ln).isSome = true →
            exec (.loadBind q id n) s = .next (s.answers 0x16 .inUse .nothing))
      ∧ (l.lane = none → exec (.loadUnbind q id) s = .next (s.answers 0x17 .notBound .nothing))
      ∧ (∀ ln, l.lane = some ln → (∃ r ∈ s.buffer.releases, r.lane = ln) ∨ (∃ k, s.buffer.task = some k ∧ s.ofLoad k.track id = true) →
          exec (.loadUnbind q id) s = .next (s.answers 0x17 .busy .nothing))
      ∧ ((∃ sl ∈ l.slots, sl.state = .claimed ∨ sl.state = .finished) →
          exec (.loadClose q id) s = .next (s.answers 0x18 .inUse .nothing))
      ∧ (∀ n ln, laneOf n = some ln → l.status = .stored → s.boundLoad ln = none →
        ∃ t, exec (.loadBind q id n) s = .next t
          ∧ t.load? id = some { l with status := .bound, lane := some ln }
          ∧ (∀ c, c ≠ id → t.load? c = s.load? c) ∧ Replied s t 0x16 .ok .nothing ∧ RequestKeeps [.loads] s t)
      ∧ (∀ ln, l.lane = some ln → (∀ r ∈ s.buffer.releases, r.lane ≠ ln) →
          (∀ k, s.buffer.task = some k → s.ofLoad k.track id = false) →
        ∃ t, exec (.loadUnbind q id) s = .next t
          ∧ t.load? id = some { l with status := if l.status = .bound then .stored else l.status, lane := none }
          ∧ (∀ c, c ≠ id → t.load? c = s.load? c) ∧ Replied s t 0x17 .ok .nothing
          ∧ t.buffer = { s.buffer with forced := s.buffer.forced.filter (fun n => !s.ofLoad n id), deadlock := t.buffer.deadlock }
          ∧ RequestKeeps [.loads, .buffer] s t)
      ∧ ((∀ sl ∈ l.slots, sl.state ≠ .claimed ∧ sl.state ≠ .finished) →
        ∃ t, exec (.loadClose q id) s = .next t
          ∧ t.load? id = none
          ∧ (∀ c, c ≠ id → t.load? c = s.load? c)
          ∧ Replied s t 0x18 .ok (.loadClosed l.dispatched l.skipped)
          ∧ t.buffer = { s.buffer with
              forced := if l.lane.isSome then s.buffer.forced.filter (fun n => !s.ofLoad n id) else s.buffer.forced
              deadlock := t.buffer.deadlock }
          ∧ RequestKeeps [.loads, .buffer] s t))
  ∧ (∀ (q : Req) (id planned height : Nat) (date : Text) (s : State), Addressed q s →
      let ranged : Prop := 1 ≤ id ∧ id ≤ 65535 ∧ 1 ≤ planned ∧ planned ≤ 36 ∧ date.length = 10 ∧ ∀ c ∈ date, 32 ≤ c.toNat ∧ c.toNat ≤ 126
      let refused (code : Result) : Prop := exec (.loadCreate q id planned height date) s = .next (s.answers 0x13 code .nothing)
      (¬ ranged → refused .badArgument)
      ∧ (ranged → (s.load? id).isSome = true → refused .inUse)
      ∧ (ranged → s.load? id = none → 12 ≤ s.plan.loads.length → refused .full))

/-- For an addressed SLOT_ADD that passes every check of R20: exec answers a next state in which the slot stands at its
position with N the sum of counts times unit masses and E that sum plus the tare, EXPECTED, or CLAIMED by the oldest
DEFERRED record carrying its tag when there is one; every other load is as it was; without such a record no record
changes. With the Track Table as its invariant has it (NoTwoRecordsShareATrackNumber), that claimant has the load
reference, each later DEFERRED record with the tag is DUPLICATE, and each of these whose entry read is over has its
deferral ended and is READY when its head mark is set and ENTERING otherwise; every other record is as it was; with the
queue open the MATCH reports that join it are one for each of them in creation order, with occasion 3 and detail code 1
for the claimant and 2 for the others; the reply carries E, N and the state. For an addressed SLOT_SKIP of a slot of a
stored load exec answers a next state. An EXPECTED slot becomes SKIPPED, nothing else of its load changes but its status,
no other load changes, and the load becomes COMPLETE exactly when it was or when it now holds its planned count of slots,
every one DISPATCHED or SKIPPED; a load that so becomes COMPLETE has LOAD_COMPLETE queued, with its id, its lane or 0 and
its slots DISPATCHED, when the queue is open; the reply is OK. A slot in any other state is refused with IN_USE, a load id
no load has with UNKNOWN_LOAD and a position 0 or beyond the slots held with BAD_ARGUMENT, and nothing else changes. An
addressed SLOT_ADD that fails a check of R20 is refused by the first that it fails, in the order of its table, nothing
else changed: UNKNOWN_LOAD, BAD_ARGUMENT for a field, a count or a text out of range, FULL, BAD_ARGUMENT for the position,
DUPLICATE_TAG, UNKNOWN_ARTICLE with the number of the first such line, MASS_RANGE with E. -/
def Obligations.SlotsAreAddedAndSkipped : Prop :=
  (∀ (q : Req) (id pos : Nat) (tag : Text) (base recipe : Nat) (lines : List ArticleLine) (texts : List Text) (s : State) (l : Load),
      Addressed q s → s.load? id = some l → slotFieldsInRange pos tag base recipe lines texts = true →
      l.slots.length < l.planned → pos = l.slots.length + 1 → s.tagIndex tag = none →
      (∀ x ∈ lines, (s.article? x.article).isSome = true) → s.tare base + s.linesMass lines ≤ 2000000 →
      ∃ t claimant slot, exec (.slotAdd q id pos tag base recipe lines texts) s = .next t
        ∧ claimant = (s.deferredWith tag).head?.map (·.number)
        ∧ slot = ⟨tag, base, recipe, lines, texts, s.tare base + s.linesMass lines, s.linesMass lines,
            if claimant.isSome then .claimed else .expected, claimant, 0⟩
        ∧ t.load? id = some { l with slots := l.slots ++ [slot] }
        ∧ (∀ c, c ≠ id → t.load? c = s.load? c)
        ∧ (claimant = none → t.track.records = s.track.records)
        ∧ (RecordsInv s →
          (∀ r ∈ s.track.records, r.stage ≠ .deferred ∨ r.tag ≠ some tag → t.record? r.number = some r)
          ∧ (∀ r ∈ s.track.records, r.stage = .deferred → r.tag = some tag → EntryReadOver s r →
              t.record? r.number = some (r.offered (claimant == some r.number) ⟨id, pos⟩))
          ∧ (QueueOpen s → ∃ new, t.link.reports = s.link.reports ++ new
              ∧ new.filter (·.kind == .matched) =
                (s.deferredWith tag).map fun r => offerReport s r (claimant == some r.number) ⟨id, pos⟩))
        ∧ Replied s t 0x14 .ok (.slotAdded slot.gross slot.net slot.state)
        ∧ RequestKeeps [.loads, .records] s t)
  ∧ (∀ (q : Req) (id pos : Nat) (s : State) (l : Load) (sl : Slot), Addressed q s → s.load? id = some l → l.slotAt pos = some sl →
      (sl.state = .expected →
        ∃ t l', exec (.slotSkip q id pos) s = .next t
          ∧ t.load? id = some l'
          ∧ l' = { l with slots := l.slots.set (pos - 1) { sl with state := .skipped }, status := l'.status }
          ∧ l'.status = (if l'.slots.length = l.planned ∧ (∀ x ∈ l'.slots, x.state = .dispatched ∨ x.state = .skipped)
              then .complete else l.status)
          ∧ (∀ c, c ≠ id → t.load? c = s.load? c)
          ∧ (QueueOpen s → l.status ≠ .complete → l'.status = .complete → Reported t .loadComplete fun x =>
              x.load = some id ∧ x.detail = laneNumber l.lane ∧ x.value = some ((l'.slots.filter (·.state == .dispatched)).length : Int))
          ∧ Replied s t 0x15 .ok .nothing
          ∧ RequestKeeps [.loads] s t)
      ∧ (sl.state ≠ .expected → exec (.slotSkip q id pos) s = .next (s.answers 0x15 .inUse .nothing)))
  ∧ (∀ (q : Req) (id pos : Nat) (s : State), Addressed q s →
      (s.load? id = none → exec (.slotSkip q id pos) s = .next (s.answers 0x15 .unknownLoad .nothing))
      ∧ (∀ l, s.load? id = some l → pos = 0 ∨ l.slots.length < pos →
          exec (.slotSkip q id pos) s = .next (s.answers 0x15 .badArgument .nothing)))
  ∧ (∀ (q : Req) (id pos : Nat) (tag : Text) (base recipe : Nat) (lines : List ArticleLine) (texts : List Text) (s : State), Addressed q s →
      let refused (code : Result) (body : ReplyBody) : Prop :=
        exec (.slotAdd q id pos tag base recipe lines texts) s = .next (s.answers 0x14 code body)
      (s.load? id = none → refused .unknownLoad .nothing)
      ∧ (∀ l, s.load? id = some l →
        (¬ SlotInRange pos tag base recipe lines texts → refused .badArgument .nothing)
        ∧ (SlotInRange pos tag base recipe lines texts →
          (l.planned ≤ l.slots.length → refused .full .nothing)
          ∧ (l.slots.length < l.planned → pos ≠ l.slots.length + 1 → refused .badArgument .nothing)
          ∧ (l.slots.length < l.planned → pos = l.slots.length + 1 →
            ((s.tagIndex tag).isSome = true → refused .duplicateTag .nothing)
            ∧ (s.tagIndex tag = none →
              (∀ before x after, lines = before ++ x :: after → (∀ y ∈ before, (s.article? y.article).isSome = true) →
                s.article? x.article = none → refused .unknownArticle (.value ((before.length + 1 : Nat) : Int)))
              ∧ ((∀ x ∈ lines, (s.article? x.article).isSome = true) → 2000000 < s.tare base + s.linesMass lines →
                refused .massRange (.value ((s.tare base + s.linesMass lines : Nat) : Int))))))))

/-- INPUT_CHANGE to the level the raw input has changes nothing. A change back to the filtered level abandons the timing; a
change away from it starts the timing with the filter time in force; in both cases nothing else changes. With a filter time of
0 the change does at once what the expiry of the filter does. INPUT_FILTER_EXPIRY of an input whose filter time has run
answers a next state in which the filtered level of that input is its raw level, its timing has ended, every other filtered
level and timing and every raw level is as it was, and no setting, table, article, line time or link state changes. For a lane
door nothing else changes but the derived parts. With the filter not run out nothing changes. The filtered change of OP1, OP2
or KEY starts a purge hold of 400 cs where it leaves every input of the combination in force active, with no hold in progress
and the combination not spent; it leaves hold and mark where one is in progress or the combination is spent, and where an
input of the combination is inactive, or the combination is NONE, it abandons the hold and clears the mark. Nothing else
changes then but the derived parts. -/
def Obligations.InputsAreFiltered : Prop :=
  (∀ (i : Input) (b : Bool) (s r : State),
      r = s.modField (fun u => { u with raw := tset u.raw i.idx b }) →
      (s.rawLevel i = b → exec (.inputChange i b) s = .next s)
      ∧ (s.rawLevel i ≠ b → s.input i = b →
          exec (.inputChange i b) s = .next (r.modField fun u => { u with timing := tset u.timing i.idx none }))
      ∧ (s.rawLevel i ≠ b → s.input i ≠ b → ∀ n, s.setting .inputFilter = n + 1 →
          exec (.inputChange i b) s = .next (r.modField fun u => { u with timing := tset u.timing i.idx (some (n + 1)) }))
      ∧ (s.rawLevel i ≠ b → s.input i ≠ b → s.setting .inputFilter = 0 →
          exec (.inputChange i b) s
            = exec (.inputFilterExpiry i) (r.modField fun u => { u with timing := tset u.timing i.idx (some 0) })))
  ∧ (∀ (i : Input) (s : State),
      (tget s.field.timing i.idx = some 0 →
        ∃ t, exec (.inputFilterExpiry i) s = .next t
          ∧ t.input i = s.rawLevel i ∧ tget t.field.timing i.idx = none
          ∧ (∀ j, j ≠ i → t.input j = s.input j ∧ tget t.field.timing j.idx = tget s.field.timing j.idx)
          ∧ t.field.raw = s.field.raw ∧ t.settings = s.settings ∧ t.plan.articles = s.plan.articles
          ∧ t.plan.bases = s.plan.bases ∧ t.plan.recipes = s.plan.recipes ∧ t.plan.bands = s.plan.bands
          ∧ t.buffer.windows = s.buffer.windows ∧ t.lineTime = s.lineTime ∧ t.link.identity = s.link.identity
          ∧ t.link.receiver = s.link.receiver ∧ t.link.answering = s.link.answering ∧ t.mode = s.mode
          ∧ ((∃ l, i = .laneDoor l) → KeepsAllBut (.filtered :: .timing :: derived) s t))
      ∧ (tget s.field.timing i.idx ≠ some 0 → exec (.inputFilterExpiry i) s = .next s))
  ∧ (∀ (i : Input) (s : State), tget s.field.timing i.idx = some 0 → i = .op1 ∨ i = .op2 ∨ i = .key →
      ∃ t, exec (.inputFilterExpiry i) s = .next t
        ∧ (PurgeCombined t → s.field.purgeHold = none → s.field.purgeSpent = false →
            t.field.purgeHold = some 400 ∧ t.field.purgeSpent = false)
        ∧ (PurgeCombined t → s.field.purgeHold.isSome = true ∨ s.field.purgeSpent = true →
            t.field.purgeHold = s.field.purgeHold ∧ t.field.purgeSpent = s.field.purgeSpent)
        ∧ (s.setting .purgeCombination ≤ 2 → ¬ PurgeCombined t → t.field.purgeHold = none ∧ t.field.purgeSpent = false)
        ∧ KeepsAllBut ([.filtered, .timing, .purgeHold] ++ derived) s t)

/-- The entry sensor of an enabled infeed becomes covered in RUN, the infeed place not UNKNOWN and holding fewer than 3
pallets, the Track Table fewer than 32 records with numbers from 1 to 255: a next state follows in which one ENTERING
record has been added, with that infeed and the line time, under the counter's number when no record holds it and
otherwise the next upward that none holds, 255 being followed by 1, the counter then at the number after it; it stands
last among the infeed's occupants; the entry-taken mark is set; ARRIVAL is queued, when the queue is open, with the track
number, the infeed as detail code and the pallets then on the infeed as value; a read of it is outstanding or waiting at
the infeed's scanner: READ is sent at once by an idle scanner, its limit ACK_LIMIT, and the read waits last where one is
outstanding or, as log entry 10 reads it, the answer to an ended read may still come; no other scanner changes. Records
and places otherwise stay as they were. In RUN or DRAIN a covering that is refused creates no record, leaves the mark, and
with the queue open INFEED_REFUSED is queued with the infeed and the first case of R56 that applies. In another mode it
gives no arrival; in STOPPED it starts the wake hold at WAKE_HOLD with AUTO_WAKE on and the infeed enabled. An entry
sensor that becomes clear clears the mark and abandons the wake hold. -/
def Obligations.AnArrivalCreatesOneRecord : Prop :=
  ∀ (i : Infeed) (s : State), tget s.field.timing (Input.entry i).idx = some 0 →
    (s.rawLevel (.entry i) = true → s.mode.mode = .run →
      tget s.track.enabled i.idx = true → (s.place (.infeed i)).unknown = false → (s.place (.infeed i)).occupants.length < 3 →
      s.track.records.length < 32 → 1 ≤ s.track.nextNumber → s.track.nextNumber ≤ 255 →
      ∃ t n, exec (.inputFilterExpiry (.entry i)) s = .next t
        ∧ NextFree s n ∧ 1 ≤ n ∧ n ≤ 255 ∧ t.track.nextNumber = (if n = 255 then 1 else n + 1)
        ∧ t.track.records = s.track.records ++ [newRecord n i s.lineTime]
        ∧ t.place (.infeed i) = { s.place (.infeed i) with occupants := (s.place (.infeed i)).occupants ++ [n] }
        ∧ (∀ p, p ≠ .infeed i → t.place p = s.place p)
        ∧ tget t.field.entryTaken i.idx = true ∧ ArrivalReported s t i n
        ∧ (((t.scanner (.entry i)).outstanding.map (·.1)) = some ⟨n, .entry⟩ ∨ ⟨n, .entry⟩ ∈ (t.scanner (.entry i)).waiting)
        ∧ EntryReadAsked s t i n ∧ (∀ sc, sc ≠ .entry i → t.scanner sc = s.scanner sc)
        ∧ (s.scanner (.entry i) = ⟨none, [], none⟩ → t.sent = s.sent ++ [.read (.entry i) none])
        ∧ ((s.scanner (.entry i)).outstanding.isSome = true ∨ (s.scanner (.entry i)).ended.isSome = true → t.sent = s.sent)
        ∧ KeepsAllBut ([.filtered, .timing, .records, .nextNumber, .entryTaken, .places, .scanners, .sent] ++ derived) s t)
    ∧ (s.rawLevel (.entry i) = true → s.mode.mode = .run ∨ s.mode.mode = .drain → ∀ case, RefusedFor s i s.mode.mode case →
      ∃ t, exec (.inputFilterExpiry (.entry i)) s = .next t
        ∧ (QueueOpen s → Reported t .infeedRefused fun x => x.detail = i.number ∧ x.value = some (case : Int))
        ∧ KeepsAllBut ([.filtered, .timing] ++ derived) s t)
    ∧ (s.rawLevel (.entry i) = true → s.mode.mode ≠ .run → s.mode.mode ≠ .drain →
      ∃ t, exec (.inputFilterExpiry (.entry i)) s = .next t
        ∧ (s.mode.mode = .stopped → WakeStarts t i (tget s.field.wakeHolds i.idx) ∧ t.input (.entry i) = true)
        ∧ (s.mode.mode ≠ .stopped → t.field.wakeHolds = s.field.wakeHolds)
        ∧ (∀ j, j ≠ i → tget t.field.wakeHolds j.idx = tget s.field.wakeHolds j.idx)
        ∧ KeepsAllBut ([.filtered, .timing, .wakeHolds] ++ derived) s t)
    ∧ (s.rawLevel (.entry i) = false →
      ∃ t, exec (.inputFilterExpiry (.entry i)) s = .next t ∧ tget t.field.entryTaken i.idx = false
        ∧ tget t.field.wakeHolds i.idx = none ∧ KeepsAllBut ([.filtered, .timing, .entryTaken, .wakeHolds] ++ derived) s t)

/-- ENCODER_EDGE raises the edge count of its zone by one while the zone's drive is on and the mode is not HALTED, and is
otherwise nothing. FLASH_HALF_PERIOD of a lamp whose pattern flashes and whose half period ends in the centisecond now running
passes it to its other half, which lasts half a second more for FLASH_SLOW and an eighth for FLASH_FAST, and is otherwise
nothing. STRAP_CHANGE changes the straps and not the station address. REPLY_SENT clears answering. ESTOP_CLEAR makes ESTOP
inactive and leaves the line mode. Nothing else changes. How a half period is kept is log entry 27. -/
def Obligations.TheSmallEventsChangeOneThing : Prop :=
  ∀ (z : Zone) (l : Lamp) (p : BitVec 3) (s : State),
    (∃ t, exec (.encoderEdge z) s = .next t
      ∧ (t.zone z).edges = (s.zone z).edges + (if (s.zone z).drive ∧ s.mode.mode ≠ .halted then 1 else 0)
      ∧ t = s.modZone z (fun e => { e with edges := (t.zone z).edges }))
    ∧ (∀ b p k, tget s.field.lamps l.idx = ⟨b, p, k⟩ →
        (∀ half, (b = .flashSlow ∧ half = 100) ∨ (b = .flashFast ∧ half = 25) → k ≤ 1 →
          exec (.flashHalfPeriod l) s = .next (s.modField fun u => { u with lamps := tset u.lamps l.idx ⟨b, !p, k + half⟩ }))
        ∧ (b = .off ∨ b = .steady ∨ 1 < k → exec (.flashHalfPeriod l) s = .next s))
    ∧ exec (.strapChange p) s = .next (s.modLink fun u => { u with straps := p })
    ∧ exec .replySent s = .next (s.modLink fun u => { u with answering := false })
    ∧ exec .estopClear s = .next (s.modField fun u => { u with estop := false })

/-- SPEED_WINDOW_END of a zone whose drive is on and whose window has run, outside a halt, answers a next state: the count is
kept as the last window's; the state and good run follow the table of R35 for a window that is empty, in band (100 times the
difference from the expected count no more than SPEED_BAND times it) or out of band; the latch is set when the zone enters
DEGRADED or STALLED; on NORMAL to DEGRADED the remaining time of each move in flight of the zone not yet doubled is doubled,
and no move changes otherwise; a change of state raises SPEED. No other zone changes state. -/
def Obligations.SpeedWindowsDriveTheZoneState : Prop :=
  ∀ (z : Zone) (s : State) (e : ZoneEntry), e = s.zone z → e.drive = true → e.windowLeft = 0 → s.mode.mode ≠ .halted →
    ∃ t inBand, exec (.speedWindowEnd z) s = .next t
      ∧ inBand = decide (100 * ((e.edges : Int) - s.setting (.zonePulses z)).natAbs
          ≤ s.setting .speedBand * s.setting (.zonePulses z))
      ∧ (t.zone z).last = some e.edges
      ∧ ((t.zone z).state, (t.zone z).goodRun) =
          (if e.edges = 0 then (.stalled, 0)
           else match e.state, inBand with
            | .normal, true => (.normal, e.goodRun)
            | .degraded, true => if e.goodRun = 2 then (.normal, 0) else (.degraded, e.goodRun + 1)
            | .stalled, true => (.degraded, 1)
            | _, false => (.degraded, 0))
      ∧ (t.zone z).latch = (e.latch || ((t.zone z).state ≠ e.state && (t.zone z).state ≠ .normal))
      ∧ t.field.moves = (if e.state = .normal ∧ (t.zone z).state = .degraded then
          s.field.moves.map fun m =>
            if m.zone = z ∧ m.state = .inFlight ∧ m.doubled = false then { m with left := 2 * m.left, doubled := true } else m
          else s.field.moves)
      ∧ (∀ y, y ≠ z → (t.zone y).state = (s.zone y).state ∧ (t.zone y).goodRun = (s.zone y).goodRun
          ∧ (t.zone y).latch = (s.zone y).latch ∧ (t.zone y).last = (s.zone y).last)
      ∧ (QueueOpen s → (t.zone z).state ≠ e.state →
          Reported t .speed fun x => x.detail = 256 * z.number + (t.zone z).state.number ∧ x.value = some (e.edges : Int))
      ∧ KeepsAllBut ([.zones, .moves] ++ derived) s t

/-- MOVE_START does nothing for a number that no move has, or when a condition of R40 is missing for its move. Of a
WAITING move for which every condition of R40 holds it answers a next state: the move is IN_FLIGHT with TRAVEL_LIMIT as
its remaining time, doubled with its mark set when its zone is DEGRADED; no other move changes; the drive of its zone is
on; a move out of CHECK sets the diverter, to REJECT for the check reject spur and to STAGING otherwise; the record of a
move to CHECK becomes CHECKING with its head mark cleared, of one to a wrapper WRAPPING, its staging entry cleared and
WRAP_DONE queued with detail 5 and the wrapper, of one to LABEL LABELLING, its pallet then the label unit's with the
condition INCOMING and off the label order list, LABEL_DONE queued with detail 2 and the wrapper, each report with the
track number and the load reference when the queue is open; nothing else of the wrappers and the label unit changes but
the print limit; a pickup of a RELEASE makes the record RELEASING. Which car move goes first is the reading of log entry
28, and that the move starts when MOVE_START is run is log entry 7. Places, loads, settings, mode and the other blocks
stay as they were. That the condition is INCOMING from the start is log entry 22. -/
def Obligations.AWaitingMoveStartsUnderItsTravelLimit : Prop :=
  (∀ (n : Nat) (s : State), (∀ m, s.move? n = some m → ¬ MayStart s m) → exec (.moveStart n) s = .next s)
  ∧ ∀ (n : Nat) (s : State) (m : Move) (r : Record), s.move? n = some m → s.record? n = some r → MayStart s m →
    ∃ t limit, exec (.moveStart n) s = .next t
      ∧ limit = (if (s.zone m.zone).state = .degraded then 2 * s.setting .travelLimit else s.setting .travelLimit)
      ∧ t.move? n = some { m with state := .inFlight, left := limit, limit := limit, doubled := (s.zone m.zone).state == .degraded }
      ∧ (∀ k, k ≠ n → t.move? k = s.move? k ∧ t.record? k = s.record? k)
      ∧ (t.zone m.zone).drive = true
      ∧ t.field.diverterReject = (if m.source = .check then m.dest == .spur .check else s.field.diverterReject)
      ∧ (∀ i, m.source = .infeed i → m.dest = .check → t.record? n = some { r with headMark := false, stage := .checking })
      ∧ (∀ k w, m.source = .staging k → m.dest = .wrapper w → t.record? n = some { r with stage := .wrapping }
          ∧ t.wrap = { s.wrap with staging := tset s.wrap.staging k.idx none }
          ∧ (QueueOpen s → Reported t .wrapDone fun x => x.track = some n ∧ x.load = r.ref.map (·.load)
              ∧ x.position = r.ref.map (·.position) ∧ x.detail = 5 ∧ x.value = some (w.number : Int)))
      ∧ (∀ w, m.source = .wrapper w → m.dest = .label → t.record? n = some { r with stage := .labelling }
          ∧ (∃ failed, (failed = true ↔ ∃ e ∈ s.wrap.labelOrder, e.track = n ∧ e.failed = true)
            ∧ t.label = { s.label with pallet := some ⟨n, failed⟩, condition := .incoming, print := t.label.print })
          ∧ t.wrap = { s.wrap with labelOrder := s.wrap.labelOrder.filter (·.track != n) }
          ∧ (QueueOpen s → Reported t .labelDone fun x => x.track = some n ∧ x.load = r.ref.map (·.load)
              ∧ x.position = r.ref.map (·.position) ∧ x.detail = 2 ∧ x.value = some (w.number : Int)))
      ∧ (m.dest ≠ .label → t.label = { s.label with print := t.label.print })
      ∧ (m.dest ≠ .label → (∀ w, m.dest ≠ .wrapper w) → t.wrap = s.wrap)
      ∧ (m.dest = .shuttle → t.record? n = some { r with stage :=
          match s.buffer.task with
          | some ⟨k, .release _, _⟩ => if k = n then .releasing else r.stage
          | _ => r.stage })
      ∧ (m.dest ≠ .check → m.dest ≠ .label → m.dest ≠ .shuttle → (∀ w, m.dest ≠ .wrapper w) → t.record? n = some r)
      ∧ KeepsAllBut ([.moves, .diverter, .records, .wrap, .label] ++ derived) s t

/-- TRAVEL_LIMIT_EXPIRY of a move in flight whose limit has run out, outside a halt, answers a next state: the move is
LOST and no other move changes; the record's stage is LOST with the stage it held kept, MOVE_TIMEOUT is entered in its
fault list or counted lost, and its location and moving-to stay; the pallet has left the occupants of the place it left,
which, holding one pallet, is UNKNOWN when covered, with PLACE_UNKNOWN of value 4, and else FREE with no other pallet on
it or bound there; every other place stays, its destination's incoming list with it; the answerable station reports
FAULTED, with STATION_CHANGE when it did not before. A move out of CHECK leaves the condition INCOMING when a move to
CHECK stands in the list and EMPTY otherwise; one to a wrapper faults it with the cause MOVE; a wrapper left by its pallet
is IDLE, unless FAULTED, without pallet and order; LABEL left by its own pallet is EMPTY, and one to or out of LABEL but
by the shuttle faults it with the cause MOVE; a shuttle move sets its fault flag, its task, release and forced lists
staying, a lost delivery clears its reserved mark and a lost pickup from LABEL the label-exit pallet; a zero capture open
when CHECK becomes UNKNOWN ends FAILED. The lost-moves counter has risen by one, held at 65,535, its half mark spent with
one COUNTER_HALF at 32,768 and kept otherwise; no other counter has changed; with the queue open PALLET_LOST is queued
with the destination's number and the limit applied. Reports are queued when the queue is open. A limit that has not run
out is nothing. The limit applied is the one set at the start of the move (log entry 17); that a place that was UNKNOWN is
set anew too is log entry 15, and that the faces read PENDING once a pallet has left LABEL is log entry 47. -/
def Obligations.AnExpiredTravelLimitLosesTheMove : Prop :=
  ∀ (n : Nat) (s : State) (m : Move) (r : Record), s.move? n = some m → s.record? n = some r → m.state = .inFlight →
    s.mode.mode ≠ .halted →
    (m.left = 0 →
      ∃ t, exec (.travelLimitExpiry n) s = .next t
        ∧ t.move? n = some { m with state := .lost, left := 0 }
        ∧ t.record? n = some { r with
            stage := .lost, preLost := some r.stage
            faults := if r.faults.length < 4 then r.faults ++ [.moveTimeout] else r.faults
            faultsLost := if r.faults.length < 4 then r.faultsLost else min 255 (r.faultsLost + 1) }
        ∧ (∀ k, k ≠ n → t.move? k = s.move? k ∧ t.record? k = s.record? k)
        ∧ n ∉ (t.place m.source).occupants
        ∧ GivenUp s t m.source n (m.source.capacity = 1) 4
        ∧ (m.source.capacity = 1 → s.covered m.source = false → (∀ k ∈ (s.place m.source).occupants, k = n) →
            (s.place m.source).incoming = [] → t.placeState m.source = .free)
        ∧ (∀ k, k ≠ m.source → t.place k = s.place k)
        ∧ t.stationState m.station = .faulted
        ∧ (QueueOpen s → tget s.reported m.station.idx ≠ .faulted →
            Reported t .stationChange fun x => x.detail = m.station.number ∧ x.value = some 2)
        ∧ OwnersAfterLoss s t m
        ∧ ZeroDisturbed s t (m.source = .check ∧ s.covered .check = true)
        ∧ Counted s t .lostMoves ∧ (∀ k : Counter, k ≠ .lostMoves → tget t.link.counters k.idx = tget s.link.counters k.idx)
        ∧ (QueueOpen s → Reported t .palletLost fun x =>
            x.track = some n ∧ x.load = r.ref.map (·.load) ∧ x.detail = m.dest.number ∧ x.value = some (m.limit : Int))
        ∧ KeepsAllBut ([.moves, .records, .places, .counters, .mass, .sent, .check, .wrap, .label, .buffer] ++ derived) s t)
    ∧ (0 < m.left → exec (.travelLimitExpiry n) s = .next s)

/-- The sensor completing moves to a reject spur, staging position, wrapper, LABEL or buffer position becomes covered while a
move of a kind of R39, in flight or LOST, is the first bound there: a next state follows in which it has left the list and its
pallet stands last in its destination with no moving-to. From flight the pallet has left its place, of one pallet clearing
while still covered; CHECK left is INCOMING or EMPTY, a wrapper IDLE since now unless FAULTED, the label unit EMPTY and the
label-exit pallet absent. A LOST move gives the record the stage it held before, leaves its source, and queues LATE. A pallet
in staging is STAGED with its entry; one on an IDLE wrapper is ordered, at once in RUN or DRAIN; on LABEL it waits ARRIVED
while LABEL is FAULTED, and otherwise a passing one is in PRINT_WAIT and a WRAP_FAILED one TO_REJECT and passed on to the
finish reject spur, or BLOCKED; in a position it is HELD, its reserved marks and task gone. Other records, moves and places
stay (at LABEL, but for those of the label unit's pallet). -/
def Obligations.AMoveCompletesAtItsDestination : Prop :=
  ∀ (p : Place) (i : Input) (s : State) (m : Move) (r a : Record), p.completedBy = some i → (∀ l, p ≠ .lane l) → p ≠ .check →
    p ≠ .shuttle → Senses s i true → BoundFor s p m → moveZone m.source p = some m.zone → s.record? m.track = some r →
    a = r.arrivedAt m →
    ∃ t, exec (.inputFilterExpiry i) s = .next t ∧ StandsIn s t m ∧ SourceAfter s t m
      ∧ (∀ k, k ≠ m.track → (p = .label ∧ s.label.pallet.map (·.track) = some k) ∨ (t.move? k = s.move? k ∧ t.record? k = s.record? k))
      ∧ (∀ k, k ≠ p → k ≠ m.source → (p = .label ∧ k = .spur .finish) ∨ t.place k = s.place k)
      ∧ (m.state ≠ .lost → m.source = .check → t.check = { s.check with
          condition := if ∃ k ∈ s.field.moves, k.track ≠ m.track ∧ k.dest = .check then .incoming else .empty, current := none })
      ∧ (∀ w, m.state ≠ .lost → m.source = .wrapper w → t.wrapper w = { s.wrapper w with
          pallet := none, order := none
          status := if (s.wrapper w).status = .faulted then .faulted else .idle
          idleSince := if (s.wrapper w).status = .faulted then (s.wrapper w).idleSince else s.lineTime })
      ∧ (m.state ≠ .lost → m.source = .label →
          t.buffer.exitPallet = (if s.buffer.exitPallet = some m.track then none else s.buffer.exitPallet)
          ∧ (s.label.pallet.map (·.track) = some m.track → t.label.pallet = none ∧ t.label.condition = .empty))
      ∧ (∀ sp, p = .spur sp → t.record? m.track = some a ∧ t.move? m.track = none)
      ∧ (∀ k, p = .staging k → t.record? m.track = some { a with stage := .staged } ∧ t.move? m.track = none
          ∧ t.staging k = some ⟨m.track, s.lineTime⟩
          ∧ (QueueOpen s → Reported t .wrapDone fun x =>
              x.track = some m.track ∧ x.load = r.ref.map (·.load) ∧ x.detail = 4 ∧ x.value = some (k.number : Int)))
      ∧ (∀ w, p = .wrapper w → t.record? m.track = some a ∧ t.move? m.track = none
          ∧ ((s.wrapper w).status ≠ .idle → t.wrapper w = s.wrapper w ∧ t.sent = s.sent)
          ∧ ((s.wrapper w).status = .idle → ∀ o, (s.wrapper w).order = some o → OrderedWith s t w o []))
      ∧ (p = .label →
          (s.label.fault.isSome = true → t.record? m.track = some a ∧ t.label.condition = .arrived ∧ t.move? m.track = none)
          ∧ (s.label.fault = none → ∀ failed, s.label.pallet = some ⟨m.track, failed⟩ → LabelWorkBegun s t a failed))
      ∧ (∀ q, p = .position q → t.record? m.track = some { a with stage := .held } ∧ t.move? m.track = none
          ∧ (∀ k, tget t.buffer.reserved k = if tget s.buffer.reserved k = some m.track then none else tget s.buffer.reserved k)
          ∧ (∀ k, t.buffer.task = some k → k.track ≠ m.track)
          ∧ (QueueOpen s → Reported t .held fun x => x.track = some m.track ∧ x.load = r.ref.map (·.load) ∧ x.detail = q.val + 1
              ∧ (∀ ref ld l, LaneOf s r ref ld l → x.value = some ((l.val + 1 : Nat) : Int))))
      ∧ ((∀ w, p ≠ .wrapper w) → t.sent = s.sent)
      ∧ KeepsAllBut ([.filtered, .timing, .moves, .records, .places, .check, .wrap, .label, .buffer, .sent] ++ derived) s t

/-- A sensor of CHECK, a staging position, a wrapper, LABEL, SHUTTLE or a buffer position becomes covered, with no move in
flight or LOST that it completes: a FREE place becomes UNKNOWN, PLACE_UNKNOWN queued with the place number and value 1 when
the queue is open; otherwise nothing but the filter and the derived parts changes. The sensor becomes clear: a place no longer
covered, with a pallet and no move of it in flight out of the place, becomes UNKNOWN, value 2; a clearing one ceases to clear;
a covered or UNKNOWN one is left. CHECK becoming UNKNOWN ends an open zero capture FAILED. No record, other place or move
changes. The end sensor of a reject spur becomes clear, the spur not UNKNOWN: the record of its oldest occupant, standing
there, is deleted and leaves the list, the spur becomes UNKNOWN when that was its last pallet and it is still covered (log
entry 15), and with the queue open REMOVED is queued with the track number, the place number and value 1. No load and no other
record or place changes but where its move was bound. Of an UNKNOWN spur, or one with no occupant, nothing but the filter
changes; nor does it when an end sensor becomes covered, an entry sensor of a spur or lane clears or is covered with no move
in flight or LOST bound there, or a head sensor clears. The lane end sensor's filter runs out to clear: with the lane place
not UNKNOWN, a next state follows in which the lane's count is one less, or 0 when it was 0; with the place UNKNOWN the count
stays. No other lane's count, no halt flag, record, place, move or load changes. -/
def Obligations.SensorsActOutsideMoves : Prop :=
  (∀ (p : Place) (i : Input) (s : State), p.capacity = 1 →
      p.completedBy = some i ∨ (p = .check ∧ i = .checkExit) ∨ (p = .label ∧ i = .labelExit) →
      (∀ why : Nat, ∀ hit : Prop,
        (why = 1 ∧ Senses s i true ∧ (p.completedBy = some i → ∀ m ∈ s.field.moves, m.dest = p → m.state = .waiting)
            ∧ (hit ↔ s.placeState p = .free))
          ∨ (why = 2 ∧ Senses s i false ∧ (hit ↔ (∀ j, j ≠ i → p.completedBy = some j ∨ (p = .check ∧ j = .checkExit)
                ∨ (p = .label ∧ j = .labelExit) → s.input j = false)
              ∧ (s.place p).unknown = false ∧ (s.place p).clearing = false ∧ (s.place p).occupants ≠ []
              ∧ ∀ m ∈ s.field.moves, m.source = p → m.state ≠ .inFlight)) →
        ∃ t, exec (.inputFilterExpiry i) s = .next t ∧ (∀ k, k ≠ p → t.place k = s.place k)
          ∧ (hit → t.place p = { s.place p with unknown := true, clearing := false }
            ∧ (QueueOpen s → Reported t .placeUnknown fun x => x.detail = p.number ∧ x.value = some (why : Int))
            ∧ (∀ cap, p = .check → s.mass.capture = some cap → cap.purpose = .zero →
                t.mass = ⟨none, s.mass.offset, .failed, s.mass.valid, none, none⟩ ∧ t.sent = s.sent ++ [.hush]
                ∧ (QueueOpen s → Reported t .zeroDone fun x => x.detail = 5 ∧ x.value = none))
            ∧ ((p ≠ .check ∨ ∀ cap, s.mass.capture = some cap → cap.purpose ≠ .zero) → t.mass = s.mass ∧ t.sent = s.sent))
          ∧ (¬ hit → t.mass = s.mass ∧ t.sent = s.sent
            ∧ t.place p = (if why = 2 ∧ t.covered p = false ∧ (s.place p).unknown = false ∧ (s.place p).clearing = true
                then { s.place p with clearing := false } else s.place p))
          ∧ KeepsAllBut ([.filtered, .timing, .places, .mass, .sent] ++ derived) s t))
  ∧ (∀ (s : State),
      (∀ (sp : Spur) (n : Nat) (rest : List Nat) (r : Record), Senses s (.spurEnd sp) false → (s.place (.spur sp)).unknown = false →
        (s.place (.spur sp)).occupants = n :: rest → s.record? n = some r → r.location = .spur sp →
        ∃ t, exec (.inputFilterExpiry (.spurEnd sp)) s = .next t
          ∧ t.record? n = none ∧ (∀ k, k ≠ n → t.record? k = s.record? k) ∧ t.move? n = none
          ∧ n ∉ (t.place (.spur sp)).occupants
          ∧ (s.move? n = none →
              t.place (.spur sp) = { s.place (.spur sp) with
                occupants := rest.filter (· != n)
                unknown := (rest.filter (· != n)).isEmpty && t.covered (.spur sp)
                clearing := (s.place (.spur sp)).clearing && !(rest.filter (· != n)).isEmpty }
              ∧ ∀ k, k ≠ .spur sp → t.place k = s.place k)
          ∧ (QueueOpen s → Reported t .removed fun x =>
              x.track = some n ∧ x.detail = (Place.spur sp).number ∧ x.value = some 1)
          ∧ KeepsAllBut ([.filtered, .timing, .places, .moves, .records, .scanners, .check, .mass, .wrap, .label, .buffer, .sent]
              ++ derived) s t)
      ∧ (∀ i : Input,
          (∃ sp, i = .spurEnd sp ∧ Senses s i false ∧ ((s.place (.spur sp)).unknown = true ∨ (s.place (.spur sp)).occupants = []))
            ∨ (∃ sp, i = .spurEnd sp ∧ Senses s i true) ∨ (∃ l, i = .laneEnd l ∧ Senses s i true)
            ∨ (∃ sp, i = .spurEntry sp ∧ (Senses s i false
                ∨ (Senses s i true ∧ ∀ m ∈ s.field.moves, m.dest = .spur sp → m.state = .waiting)))
            ∨ (∃ l, i = .laneEntry l ∧ (Senses s i false
                ∨ (Senses s i true ∧ ∀ m ∈ s.field.moves, m.dest = .lane l → m.state = .waiting)))
            ∨ (∃ j, i = .head j ∧ Senses s i false) →
          ∃ t, exec (.inputFilterExpiry i) s = .next t ∧ KeepsAllBut ([.filtered, .timing] ++ derived) s t))
  ∧ (∀ (l : Lane) (s : State), tget s.field.timing (Input.laneEnd l).idx = some 0 → s.rawLevel (.laneEnd l) = false →
      ∃ t, exec (.inputFilterExpiry (.laneEnd l)) s = .next t
        ∧ (tget t.lanes l).count = (if (s.place (.lane l)).unknown then (tget s.lanes l).count else (tget s.lanes l).count - 1)
        ∧ (∀ k, k ≠ l → (tget t.lanes k).count = (tget s.lanes k).count)
        ∧ (∀ k, (tget t.lanes k).halt = (tget s.lanes k).halt)
        ∧ KeepsAllBut ([.filtered, .timing, .lanes] ++ derived) s t)

/-- For an addressed PLACE_CLEAR of a place number 1 to 34 exec answers a next state. An UNKNOWN place, not covered and
named by no record, loses its occupants and is no longer UNKNOWN or clearing, a lane's count becomes 0, and no other place
changes; its state is FREE, but that on CHECK a grant with the gate at its infeed and its record there without a move asks
its move to CHECK again; the reply carries the place's state. A covered one is refused with STILL_COVERED, else a named
one with IN_USE. A place that is not UNKNOWN is left, with its state in the reply. Place 0 or one above 34 is refused with
BAD_ARGUMENT. For an addressed READ_ZONES exec answers a next state. The reply carries, for every zone, its state, good
run, drive, last count or none, expected count, latch and numbers of moves IN_FLIGHT and LOST, as they stood before. A
NORMAL zone loses its latch; with the release flag set a STALLED zone becomes DEGRADED with good run 0, its latch set,
SPEED queued for it without a value when the queue is open; every other zone keeps its state, good run, latch and last
count. The move list stays as it was. -/
def Obligations.PlacesAreClearedAndZonesRead : Prop :=
  (∀ (q : Req) (n : Nat) (p : Place) (s : State), Addressed q s → placeOf n = some p →
      ((s.place p).unknown = false → ∃ t, exec (.placeClear q n) s = .next t ∧ Replied s t 0x20 .ok (.place (s.placeState p))
          ∧ RequestKeeps [] s t)
      ∧ ((s.place p).unknown = true → s.covered p = true → exec (.placeClear q n) s = .next (s.answers 0x20 .stillCovered .nothing))
      ∧ ((s.place p).unknown = true → s.covered p = false → s.named p = true →
          exec (.placeClear q n) s = .next (s.answers 0x20 .inUse .nothing))
      ∧ ((s.place p).unknown = true → s.covered p = false → s.named p = false →
          ∃ t, exec (.placeClear q n) s = .next t
            ∧ (t.place p).unknown = false ∧ (t.place p).clearing = false ∧ (t.place p).occupants = []
            ∧ (∀ l, p = .lane l → (tget t.lanes l).count = 0)
            ∧ (∀ l, p ≠ .lane l → (tget t.lanes l).count = (tget s.lanes l).count)
            ∧ (∀ k, k ≠ p → t.place k = s.place k)
            ∧ Replied s t 0x20 .ok (.place (t.placeState p))
            ∧ (p ≠ .check ∨ s.merge.grant = none → t.placeState p = .free ∧ (t.place p).incoming = []
                ∧ RequestKeeps [.places, .lanes] s t)
            ∧ (∀ g r, p = .check → s.merge.grant = some g → s.merge.gate = some g.infeed → s.merge.switch = none →
                s.merge.fault = false → s.record? g.track = some r → r.location = .infeed g.infeed → s.move? g.track = none →
                t.move? g.track = some ⟨g.track, .infeed g.infeed, .check, .infeed g.infeed, .waiting, 0, 0, false⟩
                ∧ t.place .check = ⟨false, false, [], [g.track]⟩)
            ∧ RequestKeeps [.places, .lanes, .moves, .records, .check, .merge] s t))
  ∧ (∀ (q : Req) (n : Nat) (s : State), Addressed q s → n = 0 ∨ 34 < n →
      exec (.placeClear q n) s = .next (s.answers 0x20 .badArgument .nothing))
  ∧ (∀ (q : Req) (release : Bool) (s : State), Addressed q s →
      ∃ t, exec (.readZones q release) s = .next t
        ∧ Replied s t 0x22 .ok (.zones ([.infeed .a, .infeed .b, .infeed .c, .centre, .buffer, .lanes].map (zoneRowOf s)))
        ∧ (∀ z, (s.zone z).state = .normal → (t.zone z).state = .normal ∧ (t.zone z).latch = false ∧ (t.zone z).goodRun = (s.zone z).goodRun)
        ∧ (∀ z, (s.zone z).state = .degraded → (t.zone z).state = .degraded ∧ (t.zone z).latch = (s.zone z).latch
            ∧ (t.zone z).goodRun = (s.zone z).goodRun)
        ∧ (∀ z, (s.zone z).state = .stalled →
            ((t.zone z).state, (t.zone z).goodRun, (t.zone z).latch)
              = (if release then (.degraded, 0, true) else (.stalled, (s.zone z).goodRun, (s.zone z).latch))
            ∧ (release = true → QueueOpen s → Reported t .speed fun x => x.detail = 256 * z.number + ZoneState.degraded.number
                ∧ x.value = none))
        ∧ (∀ z, (t.zone z).last = (s.zone z).last)
        ∧ RequestKeeps [.zones] s t)

/-- If the Track Table holds at most 32 records, no two with the same track number, every number and the counter from 1 to
255, and a step answers a next state, then that state has the same. -/
def Obligations.NoTwoRecordsShareATrackNumber : Prop :=
  ∀ s t : State, RecordsInv s → step s = .next t → RecordsInv t

/-- TAG with 16 digits, not all zeros, for the entry read outstanding at an infeed's scanner, of a record, answers a next
state in which the record has the tag, and: with the tag in the index and its slot EXPECTED it has the load reference and
the slot is CLAIMED by it; with the slot in another state it is DUPLICATE and no load changes; with the tag not in the
index it is DEFERRED until DEFER_LIMIT from now when that is above 0, and UNPLANNED when it is 0. No other record changes,
and MATCH or DEFER is queued when the queue is open. The read is no longer outstanding. A record not DEFERRED by it is
READY when it was ENTERING at the head, with no other entry read of it open, and keeps its stage otherwise. The Plan
Store's answer to the match is CLAIMED with the load reference, TAKEN with it and the slot's state, nothing changed, or
NOT_FOUND, nothing changed. -/
def Obligations.AnEntryTagIsMatched : Prop :=
  ∀ (i : Infeed) (d : Text) (s : State) (n left : Nat) (r : Record),
    (s.scanner (.entry i)).outstanding = some (⟨n, .entry⟩, left) → s.record? n = some r →
    d.length = 16 → (∀ c ∈ d, 48 ≤ c.toNat ∧ c.toNat ≤ 57) → (∃ c ∈ d, c ≠ 48#8) →
    ∃ t, exec (.tag (.entry i) d) s = .next t
      ∧ (∀ k, k ≠ n → t.record? k = s.record? k)
      ∧ (t.scanner (.entry i)).outstanding.map (·.1) = (s.scanner (.entry i)).waiting.head?
      ∧ (s.tagIndex d = none → s.claim d n = (s, .notFound))
      ∧ (∀ ref sl, s.tagIndex d = some ref → s.slot? ref = some sl →
          (sl.state = .expected → (s.claim d n).2 = .claimed ref) ∧ (sl.state ≠ .expected → s.claim d n = (s, .taken ref sl.state)))
      ∧ (∀ ref sl, s.tagIndex d = some ref → s.slot? ref = some sl → sl.state = .expected →
          t.record? n = some { r with tag := some d, ref := some ref, stage := StageAfterRead s i r }
            ∧ t.slot? ref = some { sl with state := .claimed, claimant := some n }
            ∧ (QueueOpen s → Reported t .matched fun x => x.track = some n ∧ x.load = some ref.load ∧ x.detail = 1 ∧ x.value = some 1))
      ∧ (∀ ref sl, s.tagIndex d = some ref → s.slot? ref = some sl → sl.state ≠ .expected →
          t.record? n = some { r with tag := some d, mark := some .duplicate, stage := StageAfterRead s i r } ∧ t.plan.loads = s.plan.loads
            ∧ (QueueOpen s → Reported t .matched fun x => x.track = some n ∧ x.detail = 2 ∧ x.value = some 1))
      ∧ (s.tagIndex d = none → 0 < s.setting .deferLimit →
          t.record? n = some { r with
            tag := some d, stage := .deferred
            deferral := some ⟨s.lineTime + BitVec.ofNat 32 (s.setting .deferLimit), s.setting .deferLimit⟩ }
            ∧ t.plan.loads = s.plan.loads
            ∧ (QueueOpen s → Reported t .defer fun x => x.track = some n ∧ x.detail = r.infeed.number))
      ∧ (s.tagIndex d = none → s.setting .deferLimit = 0 →
          t.record? n = some { r with tag := some d, mark := some .unplanned, stage := StageAfterRead s i r } ∧ t.plan.loads = s.plan.loads
            ∧ (QueueOpen s → Reported t .matched fun x => x.track = some n ∧ x.detail = 3 ∧ x.value = some 1))
      ∧ KeepsAllBut ([.records, .loads, .scanners, .sent] ++ derived) s t

/-- For the entry read outstanding at an infeed's scanner, of a record of that infeed, NO_READ, a TAG that is not 16
decimal digits or is all zeros, and outside a halt the expiry of an answer limit that has run out, answer a next state in
which the record is READY when it was ENTERING at the head with no other entry read of it open, no other record and no
load has changed, the read has ended and the next one waiting is outstanding, the infeed's no-read counter has risen by
one, held at 65,535, its half mark spent with one COUNTER_HALF at 32,768 and kept otherwise; no other counter has changed,
and MATCH with detail code 4 is queued when the queue is open. An answer limit that has not run out is nothing.
DEFERRAL_DEADLINE_EXPIRY of a DEFERRED record whose deadline has run out, its entry read resolved, outside a halt, answers
a next state in which the record is marked UNPLANNED, has no deadline and is READY when its head mark is set and ENTERING
otherwise; no other record changes; MATCH with detail code 3 and occasion 4 is queued when the queue is open. A deadline
that has not run out is nothing. With no read outstanding at a scanner, TAG and NO_READ are ignored: LATE with the
scanner's number is queued when the queue is open, no record changes, and nothing but the derived parts does unless a read
sent there was ended since; then its time is over, and the next read waiting, if any, is sent under ACK_LIMIT. The same
without LATE follows outside a halt when such a read's limit has run out; before that, and with none ended, the expiry is
nothing. That the next READ waits for the answer to an ended one is log entry 10. -/
def Obligations.AnUnreadPalletStaysUnmatched : Prop :=
  (∀ (i : Infeed) (s : State) (n left : Nat) (r : Record), (s.scanner (.entry i)).outstanding = some (⟨n, .entry⟩, left) →
      s.record? n = some r → r.infeed = i →
      (∀ c : Instr, c = .noRead (.entry i) ∨ (∃ d, c = .tag (.entry i) d ∧ ¬ TagDigits d)
          ∨ (c = .answerLimitExpiry (.entry i) ∧ left = 0 ∧ s.mode.mode ≠ .halted) →
        ∃ t, exec c s = .next t
          ∧ t.record? n = some { r with stage := StageAfterRead s i r } ∧ (∀ k, k ≠ n → t.record? k = s.record? k)
          ∧ (t.scanner (.entry i)).outstanding.map (·.1) = (s.scanner (.entry i)).waiting.head?
          ∧ (t.scanner (.entry i)).waiting = (s.scanner (.entry i)).waiting.tail
          ∧ Counted s t (.noRead i) ∧ (∀ k : Counter, k ≠ .noRead i → tget t.link.counters k.idx = tget s.link.counters k.idx)
          ∧ (QueueOpen s → Reported t .matched fun x => x.track = some n ∧ x.detail = 4 ∧ x.value = some 1)
          ∧ KeepsAllBut ([.counters, .records, .scanners, .sent] ++ derived) s t)
      ∧ (0 < left → exec (.answerLimitExpiry (.entry i)) s = .next s))
  ∧ (∀ (n : Nat) (s : State) (r : Record) (d : Deadline), s.record? n = some r → r.stage = .deferred → r.deferral = some d →
      s.entryResolved r = true → s.mode.mode ≠ .halted →
      (d.left = 0 →
        ∃ t, exec (.deferralDeadlineExpiry n) s = .next t
          ∧ t.record? n = some { r with
              mark := some .unplanned, deferral := none, stage := if r.headMark then .ready else .entering }
          ∧ (∀ k, k ≠ n → t.record? k = s.record? k)
          ∧ (QueueOpen s → Reported t .matched fun x => x.track = some n ∧ x.detail = 3 ∧ x.value = some 4)
          ∧ KeepsAllBut (.records :: derived) s t)
      ∧ (0 < d.left → exec (.deferralDeadlineExpiry n) s = .next s))
  ∧ (∀ (sc : Scanner) (d : Text) (c : Instr) (s : State), (s.scanner sc).outstanding = none → c = .tag sc d ∨ c = .noRead sc →
      (∃ t, exec c s = .next t
        ∧ ((s.scanner sc).ended = none → KeepsAllBut derived s t)
        ∧ ((s.scanner sc).ended.isSome = true → EndedReadOver s t sc ∧ KeepsAllBut ([.scanners, .sent] ++ derived) s t)
        ∧ (QueueOpen s → Reported t .late fun x => x.detail = sc.number ∧ x.track = none))
      ∧ ((s.scanner sc).ended = some 0 → s.mode.mode ≠ .halted →
          ∃ t, exec (.answerLimitExpiry sc) s = .next t ∧ EndedReadOver s t sc ∧ KeepsAllBut [.scanners, .sent] s t)
      ∧ ((s.scanner sc).ended ≠ some 0 ∨ s.mode.mode = .halted → exec (.answerLimitExpiry sc) s = .next s))

/-- For an addressed INFEED_SET of an infeed 1 to 3 and a state 0 or 1 exec answers a next state in which that infeed has
the state, every other keeps its own, and OK is the reply with the state, the pallets on the infeed and the stage of its
oldest record. With the state it already has, nothing else changes but the derived parts; when it is disabled, or its
entry sensor is clear or its mark set, nothing else but the derived parts and the wake holds. Enabled in STOPPED with
AUTO_WAKE on and its entry sensor covered, its wake hold starts at WAKE_HOLD; disabled, its wake hold is abandoned; every
other wake hold stays. Another infeed, or a state above 1, is refused with BAD_ARGUMENT. SET_MODE RUN, RESUME to RUN, and
the expiries of the drain limit and of a wake hold, where they make the mode RUN, hand on an arrival at every infeed whose
entry sensor is covered with its mark clear, which is taken or refused as R56 gives in RUN, each on its own, a taken one
with its ARRIVAL report and its entry read; the others give none. INFEED_SET enabling an infeed does the same at that
infeed in RUN, is refused in DRAIN with case 2, and gives none in another mode. At most 29 records are there before, with
numbers from 1 to 255. -/
def Obligations.InfeedsAreSetAndWatched : Prop :=
  (∀ (q : Req) (n v : Nat) (i : Infeed) (s : State), Addressed q s → infeedOf n = some i → v ≤ 1 →
      ∃ t body, exec (.infeedSet q n v) s = .next t
        ∧ tget t.track.enabled i.idx = (v == 1)
        ∧ (∀ j, j ≠ i → tget t.track.enabled j.idx = tget s.track.enabled j.idx)
        ∧ t.link.answering = true ∧ t.sent.getLast? = some (.reply s.link.address 0xA8 .ok body)
        ∧ body = .infeed (v == 1) (t.place (.infeed i)).occupants.length ((t.oldest i).map (·.stage))
        ∧ (tget s.track.enabled i.idx = (v == 1) → RequestKeeps [] s t)
        ∧ (s.input (.entry i) = false ∨ tget s.field.entryTaken i.idx = true → RequestKeeps [.enabled, .wakeHolds] s t)
        ∧ (v = 0 → RequestKeeps [.enabled, .wakeHolds] s t)
        ∧ (v = 1 → tget s.track.enabled i.idx = false →
            (s.mode.mode = .stopped → WakeStarts t i (tget s.field.wakeHolds i.idx))
            ∧ (s.mode.mode ≠ .stopped → t.field.wakeHolds = s.field.wakeHolds))
        ∧ (v = 0 → tget s.track.enabled i.idx = true → tget t.field.wakeHolds i.idx = none)
        ∧ (∀ j, j ≠ i → tget t.field.wakeHolds j.idx = tget s.field.wakeHolds j.idx))
  ∧ (∀ (q : Req) (n v : Nat) (s : State), Addressed q s → n = 0 ∨ 3 < n ∨ 1 < v →
      exec (.infeedSet q n v) s = .next (s.answers 0x28 .badArgument .nothing))
  ∧ (∀ (q : Req) (s : State), s.track.records.length ≤ 29 → 1 ≤ s.track.nextNumber → s.track.nextNumber ≤ 255 →
      (∀ c : Instr,
        (c = .setModeRun q ∧ Addressed q s ∧ (s.mode.mode = .stopped ∨ s.mode.mode = .drain) ∧ s.link.identity.isSome = true)
          ∨ (c = .resume q ∧ Addressed q s ∧ s.mode.mode = .halted ∧ s.field.estop = false ∧ s.mode.saved = some .run)
          ∨ (c = .drainLimitExpiry ∧ s.mode.mode = .drain ∧ s.mode.drain = some 0)
          ∨ (∃ j, c = .wakeHoldExpiry j ∧ s.mode.mode = .stopped ∧ tget s.field.wakeHolds j.idx = some 0
              ∧ s.link.identity.isSome = true) →
        ∃ t, exec c s = .next t ∧ t.mode.mode = .run ∧ (∀ i, Watched s t i .run)
          ∧ (∀ k r, s.record? k = some r → (t.record? k).isSome = true) ∧ t.track.enabled = s.track.enabled)
      ∧ (∀ n i, Addressed q s → infeedOf n = some i → tget s.track.enabled i.idx = false → ∀ u : State,
          u = s.modTrack (fun k => { k with enabled := tset k.enabled i.idx true }) →
          ∃ t, exec (.infeedSet q n 1) s = .next t ∧ (∀ j, j ≠ i → NotArrived s t j) ∧ (∀ k, (s.record? k).isSome = true → t.record? k = s.record? k)
            ∧ (s.mode.mode = .run ∨ s.mode.mode = .drain → Watched u t i s.mode.mode)
            ∧ (s.mode.mode ≠ .run → s.mode.mode ≠ .drain → NotArrived s t i ∧ t.track.records = s.track.records)))

/-- For an addressed PALLET_REMOVE of a record exec answers a next state; a number no record has is refused with
UNKNOWN_PALLET. A record whose move is IN_FLIGHT is refused with IN_MOTION, and else one in RELEASING or WRAPPING with
BUSY. Otherwise no record has the number, every other record is as it was, no move of it stands in the list and every
other move is as it was, the destination of a WAITING or LOST one gives up its incoming entry and is UNKNOWN when it is
covered, with PLACE_UNKNOWN of value 2 when the queue is open, FREE when it is not and has no other occupant, and as it
stood otherwise, its slot is EXPECTED without a claimant and with its reject count unchanged, it stands in no list of its
place, which, left by its last pallet, is UNKNOWN when covered, with PLACE_UNKNOWN of value 2 when the queue is open, and
else FREE with nothing bound there (a lane is left so), no other place changing; its staging and label order entries are
gone; its wrapper, without pallet and order, is IDLE or stays FAULTED, a STALLED one sent ABORT and holding no number; its
jobs leave the printer job list, and they or its APPLY make the purge PENDING unless RUNNING; LABEL left by it is EMPTY;
no release or forced list, reserved mark, label-exit pallet or shuttle task names it; a capture of its check is closed
with HUSH; no read of it waits at a scanner, and the answer to one already sent finds no read outstanding; REMOVED is
queued when the queue is open. With the pallet on CHECK or moving there its check is dropped, the condition is EMPTY, or
INCOMING for another record's move, CHECK reports FAULTED or WORKING, and no STATION_CHANGE of CHECK is queued, which is
the reading of R91 in log entry 53. How an ended read is kept is log entry 10. What a destination that is not covered and
still has other occupants becomes is the reading of log entry 16, what an UNKNOWN place becomes that of log entry 15, and
that the faces then read PENDING is log entry 47. -/
def Obligations.PalletRemoveDeletesTheRecordAndFreesItsSlot : Prop :=
  (∀ (q : Req) (n : Nat) (s : State), Addressed q s → s.record? n = none →
    exec (.palletRemove q n) s = .next (s.answers 0x2B .unknownPallet .nothing))
  ∧ ∀ (q : Req) (n : Nat) (s : State) (r : Record), Addressed q s → s.record? n = some r →
    (s.inMotion n = true → exec (.palletRemove q n) s = .next (s.answers 0x2B .inMotion .nothing))
    ∧ (s.inMotion n = false → r.stage = .releasing ∨ r.stage = .wrapping →
        exec (.palletRemove q n) s = .next (s.answers 0x2B .busy .nothing))
    ∧ (s.inMotion n = false → r.stage ≠ .releasing → r.stage ≠ .wrapping →
        ∃ t, exec (.palletRemove q n) s = .next t
          ∧ t.record? n = none ∧ (∀ k, k ≠ n → t.record? k = s.record? k)
          ∧ t.move? n = none ∧ (∀ k, k ≠ n → t.move? k = s.move? k)
          ∧ (∀ m, s.move? n = some m → m.dest ≠ r.location →
              t.place m.dest = { s.place m.dest with
                incoming := (s.place m.dest).incoming.filter (· != n)
                unknown := if s.covered m.dest then true else if s.occupancy m.dest = 0 then false else (s.place m.dest).unknown
                clearing := if s.covered m.dest ∨ s.occupancy m.dest = 0 then false else (s.place m.dest).clearing }
              ∧ (s.covered m.dest = true → QueueOpen s → Reported t .placeUnknown fun x => x.detail = m.dest.number ∧ x.value = some 2))
          ∧ (∀ ref sl, r.ref = some ref → s.slot? ref = some sl →
              t.slot? ref = some { sl with state := .expected, claimant := none })
          ∧ (r.ref = none → t.plan.loads = s.plan.loads)
          ∧ n ∉ (t.place r.location).occupants
          ∧ (∀ k, k ≠ r.location → (∀ m, s.move? n = some m → m.dest ≠ k) → t.place k = s.place k)
          ∧ ((∀ m, s.move? n = some m → m.dest ≠ r.location) →
              GivenUp s t r.location n ((∀ l, r.location ≠ .lane l) ∧ n ∈ (s.place r.location).occupants
                ∧ ∀ k ∈ (s.place r.location).occupants, k = n) 2
              ∧ ((∀ l, r.location ≠ .lane l) → n ∈ (s.place r.location).occupants → (s.place r.location).incoming = [] →
                s.covered r.location = false → (∀ k ∈ (s.place r.location).occupants, k = n) → t.placeState r.location = .free))
          ∧ OwnersAfterDeletion s t n ∧ CheckAfterDeletion s t r
          ∧ (∀ x ∈ t.buffer.releases, x.track ≠ n) ∧ (∀ k, t.buffer.task = some k → k.track ≠ n) ∧ (∀ j ∈ t.label.jobs, j.track ≠ n)
          ∧ (∃ new, t.sent = s.sent ++ new ++ [.reply s.link.address 0xAB .ok (.removed r.ref r.location.number (t.placeState r.location))]
              ∧ (∀ x ∈ new, x = .hush ∨ ∃ w, x = .abort w)
              ∧ (∀ w, .abort w ∈ new ↔ (s.wrapper w).pallet = some n ∧ (s.wrapper w).status = .stalled)
              ∧ (∀ c, s.check.current = some c → c.track = n → t.mass.capture = none
                  ∧ (s.mass.capture.isSome = true → .hush ∈ new ∧ t.mass.settleEnd = none ∧ t.mass.limit = none))
              ∧ ((∀ c, s.check.current = some c → c.track ≠ n) → (∀ cap, s.mass.capture = some cap → cap.purpose ≠ .zero) →
                  t.mass = s.mass ∧ .hush ∉ new))
          ∧ (∀ k e, t.staging k = some e → e.track ≠ n) ∧ (∀ w, (t.wrapper w).pallet ≠ some n)
          ∧ (∀ e ∈ t.wrap.labelOrder, e.track ≠ n) ∧ (∀ p, t.label.pallet = some p → p.track ≠ n)
          ∧ (∀ p, tget t.buffer.reserved p ≠ some n) ∧ t.buffer.exitPallet ≠ some n ∧ n ∉ t.buffer.forced
          ∧ (∀ sc, (∀ rd ∈ (t.scanner sc).waiting, rd.track ≠ n) ∧ (∀ rd left, (t.scanner sc).outstanding = some (rd, left) → rd.track ≠ n)
              ∧ (∀ rd left, (s.scanner sc).outstanding = some (rd, left) → rd.track = n →
                  (t.scanner sc).outstanding = none ∧ (t.scanner sc).ended = some left))
          ∧ (QueueOpen s → Reported t .removed fun x =>
              x.track = some n ∧ x.load = r.ref.map (·.load) ∧ x.detail = r.location.number ∧ x.value = some 2)
          ∧ t.sent.getLast? = some (.reply s.link.address 0xAB .ok (.removed r.ref r.location.number (t.placeState r.location)))
          ∧ (CheckHolds s r →
              t.check.current = (match s.check.current with | some c => if c.track = n then none else some c | none => none)
              ∧ t.stationState .check = (if s.check.fault then .faulted else .working)
              ∧ ∃ new, t.link.reports = s.link.reports ++ new ∧ ∀ x ∈ new, ¬ (x.kind = .stationChange ∧ x.detail = 1))
          ∧ RequestKeeps [.loads, .places, .moves, .records, .scanners, .check, .mass, .wrap, .label, .buffer] s t)

/-- MERGE_CHOICE does nothing when a condition of R76 is missing, a request among them. With the conditions of R76 holding
and every request's infeed having an oldest record that stands on it without a move, it answers a next state in which the
infeed that the first applying case of R77 chooses is granted to its oldest record and is last granted, its train count
raised by one (to at most 4) when it was last granted before and 1 otherwise. With the gate at it, or its gate input
active, which puts the gate at it at once, the record's move to CHECK waits in the move list, CHECK expects it with its
condition INCOMING when it was EMPTY, and no other place, record or move changes; else a switch to it is in progress with
its gate limit of 300 cs and the gate drive on. That the choice is made when MERGE_CHOICE is run is log entry 7. -/
def Obligations.TheMergeChoiceGrantsTheFirstCase : Prop :=
  (∀ s : State, ¬ MayChoose s → exec .mergeChoice s = .next s)
  ∧ ∀ s : State, MayChoose s →
    (∀ i, Asks s i → ∃ r, s.oldest i = some r ∧ r.location = .infeed i ∧ s.move? r.number = none) →
    ∃ t i r, exec .mergeChoice s = .next t ∧ MergeChosen s i ∧ s.oldest i = some r
      ∧ t.merge.grant = some ⟨i, r.number⟩ ∧ t.merge.lastGranted = some i
      ∧ t.merge.train = (if s.merge.lastGranted = some i then min 4 (s.merge.train + 1) else 1)
      ∧ (s.merge.gate = some i →
          t.move? r.number = some ⟨r.number, .infeed i, .check, .infeed i, .waiting, 0, 0, false⟩
          ∧ t.merge.gate = some i ∧ t.merge.switch = none ∧ t.check.condition = (if s.check.condition = .empty then .incoming else s.check.condition))
      ∧ (s.merge.gate ≠ some i → s.input (.gateAt i) = true → t.merge.gate = some i ∧ t.merge.switch = none)
      ∧ (s.merge.gate = some i ∨ s.input (.gateAt i) = true →
          MoveAsked s t r.number (.infeed i) .check (.infeed i) ∧ t.record? r.number = some { r with movingTo := some .check }
          ∧ t.check = { s.check with condition := if s.check.condition = .empty then .incoming else s.check.condition }
          ∧ (∀ k, k ≠ .check → t.place k = s.place k) ∧ ∀ k, k ≠ r.number → t.record? k = s.record? k ∧ t.move? k = s.move? k)
      ∧ (s.merge.gate ≠ some i → s.input (.gateAt i) = false →
          t.merge.switch = some ⟨i, .grant, 300⟩ ∧ t.field.gateDrive = some i ∧ t.field.moves = s.field.moves)
      ∧ KeepsAllBut ([.merge, .moves, .records, .places, .check] ++ derived) s t

/-- In RUN or DRAIN with no switch in progress and MERGE_GATE not FAULTED, GATE_PARK answers a next state: with park
pending set, or with it clear, no grant, no request and the gate not at the infeed that PARK_INFEED names, park pending is
clear and, where PARK_INFEED names an infeed, the gate is at it when its input is active, and else a PARK switch to it is
in progress with its gate limit and the gate drive on; with PARK_INFEED NONE nothing but park pending changes beyond the
derived parts. In another mode, or with a switch in progress or MERGE_GATE FAULTED, nothing changes. GATE_LIMIT_EXPIRY of
a switch in progress whose limit has run out, outside a halt, answers a next state in which no switch is in progress, the
gate position is NONE, the gate drive is off, MERGE_GATE reports FAULTED with STATION_CHANGE queued when the queue is open
and it did not report so before, and nothing else changes but the derived parts. A limit that has not run out is nothing.
The gate-in-position input of the target of a switch in progress becomes active: the switch is over, the gate at that
infeed, and a grant's record standing on its infeed without a move then waits to move to CHECK, where there is room, for a
GRANT switch. Another input's change, or its clearing, leaves a switch and the position. Outside a switch an input that
becomes active sets the position to its infeed, and the input of the present position becoming inactive sets it to NONE;
another's clearing leaves it. The last granted, the train count, park pending and the fault stay. That the other gate
inputs are without effect during a switch is log entry 30; that an input which brings the gate to the granted infeed
outside a switch asks no move, in STOPPED, STOPPING or HALTED with MERGE_GATE not FAULTED, is the model's choice, log
entry 46 (with MERGE_GATE FAULTED it is R81's). -/
def Obligations.TheGateParksFaultsAndFollows : Prop :=
  (∀ s : State,
      ((s.mode.mode = .run ∨ s.mode.mode = .drain) → s.merge.switch = none → s.merge.fault = false →
        (∀ i, s.parkInfeed = some i →
          s.merge.parkPending = true ∨ (s.merge.grant = none ∧ (∀ j, ¬ Asks s j) ∧ s.merge.gate ≠ some i) →
          ∃ t, exec .gatePark s = .next t ∧ t.merge.parkPending = false ∧ t.merge.lastGranted = s.merge.lastGranted
            ∧ t.merge.train = s.merge.train
            ∧ (s.input (.gateAt i) = true → t.merge.gate = some i ∧ t.merge.switch = none)
            ∧ (s.input (.gateAt i) = false →
                t.merge.gate = s.merge.gate ∧ t.merge.switch = some ⟨i, .park, 300⟩ ∧ t.field.gateDrive = some i)
            ∧ KeepsAllBut (.merge :: derived) s t)
        ∧ (s.setting .parkInfeed = 0 → s.merge.parkPending = true →
          ∃ t, exec .gatePark s = .next t
            ∧ t.merge = { s.merge with parkPending := false, grant := t.merge.grant, requests := t.merge.requests }
            ∧ KeepsAllBut (.merge :: derived) s t))
      ∧ (s.working = false ∨ s.merge.switch.isSome = true ∨ s.merge.fault = true → exec .gatePark s = .next s))
  ∧ (∀ (s : State) (w : GateSwitch), s.merge.switch = some w → s.mode.mode ≠ .halted →
      (w.left = 0 →
        ∃ t, exec .gateLimitExpiry s = .next t
          ∧ t.merge = { s.merge with switch := none, gate := none, fault := true, grant := t.merge.grant, requests := t.merge.requests }
          ∧ t.field.gateDrive = none ∧ t.stationState .mergeGate = .faulted ∧ tget t.reported Station.mergeGate.idx = .faulted
          ∧ (QueueOpen s → tget s.reported Station.mergeGate.idx ≠ .faulted →
              Reported t .stationChange fun x => x.detail = 6 ∧ x.value = some 2)
          ∧ KeepsAllBut (.merge :: derived) s t)
      ∧ (0 < w.left → exec .gateLimitExpiry s = .next s))
  ∧ (∀ (i : Infeed) (b : Bool) (s : State), Senses s (.gateAt i) b →
      ∃ t, exec (.inputFilterExpiry (.gateAt i)) s = .next t
        ∧ t.merge.lastGranted = s.merge.lastGranted ∧ t.merge.train = s.merge.train ∧ t.merge.parkPending = s.merge.parkPending
        ∧ t.merge.fault = s.merge.fault
        ∧ (∀ w, s.merge.switch = some w →
            (b = true → w.target = i → t.merge.gate = some i ∧ t.merge.switch = none
              ∧ (∀ g r, w.purpose = .grant → s.merge.grant = some g → s.record? g.track = some r → r.location = .infeed i →
                  s.move? g.track = none → s.hasRoom .check = true →
                  MoveAsked s t g.track (.infeed i) .check (.infeed i) ∧ t.record? g.track = some { r with movingTo := some .check })
              ∧ (w.purpose = .park → KeepsAllBut ([.filtered, .timing, .merge] ++ derived) s t))
            ∧ (b = false ∨ w.target ≠ i → KeepsAllBut ([.filtered, .timing] ++ derived) s t))
        ∧ (s.merge.switch = none →
            t.merge.gate = (if b then some i else if s.merge.gate = some i then none else s.merge.gate) ∧ t.merge.switch = none
            ∧ KeepsAllBut ([.filtered, .timing, .merge] ++ derived) s t)
        ∧ KeepsAllBut ([.filtered, .timing, .merge, .moves, .records, .places, .check] ++ derived) s t)

/-- The head sensor of an infeed becomes covered: the first occupant of the infeed whose record is not CHECKING has its head
mark set and, when it is ENTERING with no entry read of it outstanding or waiting, is READY; no other record changes, and
nothing else but the derived parts. With every occupant CHECKING nothing but the filter and the derived parts changes. That a
leaving pallet is passed over is log entry 14. The check arrival sensor becomes covered while a move from an infeed to CHECK,
in flight or LOST, is the first bound there: a next state follows in which the pallet stands on CHECK, its move over, and has
left its infeed; a LOST move gives back the stage held before, leaves the infeed and queues LATE. With CHECK not FAULTED an
unmarked pallet's check begins: WEIGHING, its deadlines from now, the parts PENDING but for the tag part of a record with a
load reference, a capture open, STREAM and MEASURE sent and scanner 4 asked for an absent tag; a marked pallet is failed at
once with UNPLANNED or DUPLICATE, unweighed: TO_REJECT, rejected, and sent to the check reject spur or BLOCKED. With CHECK
FAULTED the condition is ARRIVED. That its READ waits behind a read ended there is the model's reading, log entry 10. That
CHECK_DONE is raised for a pallet failed unweighed is log entry 24. -/
def Obligations.PalletsReachTheHeadAndTheCheck : Prop :=
  (∀ (i : Infeed) (s : State), Senses s (.head i) true →
      (∀ n before after r, (s.place (.infeed i)).occupants = before ++ n :: after → (∀ k ∈ before, s.stageOf k = some .checking) →
        s.record? n = some r → r.stage ≠ .checking →
        ∃ t resolved, exec (.inputFilterExpiry (.head i)) s = .next t
          ∧ (resolved = true ↔ (∀ rd left, (s.scanner (.entry r.infeed)).outstanding = some (rd, left) → rd.track ≠ n)
              ∧ ∀ rd ∈ (s.scanner (.entry r.infeed)).waiting, rd.track ≠ n)
          ∧ t.record? n = some { r with
              headMark := true, stage := if r.stage = .entering ∧ resolved = true then .ready else r.stage }
          ∧ (∀ k, k ≠ n → t.record? k = s.record? k)
          ∧ KeepsAllBut ([.filtered, .timing, .records] ++ derived) s t)
      ∧ ((∀ k ∈ (s.place (.infeed i)).occupants, s.stageOf k = some .checking) →
        ∃ t, exec (.inputFilterExpiry (.head i)) s = .next t ∧ KeepsAllBut ([.filtered, .timing] ++ derived) s t))
  ∧ (∀ (s : State) (m : Move) (r a : Record) (j : Infeed), Senses s .checkArrival true → BoundFor s .check m → m.source = .infeed j →
      s.record? m.track = some r → a = r.arrivedAt m →
      ∃ t, exec (.inputFilterExpiry .checkArrival) s = .next t ∧ StandsIn s t m ∧ SourceAfter s t m
        ∧ (∀ k, k ≠ m.track → t.move? k = s.move? k ∧ t.record? k = s.record? k)
        ∧ (∀ k, k ≠ .check → k ≠ m.source → k ≠ .spur .check → t.place k = s.place k)
        ∧ (s.check.fault = true → t.check = { s.check with condition := .arrived } ∧ t.record? m.track = some a
            ∧ t.move? m.track = none
            ∧ KeepsAllBut ([.filtered, .timing, .moves, .records, .places, .check] ++ derived) s t)
        ∧ (s.check.fault = false → r.mark = none → CheckBegun s t a [] ∧ t.move? m.track = none
            ∧ KeepsAllBut ([.filtered, .timing, .moves, .records, .places, .check, .mass, .scanners, .sent] ++ derived) s t)
        ∧ (∀ k, s.check.fault = false → r.mark = some k → FailedUnchecked s t a k.verdict
            ∧ KeepsAllBut ([.filtered, .timing, .moves, .records, .places, .check, .loads] ++ derived) s t))

/-- During a check whose MEASURE is outstanding, a PROFILE with a height up to 2,600 mm answers a next state in which the
record has the height and flags; while the mass or the tag part is pending the check goes on with the profile part PRESENT
and no MEASURE outstanding, and otherwise the verdict of R89 is given on the parts and the pallet routed, and no check is
in progress. A PROFILE above 2,600 mm, with no MEASURE outstanding, or with no check in progress changes nothing.
SETTLE_LIMIT_EXPIRY of a check whose deadline has run out, outside a halt, answers a next state with no check in progress
and any capture closed. The verdict is NO_TAG when the tag part was pending or had failed so; else, for a marked record,
its UNPLANNED or DUPLICATE; else OVERLOAD when the mass part had failed so, UNSTABLE when it was pending, and
PROFILE_MISSING when it was PRESENT and the profile part pending; every condition of R89 that fails enters the fault list.
The record is TO_REJECT without a load reference, its slot is EXPECTED without a claimant and with its reject count one
higher, at most 255, and REJECT with the verdict is queued when the queue is open; the check is ROUTING when the check
reject spur has room and BLOCKED when it has none. The unstable counter has risen by one, with its half mark as R199
gives, and no other counter has changed, when the mass part was pending; it is as it was when the mass part was PRESENT. A
deadline that has not run out is nothing. -/
def Obligations.ThePartsOfACheckResolve : Prop :=
  (∀ (h : Nat) (o : Overhang) (s : State),
      (∀ c r, s.check.current = some c → s.record? c.track = some r → c.measure = true → h ≤ 2600 →
        ∃ t, exec (.profile h o) s = .next t
          ∧ (∃ r', t.record? c.track = some r' ∧ r'.height = some h ∧ r'.overhang = some o ∧ r'.tag = r.tag ∧ r'.location = r.location)
          ∧ (c.mass = .pending ∨ c.tag = .pending →
              t.check = { s.check with current := some { c with profile := .present, measure := false } }
              ∧ t.record? c.track = some { r with height := some h, overhang := some o }
              ∧ KeepsAllBut ([.records, .check] ++ derived) s t)
          ∧ (c.mass ≠ .pending → c.tag ≠ .pending → t.check.current = none ∧ t.check.condition ≠ .weighing
              ∧ Judged s t { c with profile := .present, measure := false } { r with height := some h, overhang := some o }))
      ∧ (s.check.current = none ∨ (∃ c, s.check.current = some c ∧ (c.measure = false ∨ 2600 < h)) →
          exec (.profile h o) s = .next s))
  ∧ (∀ (s : State) (c : Check) (r : Record), s.check.current = some c → s.record? c.track = some r →
      s.mode.mode ≠ .halted →
      (c.settleLimit.left = 0 → ∀ v : Code,
          (v = .noTag ∧ (c.tag = .pending ∨ c.tag = .failed .noTag))
            ∨ (c.tag ≠ .pending ∧ c.tag ≠ .failed .noTag
              ∧ ((∃ k, r.mark = some k ∧ v = k.verdict)
                ∨ (r.mark = none ∧ ((v = .overload ∧ c.mass = .failed .overload) ∨ (v = .unstable ∧ c.mass = .pending)
                  ∨ (v = .profileMissing ∧ c.mass = .present ∧ c.profile = .pending))))) →
        ∃ t r', exec .settleLimitExpiry s = .next t
          ∧ t.check.current = none ∧ t.mass.capture = none
          ∧ t.record? c.track = some r' ∧ r'.verdict = some v ∧ r'.stage = .toReject ∧ r'.ref = none
          ∧ (r.faults.length < 4 → v ∈ r'.faults)
          ∧ (∀ ref sl, r.ref = some ref → s.slot? ref = some sl →
              t.slot? ref = some { sl with state := .expected, claimant := none, rejects := min 255 (sl.rejects + 1) }
              ∧ (QueueOpen s → Reported t .reject fun x => x.track = some c.track ∧ x.load = some ref.load ∧ x.detail = v.number
                  ∧ x.value = some ((min 255 (sl.rejects + 1) : Nat) : Int)))
          ∧ (r.location = .check → s.move? c.track = none →
              t.check.condition = (if s.hasRoom (.spur .check) then .routing else .blocked))
          ∧ Judged s t { c with
              mass := if c.mass = .pending then .failed .unstable else c.mass
              profile := if c.profile = .pending then .failed .profileMissing else c.profile
              tag := if c.tag = .pending then .failed .noTag else c.tag } r
          ∧ (c.mass = .pending → Counted s t .unstable ∧ ∀ k : Counter, k ≠ .unstable → tget t.link.counters k.idx = tget s.link.counters k.idx)
          ∧ (c.mass = .present → tget t.link.counters Counter.unstable.idx = tget s.link.counters Counter.unstable.idx)
          ∧ (∀ k, k ≠ c.track → t.record? k = s.record? k)
          ∧ KeepsAllBut ([.records, .loads, .counters, .mass, .sent, .scanners, .check, .moves, .places] ++ derived) s t)
      ∧ (0 < c.settleLimit.left → exec .settleLimitExpiry s = .next s))

/-- CHECK_ROUTE_RETRY with a record standing BLOCKED on CHECK, no move of it in the list: with its stage TO_REJECT and
room in the check reject spur, or its stage another and room in a staging position, a next state follows in which the
check is ROUTING, its station no longer BLOCKED, with STATION_CHANGE queued when the queue is open and its reported state
was another, its move waits in the list, to the spur or to staging position 1 before 2, and the destination holds its
incoming entry. With no room, or a condition other than BLOCKED, nothing changes. That the choice is made when
CHECK_ROUTE_RETRY is run is log entry 7. -/
def Obligations.ABlockedCheckTakesTheFirstRoom : Prop :=
  ∀ (s : State) (n : Nat) (rest : List Nat) (r : Record), (s.place .check).occupants = n :: rest → s.record? n = some r →
    r.location = .check → s.move? n = none →
    (s.check.condition = .blocked → ∀ p : Place,
        (r.stage = .toReject ∧ p = .spur .check ∧ s.hasRoom p = true)
          ∨ (r.stage ≠ .toReject ∧ p = .staging .one ∧ s.hasRoom p = true)
          ∨ (r.stage ≠ .toReject ∧ p = .staging .two ∧ s.hasRoom p = true ∧ s.hasRoom (.staging .one) = false) →
      ∃ t, exec .checkRouteRetry s = .next t
        ∧ t.check = { s.check with condition := .routing }
        ∧ t.stationState .check = (if s.check.fault then .faulted else .working)
        ∧ (QueueOpen s → tget s.reported Station.check.idx ≠ t.stationState .check →
            Reported t .stationChange fun x => x.detail = 1 ∧ x.value = some (t.stationState .check).number)
        ∧ t.move? n = some ⟨n, .check, p, .centre, .waiting, 0, 0, false⟩
        ∧ t.record? n = some { r with movingTo := some p }
        ∧ t.place p = { s.place p with incoming := (s.place p).incoming ++ [n] }
        ∧ (∀ k, k ≠ p → t.place k = s.place k)
        ∧ (∀ k, k ≠ n → t.record? k = s.record? k ∧ t.move? k = s.move? k)
        ∧ KeepsAllBut ([.check, .moves, .records, .places] ++ derived) s t)
    ∧ (s.check.condition ≠ .blocked → exec .checkRouteRetry s = .next s)
    ∧ (r.stage = .toReject → s.hasRoom (.spur .check) = false → exec .checkRouteRetry s = .next s)
    ∧ (r.stage ≠ .toReject → s.hasRoom (.staging .one) = false → s.hasRoom (.staging .two) = false →
        exec .checkRouteRetry s = .next s)

/-- For an addressed STATION_RESUME of a station 1 to 6 exec answers a next state whose station is neither FAULTED nor
STALLED, with STATION_CHANGE and its new state queued when the queue is open and its reported state was another, the last
message sent being OK with its state. A station neither FAULTED nor STALLED is left as it is, with nothing else changed
but the derived parts. A number 0 or above 6 is refused with BAD_ARGUMENT. For an addressed STATION_RESUME of a FAULTED
station: CHECK with a pallet ARRIVED begins its check, or fails a marked one unchecked, and otherwise only loses its
fault. SHUTTLE with no task, on a pickup, or with its delivery asked only loses its fault; with its delivery LOST its task
ends, the move staying LOST; waiting, it decides its delivery as DELIVERY_DECISION does (which is log entry 39 after a
pickup that completed late). MERGE_GATE with a grant whose record stands on its infeed without a move, no switch in
progress: the gate at that infeed, the move to CHECK is asked where there is room; else, in RUN or DRAIN, the switch is
commanded anew with its limit of 300 cs, or ends at once with its input active; otherwise the fault alone goes. That the
READ of the check begun waits behind a read ended at scanner 4, and that CHECK_DONE is raised for a pallet failed
unchecked, are the model's readings, log entries 10 and 24. -/
def Obligations.StationsAreResumed : Prop :=
  (∀ (q : Req) (n : Nat) (s : State), Addressed q s →
      (∀ st, stationOf n = some st →
        ∃ t, exec (.stationResume q n) s = .next t
          ∧ t.stationState st ≠ .faulted ∧ t.stationState st ≠ .stalled
          ∧ (QueueOpen s → tget s.reported st.idx ≠ t.stationState st →
              Reported t .stationChange fun x => x.detail = st.number ∧ x.value = some (t.stationState st).number)
          ∧ t.link.answering = true ∧ t.sent.getLast? = some (.reply s.link.address 0xB1 .ok (.station (t.stationState st)))
          ∧ (s.stationState st ≠ .faulted → s.stationState st ≠ .stalled →
              Replied s t 0x31 .ok (.station (s.stationState st)) ∧ RequestKeeps [] s t))
      ∧ (n = 0 ∨ 6 < n → exec (.stationResume q n) s = .next (s.answers 0x31 .badArgument .nothing)))
  ∧ (∀ (q : Req) (s : State), Addressed q s →
      (s.check.fault = true →
        (s.check.condition ≠ .arrived →
          ∃ t, exec (.stationResume q 1) s = .next t ∧ t.check = { s.check with fault := false } ∧ RequestKeeps [.check] s t)
        ∧ (∀ n rest r, s.check.condition = .arrived → (s.place .check).occupants = n :: rest → s.record? n = some r →
            r.location = .check → s.move? n = none →
          ∃ t, exec (.stationResume q 1) s = .next t
            ∧ (r.mark = none → CheckBegun s t r [.reply s.link.address 0xB1 .ok (.station .working)]
                ∧ RequestKeeps [.check, .mass, .scanners] s t)
            ∧ (∀ k, r.mark = some k → FailedUnchecked s t r k.verdict
                ∧ RequestKeeps [.records, .loads, .check, .moves, .places] s t)))
      ∧ (s.buffer.fault = true →
        (s.buffer.task = none ∨ (∃ k, s.buffer.task = some k ∧ (k.leg = .pickup ∨ ∃ m, s.move? k.track = some m ∧ m.state ≠ .lost)) →
          ∃ t, exec (.stationResume q 5) s = .next t
            ∧ t.buffer = { s.buffer with fault := false, deadlock := t.buffer.deadlock } ∧ RequestKeeps [.buffer] s t)
        ∧ (∀ k m, s.buffer.task = some k → k.leg = .delivery → s.move? k.track = some m → m.state = .lost →
          ∃ t, exec (.stationResume q 5) s = .next t
            ∧ t.buffer = { s.buffer with fault := false, task := none, deadlock := t.buffer.deadlock } ∧ RequestKeeps [.buffer] s t)
        ∧ (∀ k, s.buffer.task = some k → k.leg = .delivery → s.move? k.track = none →
          ∃ t d, exec (.stationResume q 5) s = .next t
            ∧ exec .deliveryDecision (s.modBuffer fun b => { b with fault := false }) = .next d
            ∧ t.buffer = d.buffer ∧ t.field.moves = d.field.moves ∧ t.field.places = d.field.places
            ∧ t.track.records = d.track.records ∧ RequestKeeps [.buffer, .moves, .records, .places] s t))
      ∧ (s.merge.fault = true →
        (s.merge.grant = none →
          ∃ t, exec (.stationResume q 6) s = .next t
            ∧ t.merge = { s.merge with fault := false, requests := t.merge.requests } ∧ RequestKeeps [.merge] s t)
        ∧ (∀ g r, s.merge.grant = some g → s.merge.switch = none → s.record? g.track = some r → r.location = .infeed g.infeed →
            s.move? g.track = none →
          ∃ t, exec (.stationResume q 6) s = .next t
            ∧ (s.merge.gate = some g.infeed → t.merge.gate = s.merge.gate ∧ t.merge.switch = none
                ∧ (s.hasRoom .check = true → MoveAsked s t g.track (.infeed g.infeed) .check (.infeed g.infeed)))
            ∧ (s.merge.gate ≠ some g.infeed → s.mode.mode = .run ∨ s.mode.mode = .drain →
                (s.input (.gateAt g.infeed) = false → t.merge.switch = some ⟨g.infeed, .grant, 300⟩ ∧ t.merge.gate = s.merge.gate
                  ∧ t.field.gateDrive = some g.infeed)
                ∧ (s.input (.gateAt g.infeed) = true → t.merge.gate = some g.infeed ∧ t.merge.switch = none))
            ∧ (s.merge.gate ≠ some g.infeed → s.mode.mode ≠ .run → s.mode.mode ≠ .drain → RequestKeeps [.merge] s t
                ∧ t.merge.gate = s.merge.gate ∧ t.merge.switch = none)
            ∧ RequestKeeps [.merge, .moves, .records, .places, .check] s t)))

/-- In a check whose profile and tag parts are resolved, of a record with a load reference, the reading in range that
makes the last K readings no more than W apart, whether it fills the window or slides it, answers a next state in which
the capture is closed, HUSH has been sent, and the record carries M, the readings' average rounded to d (half-way upward)
less the zero offset, brought into 0 to 2,000,000 g; D, M less E; and T, the used band's F plus P per mille of N rounded
down, at most TOLERANCE_MAX. The verdict on mass is PASS or PASS_MARGINAL when D lies between -T and T and 2|D| is or is
not at most T, OVER above T, UNDER below -T; it is counted unless PASS, the counter's half mark spent with one
COUNTER_HALF at 32,768 and kept otherwise, and no other counter changes. The overload marker taken there closes the
capture in the same way and fails the mass part, and the record gets no M, D or T. Of a record without a load reference
the stable window gives M, no D, T or verdict on mass, and no counter. In each case the verdict is given: the failing
conditions of R89, NO_TAG, UNPLANNED, DUPLICATE, OVERLOAD, UNSTABLE, PROFILE_MISSING, OVERHANG, HEIGHT, and OVER or UNDER,
enter the fault list in that order; the first of them, or with none the verdict on mass, is the record's verdict;
CHECK_DONE carries it, and D. A passing pallet, its stage and load reference kept, asks its move to staging position 1, or
without room there to 2; a failing one is TO_REJECT without load reference, its slot EXPECTED with one reject more, REJECT
queued, and asks its move to the check reject spur. The check is ROUTING, or without room BLOCKED. -/
def Obligations.AStableWindowGivesTheVerdictOnMass : Prop :=
  (∀ (s : State) (c : Check) (cap : Capture) (r : Record) (ref : LoadRef) (sl : Slot) (b : Band) (g : Int) (old win : List Int),
      s.check.current = some c → c.mass = .pending → c.profile ≠ .pending → c.tag ≠ .pending →
      s.mass.capture = some cap → cap.purpose = .check c.track → cap.collecting = true → s.mode.mode ≠ .halted →
      s.record? c.track = some r → r.ref = some ref → s.slot? ref = some sl →
      -40000 ≤ g → g ≤ 1999999 → 0 < cap.size → cap.window.length ≤ cap.size → 0 < cap.division →
      cap.window ++ [g] = old ++ win → win.length = cap.size → (∀ x ∈ win, ∀ y ∈ win, x - y ≤ cap.width) → BandUsed s.plan.bands sl.net b →
      ∃ (t : State) (q m d : Int) (T : Nat) (v : Code), exec (.reading (.value g)) s = .next t
        ∧ q * (cap.size * cap.division) ≤ win.sum + (cap.size * cap.division) / 2
        ∧ win.sum + (cap.size * cap.division) / 2 < (q + 1) * (cap.size * cap.division)
        ∧ m = max 0 (min 2000000 (q * cap.division - s.mass.offset))
        ∧ d = m - sl.gross
        ∧ T = min (s.setting .toleranceMax) (b.fixed + sl.net * b.perMille / 1000)
        ∧ MassVerdict d T v
        ∧ VerdictGiven s t { c with mass := .present } { r with mass := some m.toNat } (some (d, T, v))
        ∧ t.mass = { s.mass with capture := none, settleEnd := none, limit := none } ∧ .hush ∈ t.sent
        ∧ (∀ x, t.record? c.track = some x → x.ref ≠ none → t.plan.loads = s.plan.loads)
        ∧ (∀ k : Counter, let raised : Prop := (k = .over ∧ v = .over) ∨ (k = .under ∧ v = .under) ∨ (k = .marginal ∧ v = .passMarginal)
            (raised → Counted s t k) ∧ (¬ raised → tget t.link.counters k.idx = tget s.link.counters k.idx))
        ∧ (∀ k, k ≠ c.track → t.record? k = s.record? k)
        ∧ KeepsAllBut ([.records, .loads, .counters, .mass, .sent, .scanners, .check, .moves, .places] ++ derived) s t)
  ∧ (∀ (s : State) (c : Check) (cap : Capture) (r : Record), s.check.current = some c → c.profile ≠ .pending → c.tag ≠ .pending →
      s.mass.capture = some cap → cap.purpose = .check c.track → cap.collecting = true → s.mode.mode ≠ .halted →
      s.record? c.track = some r →
      ∃ t, exec (.reading .overload) s = .next t
        ∧ VerdictGiven s t { c with mass := .failed .overload } r none
        ∧ t.mass = { s.mass with capture := none, settleEnd := none, limit := none } ∧ .hush ∈ t.sent
        ∧ (∀ k, k ≠ c.track → t.record? k = s.record? k)
        ∧ KeepsAllBut ([.records, .loads, .mass, .sent, .scanners, .check, .moves, .places] ++ derived) s t)
  ∧ (∀ (s : State) (c : Check) (cap : Capture) (r : Record) (g m : Int), s.check.current = some c → c.profile ≠ .pending →
      c.tag ≠ .pending → s.mass.capture = some cap → cap.purpose = .check c.track → cap.collecting = true →
      s.mode.mode ≠ .halted → s.record? c.track = some r → r.ref = none → -40000 ≤ g → g ≤ 1999999 → WindowMass s cap g m →
      ∃ t, exec (.reading (.value g)) s = .next t
        ∧ Judged s t { c with mass := .present } { r with mass := some m.toNat }
        ∧ t.check.current = none ∧ t.mass = { s.mass with capture := none, settleEnd := none, limit := none } ∧ .hush ∈ t.sent
        ∧ (∃ x, t.record? c.track = some x ∧ x.mass = some m.toNat ∧ x.deviation = r.deviation ∧ x.ref = none)
        ∧ t.plan.loads = s.plan.loads ∧ (∀ k : Counter, (tget t.link.counters k.idx).count = (tget s.link.counters k.idx).count)
        ∧ (∀ k, k ≠ c.track → t.record? k = s.record? k)
        ∧ KeepsAllBut ([.records, .mass, .sent, .scanners, .check, .moves, .places] ++ derived) s t)

/-- SETTLE_DELAY_END of a check whose settle delay has run out, and ZERO_SETTLE_END of a zero capture whose settle end has
come, each outside a halt and with collecting clear, answer a next state in which the capture collects and nothing else
has changed but the derived parts. With the delay not run out, or in a halt, nothing changes. A READING with no capture
open, with collecting clear, in a halt, or with a value outside -40,000 to 1,999,999 g changes nothing. A value in range
joins the window at its tail, the oldest reading alone leaving first when the window holds K readings already; with fewer
than K readings then, or K readings more than W apart, nothing else changes but the derived parts. The overload marker,
while the mass part of a check with another part pending is collected, closes the capture with HUSH and fails the mass
part with OVERLOAD, the record and its mass untouched. The reading in range that makes the last K readings no more than W
apart, while the profile or the tag part of the check is pending, closes the capture with HUSH, writes M into the record
(the rounded average less the zero offset, brought into 0 to 2,000,000 g), makes the mass part PRESENT and changes nothing
else but the derived parts: the check goes on. -/
def Obligations.ReadingsAreCollected : Prop :=
  (∀ (s : State) (cap : Capture), s.mass.capture = some cap →
      (∀ c, s.check.current = some c → cap.purpose = .check c.track →
        (c.settleEnd.left = 0 → cap.collecting = false → s.mode.mode ≠ .halted →
          ∃ t, exec .settleDelayEnd s = .next t ∧ t.mass = { s.mass with capture := some { cap with collecting := true } }
            ∧ KeepsAllBut (.mass :: derived) s t)
        ∧ (0 < c.settleEnd.left ∨ s.mode.mode = .halted → exec .settleDelayEnd s = .next s))
      ∧ (∀ d, s.mass.settleEnd = some d → cap.purpose = .zero →
        (d.left = 0 → cap.collecting = false → s.mode.mode ≠ .halted →
          ∃ t, exec .zeroSettleEnd s = .next t ∧ t.mass = { s.mass with capture := some { cap with collecting := true } }
            ∧ KeepsAllBut (.mass :: derived) s t)
        ∧ (0 < d.left ∨ s.mode.mode = .halted → exec .zeroSettleEnd s = .next s)))
  ∧ (∀ (s : State) (x : Reading) (g : Int),
      (s.mass.capture = none → exec (.reading x) s = .next s)
      ∧ (∀ cap, s.mass.capture = some cap → cap.collecting = false ∨ s.mode.mode = .halted → exec (.reading x) s = .next s)
      ∧ (g < -40000 ∨ 1999999 < g → exec (.reading (.value g)) s = .next s)
      ∧ (∀ cap win, s.mass.capture = some cap → cap.collecting = true → s.mode.mode ≠ .halted → -40000 ≤ g → g ≤ 1999999 →
          0 < cap.size → cap.window.length ≤ cap.size →
          win = (if cap.window.length < cap.size then cap.window else cap.window.drop 1) ++ [g] →
          (win.length < cap.size ∨ ∃ y ∈ win, ∃ z ∈ win, (cap.width : Int) < y - z) →
          ∃ t, exec (.reading (.value g)) s = .next t
            ∧ t.mass = { s.mass with capture := some { cap with window := win } }
            ∧ KeepsAllBut (.mass :: derived) s t)
      ∧ (∀ cap c, s.mass.capture = some cap → cap.collecting = true → s.mode.mode ≠ .halted → s.check.current = some c →
          cap.purpose = .check c.track → c.profile = .pending ∨ c.tag = .pending →
          ∃ t, exec (.reading .overload) s = .next t
            ∧ t.mass = { s.mass with capture := none, settleEnd := none, limit := none } ∧ t.sent = s.sent ++ [.hush]
            ∧ t.check = { s.check with current := some { c with mass := .failed .overload } }
            ∧ KeepsAllBut ([.mass, .sent, .check] ++ derived) s t))
  ∧ (∀ (s : State) (c : Check) (cap : Capture) (r : Record) (g m : Int), s.check.current = some c →
      c.profile = .pending ∨ c.tag = .pending → s.mass.capture = some cap → cap.purpose = .check c.track → cap.collecting = true →
      s.mode.mode ≠ .halted → s.record? c.track = some r → -40000 ≤ g → g ≤ 1999999 → WindowMass s cap g m →
      ∃ t, exec (.reading (.value g)) s = .next t
        ∧ t.mass = { s.mass with capture := none, settleEnd := none, limit := none } ∧ t.sent = s.sent ++ [.hush]
        ∧ t.record? c.track = some { r with mass := some m.toNat } ∧ (∀ k, k ≠ c.track → t.record? k = s.record? k)
        ∧ t.check = { s.check with current := some { c with mass := .present } }
        ∧ KeepsAllBut ([.mass, .sent, .records, .check] ++ derived) s t)

/-- For an addressed ZERO_SCALE: in HALTED the reply is WRONG_MODE; outside it, with the zero status RUNNING, the CHECK place
not FREE, a move to CHECK in the list or a grant set, the reply is BUSY; nothing else changes. Otherwise exec answers a next
state with the status RUNNING, a capture open for ZERO with an empty window, K, W and d from the settings and collecting set
only with a settle delay of 0, the settle end and the limit at SETTLE_DELAY and SETTLE_LIMIT from now; STREAM is sent, then OK
with RUNNING and the offset before. While a zero capture collects outside a halt, the reading in range that makes the last K
readings no more than W apart, whether it fills the window or slides it, closes it: with the mean within 40,000 g of 0 the
status is DONE, the offset the mean and zero valid true; with the mean outside the status is FAILED. The overload marker
there, and the zero limit when it has run out, collecting or not, close it FAILED. In every FAILED case the offset and zero
valid stay. HUSH is sent, and ZERO_DONE with detail 1, 2, 3 or 4 is queued when the queue is open; nothing else changes but
the derived parts. That the limit runs from the start is the reading of log entry 35. -/
def Obligations.AZeroCaptureStartsAndEndsOnce : Prop :=
  (∀ (q : Req) (s : State), Addressed q s →
      (s.mode.mode = .halted → exec (.zeroScale q) s = .next (s.answers 0x30 .wrongMode .nothing))
      ∧ (s.mode.mode ≠ .halted →
          s.mass.status = .running ∨ s.placeState .check ≠ .free ∨ s.movesTo .check = true ∨ s.merge.grant ≠ none →
          exec (.zeroScale q) s = .next (s.answers 0x30 .busy .nothing))
      ∧ (s.mode.mode ≠ .halted → s.mass.status ≠ .running → s.placeState .check = .free → s.movesTo .check = false →
          s.merge.grant = none →
          ∃ t, exec (.zeroScale q) s = .next t
            ∧ t.mass = { s.mass with
                status := .running
                capture := some ⟨.zero, [], s.setting .windowSize, s.setting .stabilityWidth, s.setting .division,
                  s.setting .settleDelay == 0⟩
                settleEnd := some ⟨s.lineTime + BitVec.ofNat 32 (s.setting .settleDelay), s.setting .settleDelay⟩
                limit := some ⟨s.lineTime + BitVec.ofNat 32 (s.setting .settleLimit), s.setting .settleLimit⟩ }
            ∧ t.sent = s.sent ++ [.stream, .reply s.link.address 0xB0 .ok (.zero .running s.mass.offset)] ∧ t.link.answering = true
            ∧ RequestKeeps [.mass] s t))
  ∧ (∀ (s : State) (cap : Capture) (c : Instr) (detail : Nat) (value : Option Int) (after : MassUnit),
      s.mass.capture = some cap → cap.purpose = .zero → s.mode.mode ≠ .halted →
      (∃ (g q : Int) (old win : List Int), c = .reading (.value g) ∧ cap.collecting = true ∧ -40000 ≤ g ∧ g ≤ 1999999 ∧ 0 < cap.size
          ∧ cap.window.length ≤ cap.size ∧ 0 < cap.division ∧ cap.window ++ [g] = old ++ win ∧ win.length = cap.size
          ∧ (∀ x ∈ win, ∀ y ∈ win, x - y ≤ cap.width)
          ∧ q * (cap.size * cap.division) ≤ win.sum + (cap.size * cap.division) / 2
          ∧ win.sum + (cap.size * cap.division) / 2 < (q + 1) * (cap.size * cap.division)
          ∧ value = some (q * cap.division)
          ∧ ((-40000 ≤ q * cap.division ∧ q * cap.division ≤ 40000 ∧ detail = 1
                ∧ after = ⟨none, q * cap.division, .done, true, none, none⟩)
              ∨ ((q * cap.division < -40000 ∨ 40000 < q * cap.division) ∧ detail = 2
                ∧ after = ⟨none, s.mass.offset, .failed, s.mass.valid, none, none⟩)))
        ∨ (c = .reading .overload ∧ cap.collecting = true ∧ detail = 3 ∧ value = none ∧ after = ⟨none, s.mass.offset, .failed, s.mass.valid, none, none⟩)
        ∨ (c = .zeroLimitExpiry ∧ (∃ d, s.mass.limit = some d ∧ d.left = 0) ∧ detail = 4 ∧ value = none
            ∧ after = ⟨none, s.mass.offset, .failed, s.mass.valid, none, none⟩) →
      ∃ t, exec c s = .next t ∧ t.mass = after ∧ t.sent = s.sent ++ [.hush]
        ∧ (QueueOpen s → Reported t .zeroDone fun x => x.detail = detail ∧ x.value = value)
        ∧ KeepsAllBut ([.mass, .sent] ++ derived) s t)

/-- In RUN or DRAIN, with the first applying case of R114 giving the pallet of a staging position, standing there with its
record, to a wrapper, exec answers a next state in which that wrapper has the pallet and an order in hand, unsent and
without a number, of the recipe as its table stands and the record's height; the record has the wrapper and is moving to
it; its move waits in the list and the wrapper place holds its incoming entry. With no case applying, or in another mode,
nothing changes. Which pallet is oldest and which wrapper idle longest is decided by the age of log entry 36, and a pallet
in an UNKNOWN staging place is not chosen (R36), though it still counts as the oldest (log entry 49). ORDER_SEND for an
ORDERED wrapper with its order unsent, in RUN or DRAIN, answers a next state in which the order has the next order number,
which is held, the counter has gone up by one, 255 being followed by 1, the acknowledge limit runs at ACK_LIMIT, and ORDER
with the number, recipe and height has been sent. ACCEPT for the held number with the order sent makes the wrapper
RUNNING, its wrap limit at WRAP_LIMIT and its acknowledge limit stopped. Nothing else changes but the derived parts. In
another mode, or state, each changes nothing. -/
def Obligations.WrappersAreChosenAndOrdered : Prop :=
  (∀ s : State,
      (∀ k w rc e r, s.mode.mode = .run ∨ s.mode.mode = .drain → WrapChosen s k w rc → s.staging k = some e →
        s.record? e.track = some r → r.location = .staging k →
        ∃ t, exec .wrapperChoice s = .next t
          ∧ t.wrap = { s.wrap with wrappers := tset s.wrap.wrappers w.idx { s.wrapper w with
              pallet := some e.track, order := some ⟨none, rc, r.height.getD 0, false, none, none⟩ } }
          ∧ t.record? e.track = some { r with wrapper := some w, movingTo := some (.wrapper w) }
          ∧ t.move? e.track = some ⟨e.track, .staging k, .wrapper w, .centre, .waiting, 0, 0, false⟩
          ∧ t.place (.wrapper w) = { s.place (.wrapper w) with incoming := [e.track] }
          ∧ (∀ p, p ≠ .wrapper w → t.place p = s.place p)
          ∧ (∀ j, j ≠ e.track → t.record? j = s.record? j ∧ t.move? j = s.move? j)
          ∧ KeepsAllBut ([.wrap, .moves, .records, .places] ++ derived) s t)
      ∧ ((∀ k w rc, ¬ WrapChosen s k w rc) → exec .wrapperChoice s = .next s)
      ∧ (s.mode.mode ≠ .run → s.mode.mode ≠ .drain → exec .wrapperChoice s = .next s))
  ∧ (∀ (w : Side) (n : Nat) (s : State) (u : WrapperState) (o : Order), s.wrapper w = u → u.order = some o →
      (u.status = .ordered → o.sent = false → s.mode.mode = .run ∨ s.mode.mode = .drain →
        ∃ t, exec (.orderSend w) s = .next t
          ∧ t.wrap = { s.wrap with wrappers := tset s.wrap.wrappers w.idx { u with
              order := some { o with number := some u.nextOrder, sent := true, ack := some (s.setting .ackLimit), wrap := none }
              held := some u.nextOrder
              nextOrder := if 255 ≤ u.nextOrder then 1 else u.nextOrder + 1 } }
          ∧ t.sent = s.sent ++ [.order w u.nextOrder o.recipe o.height]
          ∧ KeepsAllBut ([.wrap, .sent] ++ derived) s t)
      ∧ (u.status ≠ .ordered ∨ o.sent = true ∨ s.working = false → exec (.orderSend w) s = .next s)
      ∧ (1 ≤ n → n ≤ 255 → u.held = some n →
          (u.status = .ordered → o.sent = true →
            ∃ t, exec (.accept w n) s = .next t
              ∧ t.wrap = { s.wrap with wrappers := tset s.wrap.wrappers w.idx { u with
                  status := .running, order := some { o with ack := none, wrap := some (s.setting .wrapLimit) } } }
              ∧ KeepsAllBut (.wrap :: derived) s t)
          ∧ (u.status ≠ .ordered ∨ o.sent = false → exec (.accept w n) s = .next s)))

/-- A DONE for the held order number, of 1 to 999 revolutions and L up to 65,535 dm, with the order sent or the wrap
running, answers a next state. The estimate is the one of R120 for the order's recipe and height and the base's footprint.
The record has L, the film mass, L times FILM_LINEAR_MASS in thousandths, a half rounded up, and M plus that mass plus
TOP_SHEET_MASS for a top sheet as shipped gross. With 4L below 3 times the estimate it is WRAP_FAILED with FILM_SHORT, its
slot EXPECTED with one reject more, and the wrap faults counter one higher, its half mark spent with one COUNTER_HALF at
32,768 and kept otherwise; no other counter has changed; REJECT is queued with the load reference released, WRAP_FAILED
and the reject count when the queue is open; otherwise it passes. It is WRAPPED and last in the label order list; the
wrapper is DONE_OCCUPIED, nothing held, limits stopped. With the queue open WRAP_DONE is queued with L and detail 3 when
short, 2 when 2L exceeds 3 times the estimate, and 1 otherwise; an estimate of 0 is neither. -/
def Obligations.AWrapEndsWithDone : Prop :=
  ∀ (w : Side) (n turns film est p : Nat) (s : State) (u : WrapperState) (o : Order) (r : Record) (ref : LoadRef) (sl : Slot)
    (b : Base) (i : Fin 4),
    s.wrapper w = u → u.order = some o → u.pallet = some p → u.held = some n → 1 ≤ n → n ≤ 255 → 1 ≤ turns → turns ≤ 999 →
    film ≤ 65535 → u.status = .running ∨ (u.status = .ordered ∧ o.sent = true) → s.record? p = some r → r.ref = some ref →
    s.slot? ref = some sl → i.val = sl.base → tget s.plan.bases i = b → o.recipe.overlap ≤ 70 →
    FilmEstimate o.recipe o.height b.length b.width est →
    ∃ (t : State) (fm : Nat) (r' : Record), exec (.done w n turns film) s = .next t
      ∧ fm * 1000 ≤ film * s.setting .filmLinearMass + 500 ∧ film * s.setting .filmLinearMass + 500 < (fm + 1) * 1000
      ∧ r' = { r with
          filmLength := some film, filmMass := some fm, stage := .wrapped
          shippedGross := r.mass.map fun m => m + fm + (if o.recipe.topSheet then s.setting .topSheetMass else 0) }
      ∧ (¬ (est ≠ 0 ∧ 4 * film < 3 * est) →
          t.record? p = some r' ∧ t.plan.loads = s.plan.loads ∧ t.link.counters = s.link.counters
          ∧ t.wrap.labelOrder = s.wrap.labelOrder ++ [⟨p, w, false⟩]
          ∧ (QueueOpen s → Reported t .wrapDone fun x => x.track = some p ∧ x.load = some ref.load
              ∧ x.detail = (if est ≠ 0 ∧ 3 * est < 2 * film then 2 else 1) ∧ x.value = some (film : Int)))
      ∧ (est ≠ 0 → 4 * film < 3 * est →
          t.record? p = some { r' with
              verdict := some .wrapFailed, ref := none
              faults := if r.faults.length < 4 then r.faults ++ [.filmShort] else r.faults
              faultsLost := if r.faults.length < 4 then r.faultsLost else min 255 (r.faultsLost + 1) }
          ∧ t.slot? ref = some { sl with state := .expected, claimant := none, rejects := min 255 (sl.rejects + 1) }
          ∧ t.wrap.labelOrder = s.wrap.labelOrder ++ [⟨p, w, true⟩]
          ∧ Counted s t .wrapFaults ∧ (∀ k : Counter, k ≠ .wrapFaults → tget t.link.counters k.idx = tget s.link.counters k.idx)
          ∧ (QueueOpen s → Reported t .wrapDone fun x => x.track = some p ∧ x.detail = 3 ∧ x.value = some (film : Int))
          ∧ (QueueOpen s → Reported t .reject fun x => x.track = some p ∧ x.load = some ref.load ∧ x.position = some ref.position
              ∧ x.detail = Code.wrapFailed.number ∧ x.value = some ((min 255 (sl.rejects + 1) : Nat) : Int)))
      ∧ t.wrapper w = { u with status := .doneOccupied, held := none, order := some { o with ack := none, wrap := none } }
      ∧ (∀ v, v ≠ w → t.wrapper v = s.wrapper v) ∧ t.wrap.staging = s.wrap.staging
      ∧ (∀ k, k ≠ p → t.record? k = s.record? k)
      ∧ KeepsAllBut ([.records, .loads, .counters, .wrap] ++ derived) s t

/-- FAULT for the held order number with the order sent or the wrap running, DONE of 0 revolutions likewise, and outside a
halt an acknowledge limit that has run out, answer a next state: the wrapper is FAULTED by the code (the FAULT's own,
TURNTABLE, ACK_TIMEOUT), nothing held, limits stopped, and reports FAULTED; the record's wrap attempts have risen by one
and the code is entered in its fault list or counted lost, its stage kept; the wrap faults counter has risen by one, held
at 65,535, its half mark spent with one COUNTER_HALF at 32,768 and kept otherwise; no other counter has changed; with the
queue open WRAP_FAULT is queued with the code and the attempts. Nothing else changes but the derived parts. A limit that
has not run out is nothing. An ACCEPT, DONE or FAULT whose order number, 1 to 255, is not the one its wrapper holds, a
DONE with revolutions and film in range, answers a next state that differs from the one before in the derived parts alone;
with the queue open LATE is queued with the station number and the order number. A number outside 1 to 255, revolutions
above 999 or film above 65,535 dm change nothing. -/
def Obligations.AWrapperFaultOrAStrayAnswer : Prop :=
  (∀ (w : Side) (n film p : Nat) (s : State) (u : WrapperState) (o : Order) (r : Record), s.wrapper w = u → u.order = some o →
      u.pallet = some p → s.record? p = some r →
      (∀ (c : Instr) (k : Code),
        (u.held = some n ∧ 1 ≤ n ∧ n ≤ 255 ∧ (u.status = .running ∨ (u.status = .ordered ∧ o.sent = true)) ∧
            ((c = .fault w n .filmBreak ∧ k = .filmBreak) ∨ (c = .fault w n .tension ∧ k = .tension)
              ∨ (c = .fault w n .turntable ∧ k = .turntable) ∨ (c = .fault w n .guardOpen ∧ k = .guardOpen)
              ∨ (c = .done w n 0 film ∧ film ≤ 65535 ∧ k = .turntable)))
          ∨ (c = .wrapperAckLimitExpiry w ∧ u.status = .ordered ∧ o.ack = some 0 ∧ s.mode.mode ≠ .halted ∧ k = .ackTimeout) →
        ∃ t, exec c s = .next t
          ∧ t.wrap = { s.wrap with wrappers := tset s.wrap.wrappers w.idx { u with
              status := .faulted, cause := some (.code k), held := none, order := some { o with ack := none, wrap := none } } }
          ∧ t.stationState (.wrapper w) = .faulted
          ∧ t.record? p = some { r with
              wrapAttempts := r.wrapAttempts + 1
              faults := if r.faults.length < 4 then r.faults ++ [k] else r.faults
              faultsLost := if r.faults.length < 4 then r.faultsLost else min 255 (r.faultsLost + 1) }
          ∧ (∀ j, j ≠ p → t.record? j = s.record? j)
          ∧ Counted s t .wrapFaults ∧ (∀ k : Counter, k ≠ .wrapFaults → tget t.link.counters k.idx = tget s.link.counters k.idx)
          ∧ (QueueOpen s → Reported t .wrapFault fun x => x.track = some p ∧ x.load = r.ref.map (·.load) ∧ x.detail = k.number
              ∧ x.value = some ((r.wrapAttempts + 1 : Nat) : Int))
          ∧ KeepsAllBut ([.records, .counters, .wrap] ++ derived) s t)
      ∧ (∀ a, o.ack = some (a + 1) → exec (.wrapperAckLimitExpiry w) s = .next s))
  ∧ (∀ (w : Side) (n turns film : Nat) (f : WrapFault) (s : State),
      (1 ≤ n → n ≤ 255 → (s.wrapper w).held ≠ some n → ∀ c : Instr,
        c = .accept w n ∨ (c = .done w n turns film ∧ turns ≤ 999 ∧ film ≤ 65535) ∨ c = .fault w n f →
        ∃ t, exec c s = .next t ∧ KeepsAllBut derived s t
          ∧ (QueueOpen s → Reported t .late fun x =>
              x.detail = w.number + 1 ∧ x.value = some (n : Int) ∧ x.track = none))
      ∧ (n = 0 ∨ 255 < n → ∀ c : Instr, c = .accept w n ∨ c = .done w n turns film ∨ c = .fault w n f → exec c s = .next s)
      ∧ (999 < turns ∨ 65535 < film → exec (.done w n turns film) s = .next s))

/-- WRAP_LIMIT_EXPIRY of a RUNNING wrapper whose limit has run out, outside a halt, answers a next state: the wrapper is
STALLED with its order number still held; the record is WRAP_FAILED with WRAP_TIMEOUT, without a load reference and
WRAPPED; its slot is EXPECTED with one reject more, and REJECT with the load reference released, WRAP_FAILED and the
reject count is queued when the queue is open; it is last in the label order list; the wrap faults counter has risen by
one, its half mark spent with one COUNTER_HALF at 32,768 and kept otherwise; no other counter has changed. For a STALLED
wrapper a DONE of the held number, of any revolutions up to 999, writes the film length alone and makes the wrapper
DONE_OCCUPIED; a FAULT enters its code and makes it FAULTED; each with LATE, nothing held after; ACCEPT is nothing. A
limit that has not run out is nothing. That the WRAP_FAULT report carries the track number, and that a DONE of any
revolutions is late, are the readings of log entries 18 and 19. -/
def Obligations.TheWrapLimitStallsTheWrapper : Prop :=
  ∀ (w : Side) (n turns film p : Nat) (s : State) (u : WrapperState) (o : Order) (r : Record), s.wrapper w = u →
    u.order = some o → u.pallet = some p → s.record? p = some r →
    (u.status = .running → o.wrap = some 0 → s.mode.mode ≠ .halted →
      ∃ t, exec (.wrapLimitExpiry w) s = .next t
        ∧ t.wrapper w = { u with status := .stalled, order := some { o with ack := none, wrap := none } }
        ∧ (∀ v, v ≠ w → t.wrapper v = s.wrapper v) ∧ t.wrap.staging = s.wrap.staging
        ∧ t.wrap.labelOrder = s.wrap.labelOrder ++ [⟨p, w, true⟩] ∧ t.stationState (.wrapper w) = .stalled
        ∧ t.record? p = some { r with
            verdict := some .wrapFailed, ref := none, stage := .wrapped
            faults := if r.faults.length < 4 then r.faults ++ [.wrapTimeout] else r.faults
            faultsLost := if r.faults.length < 4 then r.faultsLost else min 255 (r.faultsLost + 1) }
        ∧ (∀ j, j ≠ p → t.record? j = s.record? j)
        ∧ (∀ ref sl, r.ref = some ref → s.slot? ref = some sl →
            t.slot? ref = some { sl with state := .expected, claimant := none, rejects := min 255 (sl.rejects + 1) }
              ∧ (QueueOpen s → Reported t .reject fun x => x.track = some p ∧ x.load = some ref.load ∧ x.position = some ref.position
                  ∧ x.detail = Code.wrapFailed.number ∧ x.value = some ((min 255 (sl.rejects + 1) : Nat) : Int)))
        ∧ Counted s t .wrapFaults ∧ (∀ k : Counter, k ≠ .wrapFaults → tget t.link.counters k.idx = tget s.link.counters k.idx)
        ∧ (QueueOpen s → Reported t .wrapFault fun x => x.track = some p ∧ x.detail = Code.wrapTimeout.number)
        ∧ (QueueOpen s → Reported t .reject fun x =>
            x.track = some p ∧ x.load = r.ref.map (·.load) ∧ x.detail = Code.wrapFailed.number)
        ∧ KeepsAllBut ([.records, .loads, .counters, .wrap] ++ derived) s t)
    ∧ (∀ a, o.wrap = some (a + 1) → exec (.wrapLimitExpiry w) s = .next s)
    ∧ (u.status = .stalled → u.held = some n → 1 ≤ n → n ≤ 255 →
        exec (.accept w n) s = .next s
        ∧ (turns ≤ 999 → film ≤ 65535 →
          ∃ t, exec (.done w n turns film) s = .next t
            ∧ t.wrap = { s.wrap with wrappers := tset s.wrap.wrappers w.idx { u with status := .doneOccupied, held := none } }
            ∧ t.record? p = some { r with filmLength := some film } ∧ (∀ j, j ≠ p → t.record? j = s.record? j)
            ∧ (QueueOpen s → Reported t .late fun x => x.track = some p ∧ x.detail = w.number + 1 ∧ x.value = some (film : Int))
            ∧ KeepsAllBut ([.records, .wrap] ++ derived) s t)
        ∧ (∀ f k, (f, k) ∈ [(WrapFault.filmBreak, Code.filmBreak), (.tension, .tension), (.turntable, .turntable),
              (.guardOpen, .guardOpen)] →
          ∃ t, exec (.fault w n f) s = .next t
            ∧ t.wrap = { s.wrap with wrappers := tset s.wrap.wrappers w.idx { u with
                status := .faulted, cause := some (.code k), held := none } }
            ∧ t.record? p = some { r with
                faults := if r.faults.length < 4 then r.faults ++ [k] else r.faults
                faultsLost := if r.faults.length < 4 then r.faultsLost else min 255 (r.faultsLost + 1) }
            ∧ (∀ j, j ≠ p → t.record? j = s.record? j)
            ∧ (QueueOpen s → Reported t .late fun x => x.track = some p ∧ x.detail = w.number + 1)
            ∧ KeepsAllBut ([.records, .wrap] ++ derived) s t))

/-- For an addressed STATION_RESUME of wrapper 1 or 2, FAULTED by ACK_TIMEOUT or a FAULT code with its pallet WRAPPING: below
WRAP_ATTEMPTS the wrapper is ORDERED with its order in hand anew, sent at once under the next number in RUN or DRAIN and
waiting otherwise; at or above, it is DONE_OCCUPIED and the pallet WRAP_FAILED and WRAPPED without a load reference, its slot
EXPECTED with one reject more, last in the label order list, with no further fault or count. With its pallet no longer
WRAPPING it is DONE_OCCUPIED. FAULTED by a lost move it is ORDERED when the pallet has since come in, and IDLE otherwise; with
no pallet it is IDLE. A STALLED one is DONE_OCCUPIED, nothing held, ABORT and the reply the only messages sent. For an
addressed STATION_RESUME of a FAULTED LABEL: after PRINT_TIMEOUT the purge is PENDING, or still RUNNING, and the condition
stays; after APPLY_TIMEOUT likewise, and the label unit's pallet, with label attempts at most LABEL_RETRIES, is in PRINT_WAIT
with its faces PENDING, and with more is LABEL_FAILED: TO_REJECT without a load reference, its slot EXPECTED with one reject
more, the label failures counter one higher, passed on to the finish reject spur or BLOCKED. After a lost move the fault alone
goes. A pallet ARRIVED begins its work: a passing one in PRINT_WAIT, a WRAP_FAILED one TO_REJECT and passed on. That a wrapper
resumed to IDLE keeps its idle-since time is log entry 29. -/
def Obligations.WrappersAndTheLabelUnitAreResumed : Prop :=
  (∀ (q : Req) (w : Side) (s : State) (u : WrapperState) (done : Message), Addressed q s → s.wrapper w = u →
      done = .reply s.link.address 0xB1 .ok (.station .working) →
      ∃ t, exec (.stationResume q (w.number + 1)) s = .next t ∧ (∀ v, v ≠ w → t.wrapper v = s.wrapper v)
        ∧ (u.status = .stalled → t.sent = s.sent ++ [.abort w, done] ∧ RequestKeeps [.wrap] s t
            ∧ t.wrapper w = { u with
                status := .doneOccupied, cause := none, held := none
                order := u.order.map fun o => { o with ack := none, wrap := none } }
            ∧ t.wrap.labelOrder = s.wrap.labelOrder)
        ∧ (u.status = .faulted → u.pallet.bind s.record? = none →
            t.wrapper w = { u with status := .idle, cause := none } ∧ Replied s t 0x31 .ok (.station .working)
            ∧ RequestKeeps [.wrap] s t)
        ∧ (∀ n r o, u.status = .faulted → u.pallet = some n → s.record? n = some r → u.order = some o →
            (∀ k, u.cause = some (.code k) →
              (r.stage = .wrapping → r.wrapAttempts < s.setting .wrapAttempts → OrderedWith s t w o [done]
                ∧ t.wrap.labelOrder = s.wrap.labelOrder ∧ RequestKeeps [.wrap] s t)
              ∧ (r.stage = .wrapping → s.setting .wrapAttempts ≤ r.wrapAttempts →
                t.record? n = some { r with verdict := some .wrapFailed, ref := none, stage := .wrapped }
                ∧ (∀ k, k ≠ n → t.record? k = s.record? k)
                ∧ (∀ ref sl, r.ref = some ref → s.slot? ref = some sl → t.slot? ref = some sl.rejected)
                ∧ (r.ref = none → t.plan.loads = s.plan.loads)
                ∧ t.wrap.labelOrder = s.wrap.labelOrder ++ [⟨n, w, true⟩]
                ∧ (QueueOpen s → Reported t .reject fun x =>
                    x.track = some n ∧ x.load = r.ref.map (·.load) ∧ x.detail = Code.wrapFailed.number))
              ∧ (r.stage ≠ .wrapping → t.wrap.labelOrder = s.wrap.labelOrder ∧ RequestKeeps [.wrap] s t)
              ∧ (r.stage ≠ .wrapping ∨ s.setting .wrapAttempts ≤ r.wrapAttempts →
                t.wrapper w = { u with
                  status := .doneOccupied, cause := none, held := none, order := some { o with ack := none, wrap := none } }
                ∧ Replied s t 0x31 .ok (.station .working)))
            ∧ (u.cause = some .move →
              (n ∈ (s.place (.wrapper w)).occupants → OrderedWith s t w o [done] ∧ RequestKeeps [.wrap] s t)
              ∧ (n ∉ (s.place (.wrapper w)).occupants → t.wrapper w = { u with status := .idle, cause := none }
                  ∧ Replied s t 0x31 .ok (.station .working) ∧ RequestKeeps [.wrap] s t)))
        ∧ RequestKeeps [.wrap, .records, .loads] s t)
  ∧ (∀ (q : Req) (s : State) (cause : LabelCause) (purge : Purge), Addressed q s → s.label.fault = some cause →
      purge = (if cause = .move then s.label.purge else if s.label.purge = .running then .running else .pending) →
      ∃ t, exec (.stationResume q 4) s = .next t ∧ t.label.fault = none ∧ t.label.purge = purge
        ∧ t.label.jobs = s.label.jobs ∧ t.label.pallet = s.label.pallet
        ∧ Replied s t 0x31 .ok (.station (t.stationState .label))
        ∧ (s.label.condition ≠ .arrived → cause ≠ .applyTimeout ∨ s.label.pallet = none →
            t.label = { s.label with fault := none, purge := purge, print := t.label.print } ∧ RequestKeeps [.label] s t)
        ∧ (∀ p r, cause = .applyTimeout → s.label.pallet = some p → s.record? p.track = some r →
            s.label.condition ≠ .arrived →
            (r.labelAttempts ≤ s.setting .labelRetries → t.label.condition = .printWait ∧ t.label.faceA = .pending
              ∧ t.label.faceB = .pending ∧ RequestKeeps [.label] s t)
            ∧ (s.setting .labelRetries < r.labelAttempts → s.move? p.track = none → LabelGivenUp s t r))
        ∧ (∀ p r, cause ≠ .applyTimeout → s.label.pallet = some p → s.label.condition = .arrived → s.record? p.track = some r →
            s.move? p.track = none → LabelWorkBegun s t r p.failed)
        ∧ (∀ k, s.label.pallet.map (·.track) ≠ some k → t.record? k = s.record? k ∧ t.move? k = s.move? k)
        ∧ RequestKeeps [.label, .records, .loads, .counters, .moves, .places] s t)

/-- With the head entry of the label order list on a DONE_OCCUPIED wrapper, its record standing there without a move, room in
LABEL and the label unit free (EMPTY, no fault, label exit clear), exec answers a next state in which its move waits in the
list, the record is moving to LABEL and LABEL holds its incoming entry, the list itself unchanged. With the list empty, the
head's wrapper in another state, no room, or a label unit not free, nothing changes. With the label unit BLOCKED and its
pallet standing on it without a move, LABEL_REJECT_MOVE with room in the finish reject spur answers a next state in which the
condition is REJECTING, the move to the spur waits in the list, the record is moving there and the spur holds its incoming
entry; nothing else changes but the derived parts. With no room, or another condition, nothing changes. -/
def Obligations.PalletsMoveInAndOutOfTheLabelUnit : Prop :=
  (∀ s : State,
      (∀ (e : LabelEntry) rest (r : Record), s.wrap.labelOrder = e :: rest → s.record? e.track = some r →
        r.location = .wrapper e.wrapper → s.move? e.track = none →
        ((s.wrapper e.wrapper).status = .doneOccupied → s.hasRoom .label = true → s.label.condition = .empty →
          s.label.fault = none → s.input .labelExit = false →
          ∃ t, exec .labelOrderMove s = .next t
            ∧ t.move? e.track = some ⟨e.track, .wrapper e.wrapper, .label, .centre, .waiting, 0, 0, false⟩
            ∧ t.record? e.track = some { r with movingTo := some .label }
            ∧ t.place .label = { s.place .label with incoming := (s.place .label).incoming ++ [e.track] }
            ∧ (∀ p, p ≠ .label → t.place p = s.place p)
            ∧ (∀ j, j ≠ e.track → t.record? j = s.record? j ∧ t.move? j = s.move? j)
            ∧ KeepsAllBut ([.moves, .records, .places] ++ derived) s t)
        ∧ ((s.wrapper e.wrapper).status ≠ .doneOccupied ∨ s.hasRoom .label = false ∨ s.label.condition ≠ .empty
            ∨ s.label.fault.isSome = true ∨ s.input .labelExit = true → exec .labelOrderMove s = .next s))
      ∧ (s.wrap.labelOrder = [] → exec .labelOrderMove s = .next s))
  ∧ (∀ (s : State) (p : LabelPallet) (r : Record), s.label.pallet = some p → s.record? p.track = some r → r.location = .label →
      s.move? p.track = none →
      (s.label.condition = .blocked → s.hasRoom (.spur .finish) = true →
        ∃ t, exec .labelRejectMove s = .next t
          ∧ t.label = { s.label with condition := .rejecting, print := t.label.print }
          ∧ t.move? p.track = some ⟨p.track, .label, .spur .finish, .centre, .waiting, 0, 0, false⟩
          ∧ t.record? p.track = some { r with movingTo := some (.spur .finish) }
          ∧ t.place (.spur .finish) = { s.place (.spur .finish) with incoming := (s.place (.spur .finish)).incoming ++ [p.track] }
          ∧ (∀ k, k ≠ .spur .finish → t.place k = s.place k)
          ∧ (∀ k, k ≠ p.track → t.record? k = s.record? k ∧ t.move? k = s.move? k)
          ∧ KeepsAllBut ([.label, .moves, .records, .places] ++ derived) s t)
      ∧ (s.label.condition ≠ .blocked ∨ s.hasRoom (.spur .finish) = false → exec .labelRejectMove s = .next s))

/-- In RUN or DRAIN, LABEL not FAULTED, no purge, no job SENT and fewer jobs than PRINTER_DEPTH, JOB_SEND for the pallet whose
job is due, with its record, load and slot, answers a next state in which the job is last in the list, SENT, under the next
job number, which the record takes and the counter moves on from, 255 being followed by 1; the acknowledge limit runs at
ACK_LIMIT; JOB has been sent with the tag, load reference, planned count, ship date, line identity, shipped gross and planned
net as text, recipe number and text lines. Nothing else changes but the derived parts. With one of the conditions missing, or
no job due, nothing changes. With the pallet of the label unit in PRINT_WAIT and its job PRINTED, in RUN or DRAIN, LABEL not
FAULTED, no purge, APPLY_SEND answers a next state: the condition is APPLYING, the apply limit runs at APPLY_LIMIT, the
record's label attempts are one more and APPLY with the job number has been sent. APPLIED of the pallet's job in APPLYING
takes its job out of the list, makes the condition VERIFYING without an apply limit, and asks scanner 5, when idle, for face
A, sent at once, and then face B, which waits. APPLIED of its job in another condition changes the derived parts alone, with
LATE queued when the queue is open. -/
def Obligations.JobsAreSentAndApplied : Prop :=
  (∀ (s : State),
      (∀ n r ref ld sl, s.mode.mode = .run ∨ s.mode.mode = .drain → s.label.fault = none → s.label.purge = .none →
        (∀ j ∈ s.label.jobs, j.state ≠ .sent) → s.label.jobs.length < s.setting .printerDepth → JobDue s n →
        s.record? n = some r → r.ref = some ref → s.load? ref.load = some ld → s.slot? ref = some sl → sl.net ≤ 2000000 →
        ∃ t f, exec .jobSend s = .next t
          ∧ t.label = { s.label with
              jobs := s.label.jobs ++ [⟨s.label.nextJob, n, .sent⟩]
              nextJob := if 255 ≤ s.label.nextJob then 1 else s.label.nextJob + 1
              ack := some (s.setting .ackLimit), print := t.label.print }
          ∧ t.record? n = some { r with job := some s.label.nextJob } ∧ (∀ k, k ≠ n → t.record? k = s.record? k)
          ∧ t.sent = s.sent ++ [.job f]
          ∧ f.number = s.label.nextJob ∧ f.tag = r.tag ∧ f.ref = some ref ∧ f.planned = ld.planned ∧ f.shipDate = ld.shipDate
          ∧ f.identity = s.link.identity ∧ f.recipe = sl.recipe ∧ f.texts = sl.texts ∧ PrintedMass sl.net f.net
          ∧ (∀ g, r.shippedGross = some g → g ≤ 2329675 → PrintedMass g f.gross)
          ∧ KeepsAllBut ([.label, .records, .sent] ++ derived) s t)
      ∧ (s.working = false ∨ s.label.fault.isSome = true ∨ s.label.purge ≠ .none ∨ (∃ j ∈ s.label.jobs, j.state = .sent)
          ∨ s.setting .printerDepth ≤ s.label.jobs.length ∨ (∀ n, ¬ JobDue s n) → exec .jobSend s = .next s))
  ∧ (∀ (s : State) (p : LabelPallet) (j : Job) (r : Record), s.label.pallet = some p →
      s.label.jobs.find? (fun k => k.track == p.track) = some j → s.record? p.track = some r →
      (s.label.condition = .printWait → j.state = .printed → s.mode.mode = .run ∨ s.mode.mode = .drain → s.label.fault = none →
        s.label.purge = .none →
        ∃ t, exec .applySend s = .next t
          ∧ t.label = { s.label with condition := .applying, apply := some (s.setting .applyLimit), print := t.label.print }
          ∧ t.record? p.track = some { r with labelAttempts := r.labelAttempts + 1 }
          ∧ (∀ k, k ≠ p.track → t.record? k = s.record? k)
          ∧ t.sent = s.sent ++ [.apply j.number] ∧ KeepsAllBut ([.label, .records, .sent] ++ derived) s t)
      ∧ (s.label.condition ≠ .printWait ∨ j.state ≠ .printed ∨ s.working = false ∨ s.label.fault.isSome = true
          ∨ s.label.purge ≠ .none → exec .applySend s = .next s)
      ∧ (1 ≤ j.number → j.number ≤ 255 →
        (s.label.condition = .applying → s.scanner .verify = ⟨none, [], none⟩ →
          ∃ t, exec (.applied j.number) s = .next t
            ∧ t.label = { s.label with
                jobs := s.label.jobs.filter fun k => k.track ≠ p.track
                condition := .verifying, apply := none, ack := t.label.ack, print := t.label.print }
            ∧ t.scanner .verify = ⟨some (⟨p.track, .verify .a⟩, s.setting .ackLimit), [⟨p.track, .verify .b⟩], none⟩
            ∧ (∀ sc, sc ≠ .verify → t.scanner sc = s.scanner sc)
            ∧ t.sent = s.sent ++ [.read .verify (some .a)] ∧ KeepsAllBut ([.label, .scanners, .sent] ++ derived) s t)
        ∧ (s.label.condition ≠ .applying →
          ∃ t, exec (.applied j.number) s = .next t ∧ KeepsAllBut derived s t
            ∧ (QueueOpen s → Reported t .late fun x => x.detail = 4 ∧ x.value = some (j.number : Int)))))

/-- TAKEN of a SENT job makes it TAKEN and stops the acknowledge limit; PRINTED of a SENT or TAKEN job makes it PRINTED, and
stops the acknowledge limit when it was SENT; nothing else changes but the derived parts. TAKEN of a job no longer SENT, and
PRINTED of a PRINTED one, are nothing. TAKEN, PRINTED or APPLIED of a number 1 to 255 not in the list changes the derived
parts alone, with LATE queued when the queue is open; a number out of range is nothing. CANCELLED while a purge is RUNNING
ends it and stops the limit, and is nothing otherwise. With the purge PENDING, the mode RUN or DRAIN, LABEL not FAULTED and
the condition not APPLYING, PURGE_START answers a next state in which the printer job list is empty, the purge is RUNNING, the
acknowledge limit runs at ACK_LIMIT and CANCEL_ALL has been sent; nothing else changes but the derived parts. With one of
these missing nothing changes. -/
def Obligations.ThePrinterAnswersAndIsPurged : Prop :=
  (∀ (n : Nat) (s : State),
      (∀ j, s.label.jobs.find? (fun k => k.number == n) = some j → 1 ≤ n → n ≤ 255 →
        (j.state = .sent →
          ∃ t, exec (.taken n) s = .next t
            ∧ t.label = { s.label with
                jobs := s.label.jobs.map fun k => if k.number = n then { k with state := .taken } else k
                ack := none, print := t.label.print }
            ∧ KeepsAllBut (.label :: derived) s t)
        ∧ (j.state ≠ .sent → exec (.taken n) s = .next s)
        ∧ (j.state ≠ .printed →
          ∃ t, exec (.printed n) s = .next t
            ∧ t.label = { s.label with
                jobs := s.label.jobs.map fun k => if k.number = n then { k with state := .printed } else k
                ack := (if j.state = .sent then none else s.label.ack), print := t.label.print }
            ∧ KeepsAllBut (.label :: derived) s t)
        ∧ (j.state = .printed → exec (.printed n) s = .next s))
      ∧ ((∀ j ∈ s.label.jobs, j.number ≠ n) → 1 ≤ n → n ≤ 255 → ∀ c : Instr, c = .taken n ∨ c = .printed n ∨ c = .applied n →
          ∃ t, exec c s = .next t ∧ KeepsAllBut derived s t
            ∧ (QueueOpen s → Reported t .late fun x => x.detail = 4 ∧ x.value = some (n : Int) ∧ x.track = none))
      ∧ (n = 0 ∨ 255 < n → exec (.taken n) s = .next s ∧ exec (.printed n) s = .next s ∧ exec (.applied n) s = .next s)
      ∧ (s.label.purge = .running →
          ∃ t, exec .cancelled s = .next t ∧ t.label = { s.label with purge := .none, ack := none, print := t.label.print }
            ∧ KeepsAllBut (.label :: derived) s t)
      ∧ (s.label.purge ≠ .running → exec .cancelled s = .next s))
  ∧ (∀ s : State,
      (s.label.purge = .pending → s.mode.mode = .run ∨ s.mode.mode = .drain → s.label.fault = none → s.label.condition ≠ .applying →
        ∃ t, exec .purgeStart s = .next t
          ∧ t.label = { s.label with jobs := [], purge := .running, ack := some (s.setting .ackLimit), print := t.label.print }
          ∧ t.sent = s.sent ++ [.cancelAll] ∧ KeepsAllBut ([.label, .sent] ++ derived) s t)
      ∧ (s.label.purge ≠ .pending ∨ s.working = false ∨ s.label.fault.isSome = true ∨ s.label.condition = .applying →
          exec .purgeStart s = .next s))

/-- While the label unit's pallet is VERIFYING and the read of face B is outstanding with face A's result set, a TAG,
NO_READ, and outside a halt the expiry of the answer limit that has run out, answer a next state. With face A OK and the
digits the record's tag, LABEL_OK: the slot is FINISHED, the record TO_BUFFER, the condition LABELLED, the pallet the
label-exit pallet, and LABEL_DONE queued when the queue is open. Otherwise face A's fault and face B's (MISMATCH_B for
other digits, NO_READ_B for anything else) enter the fault list in that order, or are counted lost, and LABEL_FAULT
carries the first. With label attempts at most LABEL_RETRIES the condition is PRINT_WAIT with the faces PENDING and the
purge PENDING, or still RUNNING; with more the record is LABEL_FAILED and TO_REJECT without a load reference, its slot
EXPECTED with one reject more, REJECT queued with the load reference released, LABEL_FAILED and the reject count when the
queue is open, the label failures counter one higher, held at 65,535, its half mark spent with one COUNTER_HALF at 32,768
and kept otherwise, and it moves to the finish reject spur or waits BLOCKED. No other record, move, counter or scanner
changes, and nothing but what these name and the derived parts. A limit that has not run out is nothing. -/
def Obligations.TheVerifyDecidesTheLabel : Prop :=
  ∀ (s : State) (n left : Nat) (r : Record) (ref : LoadRef) (sl : Slot) (c : Instr) (fb : Option Code) (new : List Code),
    s.label.pallet = some ⟨n, false⟩ → s.label.condition = .verifying →
    (s.scanner .verify).outstanding = some (⟨n, .verify .b⟩, left) → s.label.faceA ≠ .pending →
    s.record? n = some r → r.ref = some ref → s.slot? ref = some sl →
    ((∃ d, c = .tag .verify d ∧ TagDigits d ∧ fb = if r.tag = some d then none else some .mismatchB)
      ∨ (((∃ d, c = .tag .verify d ∧ ¬ TagDigits d) ∨ c = .noRead .verify
          ∨ (c = .answerLimitExpiry .verify ∧ left = 0 ∧ s.mode.mode ≠ .halted)) ∧ fb = some .noReadB)) →
    new = (match s.label.faceA with | .noRead => [.noReadA] | .mismatch => [.mismatchA] | _ => []) ++ fb.toList →
    (0 < left → exec (.answerLimitExpiry .verify) s = .next s)
    ∧ ∃ (t : State) (b : FaceResult), exec c s = .next t
      ∧ b = (match fb with | none => .ok | some .noReadB => .noRead | _ => .mismatch)
      ∧ (t.scanner .verify).outstanding.map (·.1) = (s.scanner .verify).waiting.head?
      ∧ (∀ sc, sc ≠ .verify → t.scanner sc = s.scanner sc) ∧ (∀ k, k ≠ n → t.record? k = s.record? k)
      ∧ (new = [] →
          t.slot? ref = some { sl with state := .finished } ∧ t.record? n = some { r with stage := .toBuffer }
          ∧ t.label = { s.label with condition := .labelled, faceB := b, print := t.label.print }
          ∧ t.buffer = { s.buffer with exitPallet := some n, deadlock := t.buffer.deadlock }
          ∧ (QueueOpen s → Reported t .labelDone fun x => x.track = some n ∧ x.load = some ref.load ∧ x.detail = 1
              ∧ x.value = some (r.labelAttempts : Int))
          ∧ KeepsAllBut ([.label, .records, .loads, .scanners, .sent, .buffer] ++ derived) s t)
      ∧ (∀ first rest, new = first :: rest →
          (QueueOpen s → Reported t .labelFault fun x => x.track = some n ∧ x.load = some ref.load ∧ x.detail = first.number
              ∧ x.value = some (r.labelAttempts : Int))
          ∧ (r.labelAttempts ≤ s.setting .labelRetries →
              t.record? n = some (r.withFaults new)
              ∧ t.label = { s.label with
                  condition := .printWait, faceA := .pending, faceB := .pending
                  purge := (if s.label.purge = .running then .running else .pending), print := t.label.print }
              ∧ KeepsAllBut ([.label, .records, .scanners, .sent] ++ derived) s t)
          ∧ (s.setting .labelRetries < r.labelAttempts → ∃ goes : Bool,
              (goes = true ↔ r.location = .label ∧ s.move? n = none ∧ s.hasRoom (.spur .finish) = true)
              ∧ t.record? n = some { r.withFaults new with
                  stage := .toReject, ref := none, verdict := some .labelFailed
                  movingTo := if goes then some (.spur .finish) else r.movingTo }
              ∧ t.slot? ref = some sl.rejected
              ∧ (QueueOpen s → Reported t .reject fun x => x.track = some n ∧ x.load = some ref.load ∧ x.position = some ref.position
                  ∧ x.detail = Code.labelFailed.number ∧ x.value = some ((min 255 (sl.rejects + 1) : Nat) : Int))
              ∧ Counted s t .labelFailures ∧ (∀ k : Counter, k ≠ .labelFailures → tget t.link.counters k.idx = tget s.link.counters k.idx)
              ∧ t.label = { s.label with faceB := b, condition := (if goes then .rejecting else .blocked), print := t.label.print }
              ∧ (goes = true → MoveAsked s t n .label (.spur .finish) .centre) ∧ (∀ k, k ≠ n → t.move? k = s.move? k)
              ∧ (goes = false → t.field.moves = s.field.moves) ∧ (∀ p, p ≠ .spur .finish ∨ goes = false → t.place p = s.place p)
              ∧ (QueueOpen s → Reported t .reject fun x => x.track = some n ∧ x.load = some ref.load ∧ x.detail = 14)
              ∧ KeepsAllBut ([.label, .records, .loads, .counters, .scanners, .sent, .moves, .places] ++ derived) s t))

/-- Outside a halt, the expiry of the acknowledge limit of a SENT job with no purge RUNNING, of the acknowledge limit of a
RUNNING purge, of the print limit and of the apply limit answer a next state: LABEL is FAULTED with PRINT_TIMEOUT, or
APPLY_TIMEOUT for the apply limit; the job list is empty and its acknowledge limit stopped; a running purge is NONE; the
condition stays. The fault is entered in the record of the job, or of the label unit's pallet, or counted lost. LABEL_FAULT
with the cause is queued when the queue is open. Nothing else changes but the derived parts. A limit that has not run out is
nothing. -/
def Obligations.TheLimitsOfTheLabelUnitFaultIt : Prop :=
  ∀ (s : State) (c : Instr) (k : Nat) (n : Nat) (r : Record), s.record? n = some r → s.mode.mode ≠ .halted →
    (((c = .jobAckLimitExpiry ∧ (∃ j, s.label.jobs.find? (fun j => j.state == .sent) = some j ∧ j.track = n)
          ∧ s.label.purge ≠ .running ∧ s.label.ack = some k)
        ∨ (c = .purgeAckLimitExpiry ∧ s.label.purge = .running ∧ (s.label.pallet.map (·.track)) = some n ∧ s.label.ack = some k)
        ∨ (c = .printLimitExpiry ∧ (s.label.pallet.map (·.track)) = some n ∧ s.label.print = some k)
        ∨ (c = .applyLimitExpiry ∧ (s.label.pallet.map (·.track)) = some n ∧ s.label.apply = some k)) →
      (0 < k → exec c s = .next s)
      ∧ (k = 0 → ∀ cause code, (cause, code) = (if c = .applyLimitExpiry then (LabelCause.applyTimeout, Code.applyTimeout)
            else (.printTimeout, .printTimeout)) →
        ∃ t, exec c s = .next t
          ∧ t.label = { s.label with
              fault := some cause, jobs := [], ack := none
              purge := (if c = .purgeAckLimitExpiry then .none else s.label.purge)
              apply := (if c = .applyLimitExpiry then none else s.label.apply), print := t.label.print }
          ∧ t.stationState .label = .faulted
          ∧ t.record? n = some { r with
              faults := if r.faults.length < 4 then r.faults ++ [code] else r.faults
              faultsLost := if r.faults.length < 4 then r.faultsLost else min 255 (r.faultsLost + 1) }
          ∧ (∀ i, i ≠ n → t.record? i = s.record? i)
          ∧ (QueueOpen s → Reported t .labelFault fun x => x.track = some n ∧ x.detail = code.number
              ∧ x.value = some (r.labelAttempts : Int))
          ∧ KeepsAllBut ([.label, .records] ++ derived) s t))

/-- The check read of the record being checked is outstanding at scanner 4, its tag part PENDING. A TAG of 16 decimal digits,
not all zeros, gives the record its tag: with its slot EXPECTED the slot is CLAIMED, the record has the load reference and the
tag part is PRESENT; with the slot in another state the record is DUPLICATE, with no slot UNPLANNED, and the part FAILED so;
MATCH is queued, with occasion 2, when the queue is open. Any other TAG, NO_READ, and outside a halt the answer limit run out
fail it with NO_TAG. While the mass or the profile part is pending the check goes on, the record otherwise as it was; else the
verdict of R89 is given on the parts and the pallet routed, and a failed tag part is it. A limit that has not run out is
nothing. While the label unit's pallet is VERIFYING with face B PENDING and the read of face A is outstanding at scanner 5, a
TAG of the record's own digits sets face A to OK, one of other 16 decimal digits, not all zeros, to MISMATCH, and any other
TAG, NO_READ, and outside a halt the answer limit run out, to NO_READ. The next read waiting there, that of face B, is sent
with its own limit of ACK_LIMIT. Nothing else changes but the derived parts. A limit that has not run out is nothing. -/
def Obligations.ReadsOfTheCheckAndOfFaceAAreTaken : Prop :=
  (∀ (s : State) (n left : Nat) (r : Record) (k : Check) (c : Instr) (got : Option Text),
      (s.scanner .check).outstanding = some (⟨n, .check⟩, left) → s.check.current = some k → k.track = n → k.tag = .pending →
      s.record? n = some r → r.ref = none → r.mark = none →
      ((∃ d, c = .tag .check d ∧ TagDigits d ∧ got = some d)
        ∨ (((∃ d, c = .tag .check d ∧ ¬ TagDigits d) ∨ c = .noRead .check
            ∨ (c = .answerLimitExpiry .check ∧ left = 0 ∧ s.mode.mode ≠ .halted)) ∧ got = none)) →
      (0 < left → exec (.answerLimitExpiry .check) s = .next s)
      ∧ ∃ (t : State) (a : Record) (part : Part) (outcome : Nat), exec c s = .next t
        ∧ (got = none → a = r ∧ part = .failed .noTag ∧ t.plan.loads = s.plan.loads)
        ∧ (∀ d, got = some d →
            (∀ ref sl, s.tagIndex d = some ref → s.slot? ref = some sl → sl.state = .expected →
              a = { r with tag := some d, ref := some ref } ∧ part = .present ∧ outcome = 1
              ∧ (k.mass = .pending ∨ k.profile = .pending → t.slot? ref = some { sl with state := .claimed, claimant := some n }))
            ∧ (∀ ref sl, s.tagIndex d = some ref → s.slot? ref = some sl → sl.state ≠ .expected →
              a = { r with tag := some d, mark := some .duplicate } ∧ part = .failed .duplicate ∧ outcome = 2
              ∧ t.plan.loads = s.plan.loads)
            ∧ (s.tagIndex d = none →
              a = { r with tag := some d, mark := some .unplanned } ∧ part = .failed .unplanned ∧ outcome = 3
              ∧ t.plan.loads = s.plan.loads)
            ∧ (QueueOpen s → Reported t .matched fun x => x.track = some n ∧ x.detail = outcome ∧ x.value = some 2))
        ∧ (k.mass = .pending ∨ k.profile = .pending →
            t.record? n = some a ∧ t.check = { s.check with current := some { k with tag := part } }
            ∧ (t.scanner .check).outstanding.map (·.1) = (s.scanner .check).waiting.head?
            ∧ KeepsAllBut ([.records, .loads, .scanners, .sent, .check] ++ derived) s t)
        ∧ (k.mass ≠ .pending → k.profile ≠ .pending → t.check.current = none ∧ t.mass.capture = none
            ∧ Judged s t { k with tag := part } a
            ∧ ∃ b, t.record? n = some b ∧ b.tag = a.tag ∧ b.mark = a.mark ∧ b.verdict.isSome = true
              ∧ (∀ v, part = .failed v → b.verdict = some v ∧ b.stage = .toReject ∧ b.ref = none))
        ∧ (∀ j, j ≠ n → t.record? j = s.record? j)
        ∧ KeepsAllBut ([.records, .loads, .scanners, .sent, .check, .mass, .counters, .moves, .places] ++ derived) s t)
  ∧ (∀ (s : State) (n left : Nat) (r : Record) (c : Instr) (face : FaceResult), s.label.condition = .verifying →
      s.label.faceB = .pending → (s.scanner .verify).outstanding = some (⟨n, .verify .a⟩, left) → s.record? n = some r →
      ((∃ d, c = .tag .verify d ∧ TagDigits d ∧ face = if r.tag = some d then .ok else .mismatch)
        ∨ (((∃ d, c = .tag .verify d ∧ ¬ TagDigits d) ∨ c = .noRead .verify
            ∨ (c = .answerLimitExpiry .verify ∧ left = 0 ∧ s.mode.mode ≠ .halted)) ∧ face = .noRead)) →
      (0 < left → exec (.answerLimitExpiry .verify) s = .next s)
      ∧ ∃ t, exec c s = .next t ∧ t.label = { s.label with faceA := face, print := t.label.print }
        ∧ (∀ rest, (s.scanner .verify).waiting = ⟨n, .verify .b⟩ :: rest →
            t.scanner .verify = ⟨some (⟨n, .verify .b⟩, s.setting .ackLimit), rest, none⟩
            ∧ t.sent = s.sent ++ [.read .verify (some .b)])
        ∧ (∀ sc, sc ≠ .verify → t.scanner sc = s.scanner sc)
        ∧ KeepsAllBut ([.label, .scanners, .sent] ++ derived) s t)

/-- In RUN or DRAIN, the shuttle IDLE and not FAULTED and its place FREE, with no lane bound to two loads
(TheTablesStayInRange), a task that R160 gives and every pallet it may give standing in a position or on LABEL without a move,
SHUTTLE_CHOICE answers a next state in which the task of the first applying case is set with the leg PICKUP, its pickup move
waits in the list, and for a STORE the reserved mark of its position is set, for a RELEASE the pallet is last in the release
list and its lane is the lane served last. Nothing else changes but the derived parts. With no case applying, or one of the
conditions missing, nothing changes. -/
def Obligations.TheShuttleTakesTheFirstCase : Prop :=
  ∀ s : State,
    (s.mode.mode = .run ∨ s.mode.mode = .drain → s.buffer.task = none → s.buffer.fault = false → s.placeState .shuttle = .free →
      (∃ r g, ShuttleChosen s r g) →
      (s.plan.loads.filterMap (·.lane)).Nodup →
      (∀ r g, ShuttleChosen s r g → s.record? r.number = some r ∧ s.move? r.number = none
        ∧ (r.location = .label ∨ ∃ p, r.location = .position p)) →
      ∃ t r g, exec .shuttleChoice s = .next t ∧ ShuttleChosen s r g
        ∧ t.move? r.number = some ⟨r.number, r.location, .shuttle, .buffer, .waiting, 0, 0, false⟩
        ∧ t.record? r.number = some { r with movingTo := some .shuttle }
        ∧ t.place .shuttle = { s.place .shuttle with incoming := [r.number] } ∧ (∀ k, k ≠ .shuttle → t.place k = s.place k)
        ∧ (∀ k, k ≠ r.number → t.record? k = s.record? k ∧ t.move? k = s.move? k)
        ∧ (∀ p, g = .store p →
            t.buffer = { s.buffer with
              task := some ⟨r.number, g, .pickup⟩, reserved := tset s.buffer.reserved p (some r.number)
              deadlock := t.buffer.deadlock })
        ∧ (∀ l, g = .release l →
            ReleaseUnderWay s.buffer t.buffer r.number l .pickup ∧ t.buffer.reserved = s.buffer.reserved)
        ∧ KeepsAllBut ([.buffer, .moves, .records, .places] ++ derived) s t)
    ∧ ((∀ r g, ¬ ShuttleChosen s r g) ∨ s.working = false ∨ s.buffer.task.isSome = true ∨ s.buffer.fault = true
        ∨ s.placeState .shuttle ≠ .free → exec .shuttleChoice s = .next s)

/-- For a shuttle CARRYING a record's pallet, its delivery move not in the list and SHUTTLE not FAULTED, DELIVERY_DECISION
answers a next state. A RELEASE asks its lane; without room nothing changes but the derived parts. A STORE of a pallet now
releasable becomes a RELEASE, its marks cleared and the record RELEASING. A STORE not releasable with its position reserved
for it and FREE asks that position. A STORE without that gives up its marks, takes the position R153 then chooses, if any,
reserves it and asks it. A shuttle not waiting, or FAULTED, is left. With no shuttle task, with its leg PICKUP, with the
pallet's move out of SHUTTLE in the list, or with SHUTTLE FAULTED, DELIVERY_DECISION changes nothing. The shuttle loaded
sensor becomes covered while the pickup of the task's pallet, in flight or LOST, from a position or LABEL, is the first move
bound there: the pallet stands on SHUTTLE and has left its place unless late, the leg is DELIVERY, and every place but these
and the one next asked is as it was. With SHUTTLE FAULTED no move is asked. Otherwise a RELEASE asks its lane where it has
room; a STORE of a pallet now releasable becomes a RELEASE, the record RELEASING; one with its position still reserved for it
and FREE asks it; and one from LABEL without that takes the position R153 then chooses, if any. -/
def Obligations.TheDeliveryIsDecided : Prop :=
  (∀ (s : State) (k : ShuttleTask) (r : Record) (u : State), s.buffer.task = some k → k.leg = .delivery → s.buffer.fault = false →
      s.move? k.track = none → s.record? k.track = some r → r.location = .shuttle →
      u = s.modBuffer (fun b => { b with reserved := tmap (fun m => if m = some k.track then none else m) b.reserved }) →
      (∀ l, k.target = .release l →
        (s.hasRoom (.lane l) = true →
          ∃ t, exec .deliveryDecision s = .next t
            ∧ t.move? k.track = some ⟨k.track, .shuttle, .lane l, .lanes, .waiting, 0, 0, false⟩
            ∧ t.buffer = { s.buffer with deadlock := t.buffer.deadlock }
            ∧ KeepsAllBut ([.moves, .records, .places] ++ derived) s t)
        ∧ (s.hasRoom (.lane l) = false → ∃ t, exec .deliveryDecision s = .next t ∧ KeepsAllBut derived s t))
      ∧ (∀ p, k.target = .store p →
        (∀ l, CanRelease s r l →
          ∃ t, exec .deliveryDecision s = .next t
            ∧ ReleaseUnderWay s.buffer t.buffer k.track l .delivery ∧ t.buffer.reserved = u.buffer.reserved
            ∧ t.stageOf k.track = some .releasing
            ∧ (s.hasRoom (.lane l) = true → t.move? k.track = some ⟨k.track, .shuttle, .lane l, .lanes, .waiting, 0, 0, false⟩)
            ∧ KeepsAllBut ([.buffer, .moves, .records, .places] ++ derived) s t)
        ∧ ((∀ l, ¬ CanRelease s r l) → tget s.buffer.reserved p = some k.track → s.placeState (.position p) = .free →
          ∃ t, exec .deliveryDecision s = .next t
            ∧ t.move? k.track = some ⟨k.track, .shuttle, .position p, .buffer, .waiting, 0, 0, false⟩
            ∧ t.buffer = { s.buffer with deadlock := t.buffer.deadlock }
            ∧ KeepsAllBut ([.moves, .records, .places] ++ derived) s t)
        ∧ ((∀ l, ¬ CanRelease s r l) → tget s.buffer.reserved p ≠ some k.track ∨ s.placeState (.position p) ≠ .free →
          (∀ q, PositionChosen u r q →
            ∃ t, exec .deliveryDecision s = .next t
              ∧ t.move? k.track = some ⟨k.track, .shuttle, .position q, .buffer, .waiting, 0, 0, false⟩
              ∧ t.buffer = { u.buffer with
                  reserved := tset u.buffer.reserved q (some k.track), task := some ⟨k.track, .store q, .delivery⟩
                  deadlock := t.buffer.deadlock }
              ∧ KeepsAllBut ([.buffer, .moves, .records, .places] ++ derived) s t)
          ∧ ((∀ q, ¬ PositionChosen u r q) →
            ∃ t, exec .deliveryDecision s = .next t ∧ t.buffer = { u.buffer with deadlock := t.buffer.deadlock }
              ∧ KeepsAllBut (.buffer :: derived) s t))))
  ∧ (∀ s : State, (s.buffer.task = none ∨ (∃ k, s.buffer.task = some k ∧ (k.leg = .pickup
        ∨ ∃ m ∈ s.field.moves, m.track = k.track ∧ m.source = .shuttle)) ∨ s.buffer.fault = true) →
      exec .deliveryDecision s = .next s)
  ∧ (∀ (s : State) (m : Move) (r a : Record) (k : ShuttleTask) (u : State), Senses s .shuttleLoaded true → BoundFor s .shuttle m →
      m.source = .label ∨ (∃ p, m.source = .position p) → s.record? m.track = some r → s.buffer.task = some k → k.track = m.track →
      a = r.arrivedAt m →
      u = s.modBuffer (fun b => { b with reserved := tmap (fun x => if x = some m.track then none else x) b.reserved }) →
      ∃ t, exec (.inputFilterExpiry .shuttleLoaded) s = .next t ∧ StandsIn s t m
        ∧ (∀ j, j ≠ m.track → t.move? j = s.move? j ∧ t.record? j = s.record? j)
        ∧ (m.state = .lost → QueueOpen s → Reported t .late fun x => x.track = some m.track ∧ x.detail = Place.shuttle.number)
        ∧ ((∀ x, t.move? m.track = some x → x.dest ≠ m.source) → SourceAfter s t m)
        ∧ (∀ k, k ≠ .shuttle → k ≠ m.source → (∀ x, t.move? m.track = some x → x.dest ≠ k) → t.place k = s.place k)
        ∧ (m.source = .label → SourceAfter s t m
            ∧ (m.state ≠ .lost → t.buffer.exitPallet = (if s.buffer.exitPallet = some m.track then none else s.buffer.exitPallet)))
        ∧ (s.buffer.fault = true → t.buffer.task = some { k with leg := .delivery } ∧ t.move? m.track = none
            ∧ t.record? m.track = some a ∧ SourceAfter s t m)
        ∧ (∀ l, s.buffer.fault = false → k.target = .release l → t.buffer.task = some { k with leg := .delivery }
            ∧ (s.hasRoom (.lane l) = true → MoveAsked s t m.track .shuttle (.lane l) .lanes
                ∧ t.record? m.track = some { a with movingTo := some (.lane l) })
            ∧ (s.hasRoom (.lane l) = false → t.move? m.track = none))
        ∧ (∀ p, s.buffer.fault = false → k.target = .store p →
            (∀ l, CanRelease s r l → t.stageOf m.track = some .releasing ∧ t.buffer.reserved = u.buffer.reserved
              ∧ ReleaseUnderWay { s.buffer with exitPallet := t.buffer.exitPallet } t.buffer m.track l .delivery
              ∧ (s.hasRoom (.lane l) = true → MoveAsked s t m.track .shuttle (.lane l) .lanes))
            ∧ ((∀ l, ¬ CanRelease s r l) → m.source ≠ .position p → tget s.buffer.reserved p = some m.track →
                s.placeState (.position p) = .free → MoveAsked s t m.track .shuttle (.position p) .buffer
                ∧ t.buffer.task = some { k with leg := .delivery } ∧ t.buffer.reserved = s.buffer.reserved)
            ∧ ((∀ l, ¬ CanRelease s r l) → m.source = .label →
                tget s.buffer.reserved p ≠ some m.track ∨ s.placeState (.position p) ≠ .free →
              (∀ x, PositionChosen u r x → MoveAsked s t m.track .shuttle (.position x) .buffer
                ∧ t.buffer.task = some ⟨m.track, .store x, .delivery⟩
                ∧ t.buffer.reserved = tset u.buffer.reserved x (some m.track))
              ∧ ((∀ x, ¬ PositionChosen u r x) → t.move? m.track = none ∧ t.buffer.task = some { k with leg := .delivery }
                ∧ t.buffer.reserved = u.buffer.reserved)))
        ∧ KeepsAllBut ([.filtered, .timing, .moves, .records, .places, .label, .buffer] ++ derived) s t)

/-- The lane entry's filter runs out to covered while a move from SHUTTLE to that lane, in flight or LOST, is the first
bound there, its record of a FINISHED slot in a lane bound load: a next state follows in which the lane's count is one
more and no other count changes, no record has the number and every other is as it was, the slot is DISPATCHED without a
claimant, no other load changes, no release, forced entry, move or task of the pallet stands and every other move is as it
was, SHUTTLE has lost the pallet (and is clearing while still covered), or is as it was for a LOST move, the lane's place
no longer expects the pallet, every other place is as it was, and with the queue open DISPATCH is queued with the load
reference, the lane and the count, and LATE too for a LOST move. The load is COMPLETE when it holds its planned count and
every slot is then DISPATCHED or SKIPPED. LOAD_COMPLETE is queued, with the load id, the lane and the slots DISPATCHED,
when the load is then COMPLETE, and LANE_CHANGE, with the lane and its state, when the lane's state has changed, each with
the queue open. -/
def Obligations.ADeliveryIntoALaneIsADispatch : Prop :=
  ∀ (l : Lane) (s : State) (m : Move) (r : Record) (ref : LoadRef) (ld : Load) (sl : Slot),
    tget s.field.timing (Input.laneEntry l).idx = some 0 → s.rawLevel (.laneEntry l) = true →
    s.field.moves.find? (fun k => k.dest == .lane l && k.state != .waiting) = some m → m.source = .shuttle →
    s.record? m.track = some r → r.ref = some ref → s.load? ref.load = some ld → s.slot? ref = some sl → sl.state = .finished →
    ld.status = .bound →
    ∃ (t : State) (after : Load), exec (.inputFilterExpiry (.laneEntry l)) s = .next t
      ∧ (tget t.lanes l).count = (tget s.lanes l).count + 1
      ∧ (∀ k, k ≠ l → (tget t.lanes k).count = (tget s.lanes k).count)
      ∧ t.record? m.track = none ∧ (∀ k, k ≠ m.track → t.record? k = s.record? k)
      ∧ t.slot? ref = some { sl with state := .dispatched, claimant := none }
      ∧ t.load? ref.load = some after
      ∧ after.status = (if ld.slots.length = ld.planned ∧ ∀ x ∈ after.slots, x.state = .dispatched ∨ x.state = .skipped
          then .complete else .bound)
      ∧ (∀ k, k ≠ ref.load → t.load? k = s.load? k)
      ∧ SourceAfter s t m
      ∧ t.place (.lane l) = { s.place (.lane l) with
          incoming := (s.place (.lane l)).incoming.filter (· != m.track)
          occupants := (s.place (.lane l)).occupants.filter (· != m.track) }
      ∧ (∀ k, k ≠ .shuttle → k ≠ .lane l → t.place k = s.place k)
      ∧ t.move? m.track = none ∧ (∀ k, k ≠ m.track → t.move? k = s.move? k) ∧ (∀ x ∈ t.buffer.releases, x.track ≠ m.track) ∧ m.track ∉ t.buffer.forced
      ∧ (∀ k, t.buffer.task = some k → k.track ≠ m.track)
      ∧ (QueueOpen s → Reported t .dispatch fun x => x.track = some m.track ∧ x.load = some ref.load
          ∧ x.position = some ref.position ∧ x.detail = l.val + 1 ∧ x.value = some (((tget s.lanes l).count + 1 : Nat) : Int))
      ∧ (m.state = .lost → QueueOpen s → Reported t .late fun x => x.track = some m.track ∧ x.detail = (Place.lane l).number)
      ∧ (after.status = .complete → QueueOpen s → Reported t .loadComplete fun x => x.load = some ref.load
          ∧ x.detail = laneNumber ld.lane ∧ x.value = some ((after.slots.filter (·.state == .dispatched)).length : Int))
      ∧ (tget t.lanes l).status = t.laneStatus l
      ∧ ((tget t.lanes l).status ≠ (tget s.lanes l).status → QueueOpen s → Reported t .laneChange fun x =>
          x.detail = l.val + 1 ∧ x.value = some (tget t.lanes l).status.number)
      ∧ KeepsAllBut ([.filtered, .timing, .lanes, .records, .loads, .moves, .places, .scanners, .sent, .check, .mass, .wrap, .label,
          .buffer] ++ derived) s t

/-- For an addressed FORCE_RELEASE exec answers a next state. A track number no record has is refused with UNKNOWN_PALLET,
a record not HELD with BAD_ARGUMENT, one whose load is not bound with NOT_BOUND. A HELD one whose load is bound to a lane
is in the forced list, at its end when it was not there before, and OK is the only message sent, with the lane's number
and whether the pallet is then releasable; nothing else changes but the derived parts. For an addressed LANE_HALT or
LANE_RESUME of a lane 1 to 6 exec answers a next state in which the lane's halt flag is set, or clear, and every other
halt flag and every count is as it was; the lane's state is the one R155 derives then, UNBOUND without a bound load, else
HALTED while halted, and OK with it is the only message sent; no pallet is releasable into a halted lane. When that state
is not the one the lane had, LANE_CHANGE is queued with the lane number, the state and the load id of the bound load, if
any, when the queue is open. Another lane number is refused with BAD_ARGUMENT and changes nothing. That the forced list
takes a 17th number is the model's choice, log entry 52. -/
def Obligations.LanesAreForcedHaltedAndResumed : Prop :=
  (∀ (q : Req) (n : Nat) (s : State), Addressed q s →
      (s.record? n = none → exec (.forceRelease q n) s = .next (s.answers 0x38 .unknownPallet .nothing))
      ∧ ∀ r, s.record? n = some r →
        (r.stage ≠ .held → exec (.forceRelease q n) s = .next (s.answers 0x38 .badArgument .nothing))
        ∧ (r.stage = .held → (∀ ref ld l, ¬ LaneOf s r ref ld l) →
            exec (.forceRelease q n) s = .next (s.answers 0x38 .notBound .nothing))
        ∧ (r.stage = .held → ∀ ref ld l, LaneOf s r ref ld l →
            ∃ t u now, exec (.forceRelease q n) s = .next t
              ∧ u = s.modBuffer (fun b => { b with forced := if n ∈ b.forced then b.forced else b.forced ++ [n] })
              ∧ t.buffer = { u.buffer with deadlock := t.buffer.deadlock } ∧ (now = true ↔ CanRelease u r l)
              ∧ Replied s t 0x38 .ok (.forced (l.val + 1) now) ∧ RequestKeeps [.buffer] s t))
  ∧ (∀ (q : Req) (n : Nat) (halt : Bool) (c : Instr) (kind : Nat) (s : State), Addressed q s →
      (c = .laneHalt q n ∧ halt = true ∧ kind = 0x39) ∨ (c = .laneResume q n ∧ halt = false ∧ kind = 0x3A) →
      (∀ l : Lane, n = l.val + 1 →
        ∃ t st, exec c s = .next t
          ∧ (tget t.lanes l).halt = halt ∧ (∀ k, k ≠ l → (tget t.lanes k).halt = (tget s.lanes k).halt)
          ∧ (∀ k, (tget t.lanes k).count = (tget s.lanes k).count)
          ∧ ((∀ ld ∈ s.plan.loads, ld.lane ≠ some l) → st = .unbound)
          ∧ (halt = true → ∀ r, ¬ CanRelease t r l)
          ∧ ((∃ ld ∈ s.plan.loads, ld.lane = some l) →
              st = (if halt then .halted else if s.input (.laneDoor l) = false then .doorShut
                    else if (tget s.lanes l).count = 3 then .full else .ready))
          ∧ (tget t.lanes l).status = st ∧ Replied s t kind .ok (.lane st) ∧ RequestKeeps [.lanes] s t
          ∧ ((tget s.lanes l).status ≠ st → QueueOpen s → Reported t .laneChange fun x =>
              x.detail = l.val + 1 ∧ x.value = some st.number ∧ x.load = (s.boundLoad l).map (·.id)))
      ∧ (n = 0 ∨ 6 < n → exec c s = .next (s.answers kind .badArgument .nothing)))

/-- For an addressed SET_MODE exec answers a next state. RUN in STOPPED or DRAIN with the line identity present makes the mode
RUN and the drain limit absent. DRAIN in RUN makes the mode DRAIN with the limit at DRAIN_LIMIT, or STOPPED when the drain
test then passes. STOP in RUN or DRAIN makes the mode STOPPING, or STOPPED when the line is then quiet, the drain limit
absent. Every wake hold is abandoned, and in STOPPED with AUTO_WAKE on one starts for each enabled infeed whose entry sensor
is covered. The saved mode stays, the last message sent is OK with the mode after the request, and MODE_CHANGE with cause 1 is
queued when the queue is open. RUN without identity is refused with NO_IDENTITY, and a mode the table does not pair with
WRONG_MODE: nothing changes. -/
def Obligations.SetModeRunsDrainsAndStops : Prop :=
  ∀ (q : Req) (s : State), Addressed q s →
    ((s.mode.mode = .stopped ∨ s.mode.mode = .drain) → s.link.identity.isSome = true →
      ∃ t, exec (.setModeRun q) s = .next t ∧ t.mode = { s.mode with mode := .run, drain := none }
        ∧ t.link.answering = true ∧ t.sent.getLast? = some (.reply s.link.address 0xC0 .ok (.mode .run))
        ∧ (QueueOpen s → Reported t .modeChange fun x => x.detail = 1 ∧ x.value = some 1)
        ∧ WakesAnew t
        ∧ RequestKeeps [.mode, .wakeHolds, .entryTaken, .places, .moves, .records, .nextNumber, .scanners, .merge, .check] s t)
    ∧ ((s.mode.mode = .stopped ∨ s.mode.mode = .drain) → s.link.identity = none →
        exec (.setModeRun q) s = .next (s.answers 0x40 .noIdentity .nothing))
    ∧ (s.mode.mode ≠ .stopped → s.mode.mode ≠ .drain → exec (.setModeRun q) s = .next (s.answers 0x40 .wrongMode .nothing))
    ∧ (s.mode.mode = .run →
        ∃ t, exec (.setModeDrain q) s = .next t
          ∧ ((¬ WorkedOff t ∧ t.mode = { s.mode with mode := .drain, drain := some (s.setting .drainLimit) })
              ∨ (WorkedOff t ∧ t.mode = { s.mode with mode := .stopped, drain := none }))
          ∧ Replied s t 0x40 .ok (.mode t.mode.mode)
          ∧ (QueueOpen s → Reported t .modeChange fun x => x.detail = 2 ∧ x.value = some 1)
          ∧ WakesAnew t
          ∧ RequestKeeps [.mode, .wakeHolds, .places, .moves, .records, .merge, .check] s t)
    ∧ (s.mode.mode ≠ .run → exec (.setModeDrain q) s = .next (s.answers 0x40 .wrongMode .nothing))
    ∧ (s.mode.mode = .run ∨ s.mode.mode = .drain →
        ∃ t, exec (.setModeStop q) s = .next t
          ∧ ((¬ Quiet s ∧ t.mode = { s.mode with mode := .stopping, drain := none })
              ∨ (Quiet s ∧ t.mode = { s.mode with mode := .stopped, drain := none }))
          ∧ Replied s t 0x40 .ok (.mode t.mode.mode)
          ∧ (QueueOpen s → Reported t .modeChange fun x => x.detail = 3 ∧ x.value = some 1)
          ∧ (QueueOpen s → Quiet s → Reported t .modeChange fun x => x.detail = 0 ∧ x.value = some 5)
          ∧ WakesAnew t
          ∧ RequestKeeps [.mode, .wakeHolds] s t)
    ∧ (s.mode.mode ≠ .run → s.mode.mode ≠ .drain → exec (.setModeStop q) s = .next (s.answers 0x40 .wrongMode .nothing))

/-- DRAIN_COMPLETED in DRAIN with the drain test passing, and STOP_COMPLETED in STOPPING with the line quiet, make the mode
STOPPED and the drain limit absent, with MODE_CHANGE cause 3 or 5, and with AUTO_WAKE on the wake hold of each enabled infeed
whose entry sensor is covered starts; otherwise they are nothing. DRAIN_LIMIT_EXPIRY in DRAIN with the limit run out makes the
mode RUN and the limit absent, with MODE_CHANGE cause 4 and DRAIN_FAILED: its value the number of records neither HELD nor in
a spur, its detail 1 when there are such records and 2 when there are none and a move waits or the line is not quiet.
WAKE_HOLD_EXPIRY in STOPPED of a hold that has run out abandons every hold, and with the line identity makes the mode RUN with
cause 2. The reports are queued when the queue is open. -/
def Obligations.DrainsStopsAndWakesEnd : Prop :=
  ∀ (s : State) (i : Infeed),
    (∀ c cause, (c = .drainCompleted ∧ cause = 3 ∧ s.mode.mode = .drain ∧ WorkedOff s)
        ∨ (c = .stopCompleted ∧ cause = 5 ∧ s.mode.mode = .stopping ∧ Quiet s) →
      ∃ t, exec c s = .next t ∧ t.mode = { s.mode with mode := .stopped, drain := none }
        ∧ (QueueOpen s → Reported t .modeChange fun x => x.detail = 0 ∧ x.value = some cause)
        ∧ (∀ j, WakeStarts t j (tget s.field.wakeHolds j.idx))
        ∧ KeepsAllBut ([.mode, .wakeHolds] ++ derived) s t)
    ∧ (s.mode.mode ≠ .drain ∨ ¬ WorkedOff s → exec .drainCompleted s = .next s)
    ∧ (s.mode.mode ≠ .stopping ∨ ¬ Quiet s → exec .stopCompleted s = .next s)
    ∧ (s.mode.mode = .drain → s.mode.drain = some 0 →
        ∃ t rest, exec .drainLimitExpiry s = .next t ∧ t.mode = { s.mode with mode := .run, drain := none }
          ∧ (QueueOpen s → Reported t .modeChange fun x => x.detail = 1 ∧ x.value = some 4)
          ∧ (∀ r, r ∈ rest ↔ r ∈ s.track.records ∧ ¬ AtRest s r) ∧ rest.Sublist s.track.records
          ∧ (QueueOpen s → Reported t .drainFailed fun x => x.value = some (rest.length : Int)
              ∧ (rest ≠ [] → x.detail = 1)
              ∧ (rest = [] → (∃ m ∈ s.field.moves, m.state = .waiting) ∨ ¬ Quiet s → x.detail = 2))
          ∧ WakesAnew t
          ∧ KeepsAllBut ([.mode, .wakeHolds, .entryTaken, .places, .moves, .records, .nextNumber, .scanners, .sent, .merge, .check,
              .freeDraws] ++ derived) s t)
    ∧ (s.mode.mode ≠ .drain ∨ s.mode.drain ≠ some 0 → exec .drainLimitExpiry s = .next s)
    ∧ (tget s.field.wakeHolds i.idx = some 0 → s.mode.mode = .stopped →
        ∃ t, exec (.wakeHoldExpiry i) s = .next t ∧ t.field.wakeHolds = Vector.replicate 3 none
          ∧ (s.link.identity.isSome = true → t.mode = { s.mode with mode := .run, drain := none }
              ∧ (QueueOpen s → Reported t .modeChange fun x => x.detail = 1 ∧ x.value = some 2)
              ∧ KeepsAllBut ([.mode, .wakeHolds, .entryTaken, .places, .moves, .records, .nextNumber, .scanners, .sent, .merge,
                  .check] ++ derived) s t)
          ∧ (s.link.identity = none → KeepsAllBut [.wakeHolds] s t))
    ∧ (tget s.field.wakeHolds i.idx ≠ some 0 ∨ s.mode.mode ≠ .stopped → exec (.wakeHoldExpiry i) s = .next s)

/-- ESTOP becoming active outside HALTED answers a next state: the mode in force is saved, the mode HALTED; no zone is
driven, and gate, car and shuttle are not; HOLD is sent to both wrappers and the printer; an open capture's window is
empty; the wake holds are abandoned; the fault beacon shows FLASH_FAST; MODE_CHANGE 4 with cause 6 is queued when the
queue is open. In HALTED it only sets the input. An addressed RESUME in HALTED with ESTOP inactive restores the saved
mode, absent after; STOPPING becomes STOPPED when quiet and DRAIN when worked off; CONTINUE is sent to wrapper 1, wrapper
2 and the printer in that order, and only the messages that R29 calls for and the reply after it; each settle, zero and
deferral deadline falls its remaining time from now (that this holds of a settle end passed before the halt is log entry
55); wake holds start as in R33 where the line is then in STOPPED; MODE_CHANGE with cause 7 is queued. Outside HALTED it
is refused with WRONG_MODE, with ESTOP active with ESTOP_ACTIVE. The reply carries the saved mode even when the line
enters STOPPED (log entry 38). -/
def Obligations.EstopHaltsAndResumeRestores : Prop :=
  ∀ (q : Req) (s : State),
    (s.field.estop = false → s.mode.mode ≠ .halted →
      ∃ t, exec .estop s = .next t ∧ t.mode = { s.mode with mode := .halted, saved := some s.mode.mode }
        ∧ t.field.estop = true ∧ (∀ z, (t.zone z).drive = false) ∧ t.field.gateDrive = none ∧ t.field.car = none
        ∧ t.field.shuttleDrive = none
        ∧ t.sent = s.sent ++ [.hold (.wrapper .one), .hold (.wrapper .two), .hold .printer]
        ∧ t.mass = { s.mass with capture := s.mass.capture.map fun c => { c with window := [] } }
        ∧ t.field.wakeHolds = Vector.replicate 3 none ∧ (tget t.field.lamps Lamp.fault.idx).pattern = .flashFast
        ∧ (QueueOpen s → Reported t .modeChange fun x => x.detail = 4 ∧ x.value = some 6)
        ∧ KeepsAllBut ([.mode, .estop, .mass, .wakeHolds, .sent] ++ derived) s t)
    ∧ (s.field.estop = true → exec .estop s = .next s)
    ∧ (s.field.estop = false → s.mode.mode = .halted →
        exec .estop s = .next (s.modField fun u => { u with estop := true }))
    ∧ (Addressed q s →
      (s.mode.mode ≠ .halted → exec (.resume q) s = .next (s.answers 0x41 .wrongMode .nothing))
      ∧ (s.mode.mode = .halted → s.field.estop = true → exec (.resume q) s = .next (s.answers 0x41 .estopActive .nothing))
      ∧ (∀ m, s.mode.mode = .halted → s.field.estop = false → s.mode.saved = some m → m ≠ .halted →
        ∃ t, exec (.resume q) s = .next t ∧ t.mode.saved = none
          ∧ (m = .run ∨ m = .stopped → t.mode.mode = m ∧ t.mode.drain = s.mode.drain)
          ∧ (m = .stopping → t.mode.mode = .stopping ∧ ¬ Quiet t ∨ t.mode.mode = .stopped ∧ Quiet t)
          ∧ (m = .drain → t.mode.mode = .drain ∧ t.mode.drain = s.mode.drain ∧ ¬ WorkedOff t
              ∨ t.mode.mode = .stopped ∧ t.mode.drain = none ∧ WorkedOff t)
          ∧ (∃ reads, t.sent = s.sent ++ [.resume (.wrapper .one), .resume (.wrapper .two), .resume .printer] ++ reads
                ++ [.reply s.link.address 0xC1 .ok (.mode m)]
              ∧ (∀ x ∈ reads, ∃ i, x = .read (.entry i) none) ∧ (m ≠ .run → reads = []))
          ∧ (∀ c, t.check.current = some c → c.settleEnd.due = s.lineTime + BitVec.ofNat 32 c.settleEnd.left
              ∧ c.settleLimit.due = s.lineTime + BitVec.ofNat 32 c.settleLimit.left)
          ∧ (∀ d, t.mass.settleEnd = some d ∨ t.mass.limit = some d → d.due = s.lineTime + BitVec.ofNat 32 d.left)
          ∧ (∀ r ∈ t.track.records, ∀ d, r.deferral = some d → d.due = s.lineTime + BitVec.ofNat 32 d.left)
          ∧ (m ≠ .stopped → WakesAnew t) ∧ (m = .stopped → ∀ i, WakeStarts t i (tget s.field.wakeHolds i.idx))
          ∧ (QueueOpen s → Reported t .modeChange fun x => x.detail = m.number ∧ x.value = some 7)
          ∧ RequestKeeps [.mode, .wakeHolds, .entryTaken, .places, .moves, .records, .nextNumber, .scanners, .merge, .check, .mass]
              s t))

/-- PURGE_HOLD_EXPIRY of a hold that has run out, and an addressed RESET LINE, answer a next state. No record, move, read,
check, capture, wrap, label order, print job, reservation, release or task is left; order and job numbers and windows are
kept; every CLAIMED or FINISHED slot is EXPECTED without a claimant and every other slot and load is kept; each place is
UNKNOWN when covered and FREE otherwise, with no occupant; lane counts are 0; the zones are NORMAL with no good run, no
window in progress and no last window count, their latches kept; RESET LINE keeps a purge hold in progress and the spent
mark, and the purge leaves no hold and the combination spent. The mode is STOPPED, or HALTED with STOPPED saved while
ESTOP is active. The gate is at the one infeed whose input alone is active, or NONE. HUSH, ABORT to wrapper 1 and 2 and
CANCEL_ALL are sent, then HOLD to both wrappers and the printer with ESTOP active, or CONTINUE when the mode before was
HALTED and ESTOP is inactive, and after RESET LINE its reply. No entry-taken mark is set, and the diverter is at STAGING.
Every wake hold is abandoned, and in STOPPED those whose conditions hold start. When no kind is masked and the queue has
room, exactly these reports join it: PLACE_UNKNOWN with value 3 for each covered place, LINE_RESET with the cause, 1 or 2,
and the number of records, and with ESTOP active MODE_CHANGE to HALTED with cause 6; that no STATION_CHANGE, SPEED or
other report is among them is log entry 9. Plans, tables, settings, counters, identity, infeed states and inputs are kept.
The order of HUSH, ABORT and CANCEL_ALL, and of the PLACE_UNKNOWN reports, in place order and before LINE_RESET, is the
choice of log entry 8; how an ended read is kept is log entry 10, and that dropped face results read PENDING is log entry
47. -/
def Obligations.ALineResetEmptiesTheLine : Prop :=
  ∀ (q : Req) (c : Instr) (cause : Nat) (s : State),
    (c = .purgeHoldExpiry ∧ s.field.purgeHold = some 0 ∧ cause = 2) ∨ (c = .resetLine q ∧ Addressed q s ∧ cause = 1) →
    ∃ t, exec c s = .next t
      ∧ t.track = { s.track with records := [], nextNumber := 1, scanners := t.track.scanners }
      ∧ (∀ sc, t.scanner sc = ⟨none, [], match (s.scanner sc).outstanding with | some (_, left) => some left | none => (s.scanner sc).ended⟩)
      ∧ t.field.moves = [] ∧ t.field.entryTaken = Vector.replicate 3 false ∧ t.field.diverterReject = false ∧ t.check = ⟨.empty, false, none⟩
      ∧ t.mass = { s.mass with
          capture := none, settleEnd := none, limit := none
          status := if s.mass.status = .running then .none else s.mass.status }
      ∧ t.merge.grant = none ∧ t.merge.lastGranted = none ∧ t.merge.train = 0 ∧ t.merge.switch = none ∧ t.merge.fault = false
      ∧ t.merge.parkPending = true ∧ (∀ i, t.merge.gate = some i ↔ ∀ j, s.input (.gateAt j) = (j == i))
      ∧ t.wrap.staging = Vector.replicate 2 none ∧ t.wrap.labelOrder = []
      ∧ (∀ w, t.wrapper w = ⟨.idle, none, s.lineTime, none, (s.wrapper w).nextOrder, none, none⟩)
      ∧ t.label = labelReset s.label.nextJob ∧ t.buffer = bufferReset s.buffer.windows
      ∧ t.plan.loads = s.plan.loads.map (fun l => { l with slots := l.slots.map fun x =>
          if x.state = .claimed ∨ x.state = .finished then { x with state := .expected, claimant := none } else x })
      ∧ (∀ p, t.place p = ⟨s.covered p, false, [], []⟩)
      ∧ (∀ l, (tget t.lanes l).count = 0 ∧ (tget t.lanes l).halt = (tget s.lanes l).halt)
      ∧ (∀ z, t.zone z = ⟨.normal, 0, (s.zone z).latch, false, 0, 0, none⟩)
      ∧ t.mode = (if s.field.estop then ⟨.halted, some .stopped, none⟩ else ⟨.stopped, none, none⟩)
      ∧ (c = .purgeHoldExpiry → t.field.purgeHold = none ∧ t.field.purgeSpent = true)
      ∧ (c = .resetLine q → t.field.purgeHold = s.field.purgeHold ∧ t.field.purgeSpent = s.field.purgeSpent)
      ∧ t.sent = s.sent ++ [.hush, .abort .one, .abort .two, .cancelAll]
          ++ (if s.field.estop then [.hold (.wrapper .one), .hold (.wrapper .two), .hold .printer]
              else if s.mode.mode = .halted then [.resume (.wrapper .one), .resume (.wrapper .two), .resume .printer] else [])
          ++ (if cause = 1 then [.reply s.link.address 0xC2 .ok (.reset s.track.records.length t.mode.mode)] else [])
      ∧ WakesAnew t
      ∧ (s.link.mask = Vector.replicate 26 true → s.link.reports.length + (allPlaces.filter s.covered).length ≤ 62 →
          t.link.reports = s.link.reports
            ++ (allPlaces.filter s.covered).map (fun p => ⟨.placeUnknown, s.lineTime, none, none, none, p.number, some 3⟩)
            ++ [⟨.lineReset, s.lineTime, none, none, none, cause, some (s.track.records.length : Int)⟩]
            ++ (if s.field.estop then [⟨.modeChange, s.lineTime, none, none, none, 4, some 6⟩] else []))
      ∧ KeepsAllBut ([.answering, .purgeHold, .loads, .entryTaken, .diverter, .wakeHolds, .zones, .places, .moves, .records,
          .nextNumber, .scanners, .merge, .check, .mass, .wrap, .label, .buffer, .lanes, .mode, .sent] ++ derived) s t

/-- POWER_ON, RESET_PIN and an addressed RESET FULL answer a next state with line time 0, the plan empty and the tables at
their defaults, every setting at its default, every block at its full-reset values, the station address read from the
straps and no identity, the counters 0 and armed, the filtered levels those of the raw inputs, each place UNKNOWN when
covered and FREE otherwise, and the mode STOPPED, or HALTED with STOPPED saved while ESTOP is active. The report queue
holds exactly PLACE_UNKNOWN with value 3 for each covered place and then, with ESTOP active, MODE_CHANGE to HALTED with
cause 6; that no STATION_CHANGE, SPEED or other report is among them is log entry 9. HUSH, ABORT and CANCEL_ALL are sent,
then HOLD to all three in that case, or CONTINUE when the mode before was HALTED and ESTOP is inactive. Outside HALTED,
with every raw input inactive, ESTOP inactive and the straps at 0, the state is State.reset but for the messages and the
model's own fields. No wake hold runs, and a purge hold runs only when OP1, OP2 and KEY are all active (log entry 26). The
window base, the order of the messages and of the PLACE_UNKNOWN reports, in place order, and that the pins and the fields
of the model keep their values, are the choices of log entries 5, 6 and 8; that ended reads are forgotten and that dropped
face results read PENDING are log entries 10 and 47. -/
def Obligations.AFullResetReturnsToPowerOn : Prop :=
  ∀ (q : Req) (c : Instr) (s u : State),
    ((c = .powerOn ∨ c = .resetPin) ∧ u = s) ∨ (c = .resetFull q ∧ Addressed q s ∧ u = s.send (.reply s.link.address 0xC2 .ok .nothing)) →
    ∃ t, exec c s = .next t
      ∧ t.lineTime = 0 ∧ t.plan = State.reset.plan ∧ t.settings = defaultSettings ∧ t.track = State.reset.track
      ∧ t.check = State.reset.check ∧ t.mass = State.reset.mass ∧ t.wrap = State.reset.wrap ∧ t.label = labelReset 1
      ∧ t.buffer = State.reset.buffer ∧ (∀ l, (tget t.lanes l).count = 0 ∧ (tget t.lanes l).halt = false)
      ∧ t.merge = { State.reset.merge with gate := t.merge.gate }
      ∧ (∀ i, t.merge.gate = some i ↔ ∀ j, tget s.field.raw (Input.gateAt j).idx = (j == i))
      ∧ t.link = { linkReset s.link.straps with reports := t.link.reports, attention := t.link.attention }
      ∧ (t.link.attention = true ↔ t.link.reports ≠ [])
      ∧ t.link.reports = (allPlaces.filter t.covered).map (fun p => ⟨.placeUnknown, 0, none, none, none, p.number, some 3⟩)
          ++ (if s.field.estop then [⟨.modeChange, 0, none, none, none, 4, some 6⟩] else [])
      ∧ t.field.wakeHolds = Vector.replicate 3 none ∧ t.field.purgeSpent = false
      ∧ t.field.purgeHold = (if s.rawLevel .op1 ∧ s.rawLevel .op2 ∧ s.rawLevel .key then some 400 else none)
      ∧ t.field.raw = s.field.raw ∧ t.field.filtered = s.field.raw ∧ t.field.estop = s.field.estop ∧ t.field.moves = []
      ∧ (∀ p, t.place p = ⟨t.covered p, false, [], []⟩)
      ∧ (∀ z, t.zone z = ⟨.normal, 0, false, false, 0, 0, none⟩)
      ∧ t.mode = (if s.field.estop then ⟨.halted, some .stopped, none⟩ else ⟨.stopped, none, none⟩)
      ∧ t.sent = u.sent ++ [.hush, .abort .one, .abort .two, .cancelAll]
          ++ (if s.field.estop then [.hold (.wrapper .one), .hold (.wrapper .two), .hold .printer]
              else if s.mode.mode = .halted then [.resume (.wrapper .one), .resume (.wrapper .two), .resume .printer] else [])
      ∧ (s.mode.mode ≠ .halted → s.field.raw = Vector.replicate 59 false → s.field.estop = false → s.link.straps = 0 →
          t = { State.reset with sent := u.sent ++ resetMessages, freeDraws := s.freeDraws, pending := s.pending })
      ∧ KeepsAllBut ([.lineTime, .counters, .address, .receiver, .answering, .identity, .mask, .articles, .bases, .recipes, .bands,
          .loads, .filtered, .timing, .entryTaken, .diverter, .purgeHold, .wakeHolds, .zones, .places, .moves, .records,
          .nextNumber, .enabled, .scanners, .merge, .check, .mass, .wrap, .label, .buffer, .windows, .lanes, .mode, .settings,
          .sent] ++ derived) s t

/-- Addressed, IDENTIFY, GET_SETTING and GET_TABLE of a number in range, ARTICLE_GET of a held code, READ_LOAD of all
loads, of a load with at most twelve slot summaries and of one slot, LIST_PLACES, READ_PALLET of a record, LIST_PALLETS
and READ_LANE of one lane and of all each answer a next state in which answering is set, OK with the fields the rule names
has been sent, and nothing else has changed. LIST_PLACES carries for each place in number order its number, its state,
whether a sensor of it is covered, its occupants or lane count and its incoming list, and READ_LANE for each lane its
state and beacon, its bound load and state, its next position, whether that waits for a slot, the record that claims it
with its stage, its count and releases, door, halt flag and window and the number of HELD pallets of its load, then the
shuttle's condition, task and reported state, the label-exit pallet, the lane served last and the deadlock flag. A number
out of range is refused with BAD_ARGUMENT, an unknown code, load or track number with UNKNOWN_ARTICLE, UNKNOWN_LOAD and
UNKNOWN_PALLET, and nothing else changes. Selector 0 of LIST_PALLETS is ALL (log entry 21). -/
def Obligations.TheReadingRequestsOnlyAnswer : Prop :=
  ∀ (q : Req) (n : Nat) (s : State), Addressed q s →
    exec (.identify q) s = .next (s.answers 0x01 .ok (.identity [90#8, 87#8, 77#8] [77#8, 68#8, 52#8, 50#8, 48#8] 3
        s.link.address.toNat s.link.identity s.mode.mode s.mass.status s.mass.valid s.link.reports.length))
    ∧ (∀ k : Setting, n = k.idx.val + 1 →
        exec (.getSetting q n) s = .next (s.answers 0x04 .ok (.setting (s.setting k)
          ((tget defaultSettings k.idx : Nat) : Int) k.ends.1 k.ends.2)))
    ∧ (n = 0 ∨ 33 < n → exec (.getSetting q n) s = .next (s.answers 0x04 .badArgument .nothing))
    ∧ (∀ body, (n, body) ∈ [(1, ReplyBody.bands s.plan.bands), (2, .bases s.plan.bases.toList), (3, .recipes s.plan.recipes.toList),
          (4, .windows s.buffer.windows.toList), (5, .mask s.link.mask.toList)] →
        exec (.getTable q n) s = .next (s.answers 0x06 .ok body))
    ∧ (n = 0 ∨ 5 < n → exec (.getTable q n) s = .next (s.answers 0x06 .badArgument .nothing))
    ∧ (∀ a, s.plan.articles.find? (fun a => a.code == n) = some a →
        exec (.articleGet q n .exact) s = .next (s.answers 0x12 .ok (.article a s.plan.articles.length)))
    ∧ (∀ a, s.plan.articles.find? (fun a => n < a.code) = some a →
        exec (.articleGet q n .next) s = .next (s.answers 0x12 .ok (.article a s.plan.articles.length)))
    ∧ ((∀ a ∈ s.plan.articles, a.code ≠ n) → exec (.articleGet q n .exact) s = .next (s.answers 0x12 .unknownArticle .nothing))
    ∧ ((∀ a ∈ s.plan.articles, a.code ≤ n) → exec (.articleGet q n .next) s = .next (s.answers 0x12 .unknownArticle .nothing))
    ∧ (∀ form, form ≤ 1 → exec (.readLoad q 0 n form) s = .next (s.answers 0x19 .ok (.loads (s.plan.loads.map fun l =>
        ⟨l.id, l.status, l.lane, l.planned, l.slots.length, (l.slots.filter (·.state == .dispatched)).length⟩))))
    ∧ (∀ k form, n ≠ 0 → s.load? n = none → form ≤ 1 → exec (.readLoad q n k form) s = .next (s.answers 0x19 .unknownLoad .nothing))
    ∧ (∀ k form, 1 < form → exec (.readLoad q n k form) s = .next (s.answers 0x19 .badArgument .nothing))
    ∧ (∀ l k form first rows, n ≠ 0 → s.load? n = some l → form ≤ 1 → first = max 1 k → k ≤ l.slots.length + 1 → k = 0 ∨ form = 0 →
        rows = ((List.range l.slots.length).filter fun i => first ≤ i + 1).filterMap (fun i => (l.slots[i]?).map fun x =>
          (⟨i + 1, x.tag, x.state, x.claimant, x.rejects, x.base, x.recipe, x.gross, x.net⟩ : SlotRow)) →
        exec (.readLoad q n k form) s = .next (s.answers 0x19 .ok (.load
          ⟨l.id, l.status, l.lane, l.planned, l.slots.length, (l.slots.filter (·.state == .dispatched)).length⟩
          l.heightLimit l.shipDate (rows.take 12) (12 < rows.length))))
    ∧ (∀ l k form, n ≠ 0 → s.load? n = some l → form ≤ 1 → l.slots.length < k → (form = 1 ∨ l.slots.length + 1 < k) →
        exec (.readLoad q n k form) s = .next (s.answers 0x19 .badArgument .nothing))
    ∧ (∀ l sl, n ≠ 0 → s.load? n = some l → ∀ k, k ≠ 0 → l.slotAt k = some sl →
        exec (.readLoad q n k 1) s = .next (s.answers 0x19 .ok (.slot k sl)))
    ∧ (∃ rows, exec (.listPlaces q) s = .next (s.answers 0x21 .ok (.places rows
          (s.field.moves.filter (·.state == .waiting)).length (s.field.moves.filter (·.state == .inFlight)).length
          (s.field.moves.filter (·.state == .lost)).length))
        ∧ rows.map (·.number) = List.range' 1 34 ∧ ∀ row ∈ rows, ∃ p, PlaceRowOf s p row)
    ∧ (∀ r, s.record? n = some r → exec (.readPallet q n) s = .next (s.answers 0x29 .ok (.pallet r
        ((s.move? n).map (·.state)) (if r.stage = .deferred then r.deferral.map (·.left) else none))))
    ∧ (s.record? n = none → exec (.readPallet q n) s = .next (s.answers 0x29 .unknownPallet .nothing))
    ∧ (∀ k rest, n ≤ 13 → k ≤ 31 →
        rest = (s.track.records.filter fun r => n = 0 ∨ r.stage.number = n).drop k →
        exec (.listPallets q k n) s = .next (s.answers 0x2A .ok (.pallets
          ((rest.take 16).map fun r => ⟨r.number, r.stage, r.infeed, r.location, r.ref, r.mark, r.verdict⟩)
          (s.track.records.filter fun r => n = 0 ∨ r.stage.number = n).length s.track.records.length s.lineTime
          (16 < rest.length))))
    ∧ (∀ k, 13 < n ∨ 31 < k → exec (.listPallets q k n) s = .next (s.answers 0x2A .badArgument .nothing))
    ∧ (∃ condition reported, ShuttleShown s condition reported
        ∧ (∀ l : Lane, n = l.val + 1 → ∃ row, LaneRowOf s l row
          ∧ exec (.readLane q n) s = .next (s.answers 0x3B .ok (.lanes [row] condition s.buffer.task reported s.buffer.exitPallet
              (s.buffer.lastServed.val + 1) s.buffer.deadlock)))
        ∧ ∃ rows, rows.length = 6 ∧ (∀ l : Lane, ∃ row, rows[l.val]? = some row ∧ LaneRowOf s l row)
          ∧ exec (.readLane q 0) s = .next (s.answers 0x3B .ok (.lanes rows condition s.buffer.task reported s.buffer.exitPallet
              (s.buffer.lastServed.val + 1) s.buffer.deadlock)))
    ∧ (6 < n → exec (.readLane q n) s = .next (s.answers 0x3B .badArgument .nothing))

/-- For an addressed SET_SETTING of a number 1 to 33 exec answers a next state in which that setting has the value applied and
every other setting its own. The value applied is one the setting allows; it is the value sent when that is allowed, with OK,
and otherwise, with OK_CLAMPED, the nearer end of the range for a value outside it; for DIVISION the least allowed value not
below it, or 100 above 100; for PRINTER_DEPTH 1 for a value of 1 or less and 4 for any other. The reply is the only message
sent. Nothing else changes but the derived parts and, for PURGE_COMBINATION, the purge hold, which is abandoned and not spent
and starts at 400 cs where the new combination is active, and for AUTO_WAKE, the wake holds, which are abandoned and in
STOPPED start at WAKE_HOLD where their conditions hold. Another number is refused with BAD_ARGUMENT. An addressed RESET
SETTINGS in STOPPED answers a next state with every setting at its default, the bases, recipes and bands at their defaults,
every window of size 0, every report kind enabled and no wake hold; the purge hold runs afresh when OP1, OP2 and KEY are all
active and is absent otherwise. OK is the only message sent and nothing else changes but the derived parts. In another mode it
is refused with WRONG_MODE. That the purge hold runs afresh is log entry 26. -/
def Obligations.SettingsAreSetAndReset : Prop :=
  (∀ (q : Req) (n : Nat) (v : Int) (s : State), Addressed q s →
      (∀ k : Setting, n = k.idx.val + 1 →
        ∃ t a, exec (.setSetting q n v) s = .next t ∧ k.allows a ∧ t.setting k = a ∧ (∀ j, j ≠ k → t.setting j = s.setting j)
          ∧ (∀ w : Nat, v = w → k.allows w → a = w)
          ∧ (v < k.ends.1 → a = k.ends.1) ∧ ((k.ends.2 : Int) < v → a = k.ends.2)
          ∧ (k = .division → v ≤ 100 → v ≤ a ∧ ∀ b, k.allows b → v ≤ b → a ≤ b)
          ∧ (k = .printerDepth → a = if v ≤ 1 then 1 else 4)
          ∧ Replied s t 0x03 (if v = a then .ok else .okClamped) (.value a)
          ∧ (k ≠ .purgeCombination → k ≠ .autoWake → RequestKeeps [.settings] s t)
          ∧ (k ≠ .purgeCombination → RequestKeeps [.settings, .wakeHolds] s t)
          ∧ (k ≠ .autoWake → RequestKeeps [.settings, .purgeHold] s t)
          ∧ (k = .autoWake → WakesAnew t)
          ∧ (k = .purgeCombination → t.field.purgeSpent = false ∧ (PurgeCombined t → t.field.purgeHold = some 400)
              ∧ (¬ PurgeCombined t → t.field.purgeHold = none)))
      ∧ (n = 0 ∨ 33 < n → exec (.setSetting q n v) s = .next (s.answers 0x03 .badArgument .nothing)))
  ∧ (∀ (q : Req) (s : State), Addressed q s →
      (s.mode.mode = .stopped →
        ∃ t, exec (.resetSettings q) s = .next t
          ∧ t.settings = defaultSettings ∧ t.plan.bases = defaultBases ∧ t.plan.recipes = defaultRecipes
          ∧ t.plan.bands = defaultBands ∧ (∀ l, (tget t.buffer.windows l).size = 0) ∧ t.link.mask = Vector.replicate 26 true
          ∧ t.field.wakeHolds = Vector.replicate 3 none
          ∧ t.field.purgeHold = (if s.input .op1 ∧ s.input .op2 ∧ s.input .key then some 400 else none) ∧ t.field.purgeSpent = false
          ∧ Replied s t 0x42 .ok .nothing
          ∧ RequestKeeps [.settings, .bases, .recipes, .bands, .windows, .mask, .wakeHolds, .purgeHold] s t)
      ∧ (s.mode.mode ≠ .stopped → exec (.resetSettings q) s = .next (s.answers 0x42 .wrongMode .nothing)))

/-- For an addressed SET_TABLE exec answers a next state. BANDS of 1 to 8 bands in range with rising edges, BASES of 4 and
RECIPES of 16 entries in range, WINDOWS of 6 entries in range that lie in one rack and share no position, and REPORT_MASK of
26 flags 0 or 1 are put in force, OK is the only message sent, and nothing else changes but the derived parts. Other contents
are refused with BAD_ARGUMENT and nothing else changes. -/
def Obligations.SetTableReplacesOneTableWhole : Prop :=
  ∀ (q : Req) (s : State), Addressed q s →
    (∀ x : List Band, ∃ ok : Bool,
      (ok = true ↔ 1 ≤ x.length ∧ x.length ≤ 8 ∧ x.Pairwise (fun a b => a.edge < b.edge)
        ∧ ∀ b ∈ x, 1 ≤ b.edge ∧ b.edge ≤ 2000001 ∧ b.fixed ≤ 100000 ∧ b.perMille ≤ 50)
      ∧ (ok = false → exec (.setTableBands q x) s = .next (s.answers 0x05 .badArgument .nothing))
      ∧ (ok = true → ∃ t, exec (.setTableBands q x) s = .next t ∧ t.plan.bands = x ∧ Replied s t 0x05 .ok .nothing
          ∧ RequestKeeps [.bands] s t))
    ∧ (∀ x : List Base, ∃ ok : Bool,
      (ok = true ↔ x.length = 4 ∧ ∀ b ∈ x, 1000 ≤ b.tare ∧ b.tare ≤ 100000 ∧ 400 ≤ b.length ∧ b.length ≤ 1600
        ∧ 400 ≤ b.width ∧ b.width ≤ 1600)
      ∧ (ok = false → exec (.setTableBases q x) s = .next (s.answers 0x05 .badArgument .nothing))
      ∧ (ok = true → ∃ t, exec (.setTableBases q x) s = .next t ∧ t.plan.bases.toList = x ∧ Replied s t 0x05 .ok .nothing
          ∧ RequestKeeps [.bases] s t))
    ∧ (∀ x : List Recipe, ∃ ok : Bool,
      (ok = true ↔ x.length = 16 ∧ ∀ r ∈ x, r.bottom ≤ 6 ∧ r.top ≤ 6 ∧ 10 ≤ r.overlap ∧ r.overlap ≤ 70 ∧ r.prestretch ≤ 300
        ∧ 1 ≤ r.tension ∧ r.tension ≤ 9)
      ∧ (ok = false → exec (.setTableRecipes q x) s = .next (s.answers 0x05 .badArgument .nothing))
      ∧ (ok = true → ∃ t, exec (.setTableRecipes q x) s = .next t ∧ t.plan.recipes.toList = x ∧ Replied s t 0x05 .ok .nothing
          ∧ RequestKeeps [.recipes] s t))
    ∧ (∀ x : List Window, ∃ ok : Bool,
      (ok = true ↔ x.length = 6
        ∧ (∀ w ∈ x, 1 ≤ w.base ∧ w.base ≤ 16 ∧ w.size ≤ 8
            ∧ (0 < w.size → w.base + w.size ≤ 9 ∨ (9 ≤ w.base ∧ w.base + w.size ≤ 17)))
        ∧ x.Pairwise fun a b => ∀ p, ¬ (a.base ≤ p ∧ p < a.base + a.size ∧ b.base ≤ p ∧ p < b.base + b.size))
      ∧ (ok = false → exec (.setTableWindows q x) s = .next (s.answers 0x05 .badArgument .nothing))
      ∧ (ok = true → ∃ t, exec (.setTableWindows q x) s = .next t ∧ t.buffer.windows.toList = x ∧ Replied s t 0x05 .ok .nothing
          ∧ RequestKeeps [.windows] s t))
    ∧ (∀ x : List Nat, ∃ ok : Bool,
      (ok = true ↔ x.length = 26 ∧ ∀ f ∈ x, f ≤ 1)
      ∧ (ok = false → exec (.setTableReportMask q x) s = .next (s.answers 0x05 .badArgument .nothing))
      ∧ (ok = true → ∃ t, exec (.setTableReportMask q x) s = .next t ∧ t.link.mask.toList = x.map (fun f => decide (f = 1))
          ∧ Replied s t 0x05 .ok .nothing ∧ RequestKeeps [.mask] s t))

/-- An addressed TAKE_REPORTS answers a next state. With more than twelve reports queued the reply carries the first
twelve, and with twelve or fewer all of them; those carried are no longer queued, the others stand in their order, the
overflow flag it carries is the one that stood, and the flag is clear after; the number left is the number still queued.
In a state whose outputs and reported states are in force no report joins them, the attention line is asserted exactly
while one is still queued, and a report raised next, of a kind not masked, is appended after them and asserts the line. OK
is the only message sent, and nothing else changes but the derived parts. A payload of another length is refused with
BAD_ARGUMENT. An addressed READ_COUNTERS with clear flag 0 or 1 answers a next state. The reply carries the eleven
counters and half marks as they were. With flag 1 every counter is 0 and every half mark armed; with flag 0 they are as
they were. Nothing else changes but the derived parts. Another flag, or a payload of other than one octet, is refused with
BAD_ARGUMENT. A report of a kind cleared in the mask changes nothing; one of another kind is appended with the line time
and its fields and asserts the line while fewer than 64 are queued, and with 64 it is dropped and sets the overflow flag:
so for any report, and for the LATE of an answer to no read. A raise of a counter adds one, at most 65,535; from 32,767 it
spends the half mark, with one COUNTER_HALF when that was armed and the queue is open; any other raise keeps the mark and
queues none; no other counter changes. -/
def Obligations.ReportsAndCountersAreCollected : Prop :=
  (∀ (q : Req) (s : State), Addressed q s →
      ∃ t taken left, exec (.takeReports q) s = .next t
        ∧ s.link.reports = taken ++ left ∧ taken.length = min 12 s.link.reports.length
        ∧ (SignalsInv s → t.link.reports = left ∧ t.link.overflow = false ∧ (t.link.attention = true ↔ left ≠ [])
            ∧ ∀ k note, s.link.reports.length ≤ 64 → tget s.link.mask k.idx = true →
                (t.raise k note).link.reports = left ++ [t.report k note] ∧ (t.raise k note).link.attention = true
                ∧ (t.raise k note).link.overflow = false)
        ∧ left <+: t.link.reports
        ∧ Replied s t 0x07 .ok (.reports taken s.link.overflow left.length) ∧ RequestKeeps [] s t
        ∧ exec (.takeReports { q with whole := false }) s = .next (s.answers 0x07 .badArgument .nothing))
  ∧ (∀ (q : Req) (n : Nat) (s : State), Addressed q s →
      (n ≤ 1 →
        ∃ t, exec (.readCounters q n) s = .next t
          ∧ t.link.counters = (if n = 1 then Vector.replicate 11 ⟨0, true⟩ else s.link.counters)
          ∧ Replied s t 0x08 .ok (.counters s.link.counters.toList) ∧ RequestKeeps [.counters] s t)
      ∧ (1 < n → exec (.readCounters q n) s = .next (s.answers 0x08 .badArgument .nothing))
      ∧ exec (.readCounters { q with whole := false } n) s = .next (s.answers 0x08 .badArgument .nothing))
  ∧ (∀ (k : ReportKind) (note : Note) (s : State),
      (tget s.link.mask k.idx = false → s.raise k note = s)
      ∧ (tget s.link.mask k.idx = true → s.link.reports.length < 64 →
          s.raise k note = s.modLink fun u => { u with
            reports := u.reports ++ [⟨k, s.lineTime, note.track, note.load, note.position, note.detail, note.value⟩], attention := true })
      ∧ (tget s.link.mask k.idx = true → 64 ≤ s.link.reports.length → s.raise k note = s.modLink fun u => { u with overflow := true }))
  ∧ (∀ (k : Counter) (s : State), Counted s (s.count k) k ∧ KeepsAllBut [.queue, .counters] s (s.count k)
      ∧ ∀ j : Counter, j ≠ k → tget (s.count k).link.counters j.idx = tget s.link.counters j.idx)
  ∧ (∀ (sc : Scanner) (d : Text) (c : Instr) (s : State), SignalsInv s → (s.scanner sc).outstanding = none → (s.scanner sc).ended = none →
      c = .tag sc d ∨ c = .noRead sc →
      ∃ t, exec c s = .next t
        ∧ t.link = (if tget s.link.mask ReportKind.late.idx = false then s.link
            else if s.link.reports.length < 64 then { s.link with
              reports := s.link.reports ++ [⟨.late, s.lineTime, none, none, none, sc.number, none⟩], attention := true }
            else { s.link with overflow := true }))

/-- For an addressed SET_IDENTITY exec answers a next state: sixteen characters from space to tilde are taken when the
identity is absent, OK being the only message sent and nothing else changing but the derived parts; they are refused with
ALREADY_SET when it is present, the same characters too; any other text, or a payload of another length, is refused with
BAD_ARGUMENT. Broadcast to a part that accepts it (not answering, BROADCAST_OFF off), it sets an absent identity without
reply and leaves a present one. A present identity is kept by every command but power-on, the RESET pin, a RESET FULL that
is run and the octet that completes a frame. -/
def Obligations.TheIdentityIsSetOnce : Prop :=
  ∀ (q : Req) (x : Text) (s : State),
    (Addressed q s → x.length = 16 → (∀ c ∈ x, 32 ≤ c.toNat ∧ c.toNat ≤ 126) → s.link.identity = none →
      ∃ t, exec (.setIdentity q x) s = .next t ∧ t.link.identity = some x ∧ Replied s t 0x02 .ok .nothing
        ∧ RequestKeeps [.identity] s t)
    ∧ (Addressed q s → x.length = 16 → (∀ c ∈ x, 32 ≤ c.toNat ∧ c.toNat ≤ 126) → s.link.identity.isSome = true →
        exec (.setIdentity q x) s = .next (s.answers 0x02 .alreadySet .nothing))
    ∧ (q.broadcast = false → s.link.answering = false →
        q.whole = false ∨ x.length ≠ 16 ∨ (∃ c ∈ x, c.toNat < 32 ∨ 126 < c.toNat) →
        exec (.setIdentity q x) s = .next (s.answers 0x02 .badArgument .nothing))
    ∧ (q.broadcast = true → q.whole = true → s.link.answering = false → s.setting .broadcastOff ≠ 1 → x.length = 16 →
        (∀ c ∈ x, 32 ≤ c.toNat ∧ c.toNat ≤ 126) →
        (s.link.identity = none →
          ∃ t, exec (.setIdentity q x) s = .next t ∧ t.link.identity = some x ∧ KeepsAllBut (.identity :: derived) s t)
        ∧ (s.link.identity.isSome = true → exec (.setIdentity q x) s = .next s))
    ∧ (∀ (c : Instr) (t : State) (y : Text), s.link.identity = some y → exec c s = .next t →
        t.link.identity = some y ∨ ResetsInFull c s ∨ EndsFrame c s)

/-- For every request: addressed or broadcast while answering is set, it only raises the link errors counter, a broadcast
with BROADCAST_OFF on doing nothing; addressed with answering clear and a payload of a wrong length, it is refused with
BAD_ARGUMENT; broadcast, it sends no reply and leaves answering as it was unless a full reset clears it, and does nothing
when it only builds a reply or its payload has a wrong length. A kind that names no request is refused with UNKNOWN_KIND
when addressed and is nothing when broadcast. Addressed with answering clear, it is answered by one reply that carries the
station address and the kind plus 128, answering set unless a full reset clears it. That kind 0 is such a kind, and that a
wrong length is found before any other check, are log entries 13 and 37. A broadcast request that is accepted, and does
more than build a reply, leaves the state that the same request at the station address leaves, but for answering and the
reply; one that would be refused changes nothing. An ARTICLE_PUT whose code, mass or name exceeds what its octets carry is
refused with BAD_ARGUMENT, which is log entry 42. -/
def Obligations.RequestsAreLostBrokenOrBroadcast : Prop :=
  (∀ (c : Instr) (q : Req) (kind : Nat) (s : State), (requestOf c = some (q, kind) ∨ c = .unknownKind q kind) →
    (q.broadcast = false → s.link.answering = true → exec c s = .next (s.count .linkErrors))
    ∧ (q.broadcast = true → s.setting .broadcastOff = 1 → exec c s = .next s)
    ∧ (q.broadcast = true → s.setting .broadcastOff ≠ 1 → s.link.answering = true → exec c s = .next (s.count .linkErrors))
    ∧ (q.broadcast = false → s.link.answering = false → q.whole = false → c ≠ .unknownKind q kind →
        exec c s = .next (s.answers kind .badArgument .nothing))
    ∧ (q.broadcast = false → s.link.answering = false → c = .unknownKind q kind →
        exec c s = .next (s.answers kind .unknownKind .nothing))
    ∧ (q.broadcast = true → s.link.answering = false → q.whole = false ∨ kind ∈ replyOnly ∨ c = .unknownKind q kind →
        exec c s = .next s)
    ∧ (q.broadcast = false → s.link.answering = false → ∃ t before after code body, exec c s = .next t
        ∧ t.sent = s.sent ++ before ++ [.reply s.link.address (kind + 128) code body] ++ after
        ∧ (∀ m ∈ before ++ after, NoReply m)
        ∧ (c ≠ .resetFull q → t.link.answering = true ∧ after = []))
    ∧ (q.broadcast = true → ∃ t new, exec c s = .next t ∧ t.sent = s.sent ++ new ∧ (∀ m ∈ new, NoReply m)
        ∧ (t.link.answering = s.link.answering ∨ c = .resetFull q))
    ∧ (requestOf c = some (q, kind) → q.broadcast = true → q.whole = true → s.link.answering = false → s.setting .broadcastOff ≠ 1 →
        kind ∉ replyOnly →
        ∃ t u before after code body, exec c s = .next t ∧ exec (sentAs ⟨false, true⟩ c) s = .next u
          ∧ u.sent = s.sent ++ before ++ [.reply s.link.address (kind + 128) code body] ++ after ∧ (∀ m ∈ before ++ after, NoReply m)
          ∧ (code = .ok ∨ code = .okClamped →
              t = { u with link := { u.link with answering := false }, sent := s.sent ++ before ++ after })
          ∧ (code ≠ .ok → code ≠ .okClamped → t = s)))
  ∧ (∀ (q : Req) (code mass : Nat) (name : Text) (s : State), Addressed q s → 65535 < code ∨ 2 ^ 32 ≤ mass ∨ 255 < name.length →
      exec (.articlePut q code mass name) s = .next (s.answers 0x10 .badArgument .nothing))

/-- In HUNTING an octet 195 starts a frame with a gap limit of 2 cs and any other is nothing. In RECEIVING an octet joins
the frame and the limit starts again, unless it makes the length above 480 or completes a frame whose check disagrees:
then, and at the gap limit, the receiver hunts and link errors rises. A frame with a good check, for this station address
or for address 15, that carries the payload of a request of R207 leaves the receiver hunting and runs that request,
addressed or broadcast. A payload of another length than the request's one length makes it broken: refused with
BAD_ARGUMENT when addressed and met with answering clear, and nothing when broadcast. So is a payload whose octet names no
mode of SET_MODE, no kind of RESET or no form of ARTICLE_GET, a SET_TABLE that names no table or does not hold whole
entries, and an ARTICLE_PUT or SLOT_ADD whose length its own lengths and counts do not give (log entry 41). A kind below
128 that names no request is unknown. A good frame of another address, or of kind 128 or above, only leaves the receiver
hunting. The widths of payloads that chapter 12 does not lay out are those of log entry 20; that kind 0 names no request
and that a wrong length comes before any other check are log entries 13 and 37. -/
def Obligations.TheReceiverFramesOctets : Prop :=
  ∀ (o : Octet) (f : List Octet) (gap : Nat) (s h : State), h = s.modLink (fun u => { u with receiver := .hunting }) →
    (s.link.receiver = .hunting →
      exec (.linkOctet o) s = .next (if o = 195#8 then s.modLink fun u => { u with receiver := .receiving [195#8] 2 } else s))
    ∧ (s.link.receiver = .receiving f gap →
      (f.length < 4 ∨ (5 ≤ f.length ∧ f.length + 1 < 7 + 256 * (f.getD 3 0).toNat + (f.getD 4 0).toNat) →
        exec (.linkOctet o) s = .next (s.modLink fun u => { u with receiver := .receiving (f ++ [o]) 2 }))
      ∧ (f.length = 4 → 480 < 256 * (f.getD 3 0).toNat + o.toNat → exec (.linkOctet o) s = .next (h.count .linkErrors))
      ∧ (f.length = 4 → 256 * (f.getD 3 0).toNat + o.toNat ≤ 480 →
          exec (.linkOctet o) s = .next (s.modLink fun u => { u with receiver := .receiving (f ++ [o]) 2 }))
      ∧ (gap = 0 → exec .gapLimitExpiry s = .next (h.count .linkErrors))
      ∧ (0 < gap → exec .gapLimitExpiry s = .next s)
      ∧ (∀ (address kind : Octet) (payload : List Octet) (high low : Octet) (good : Bool), payload.length ≤ 480 →
          f = [195#8, address, kind, BitVec.ofNat 8 (payload.length / 256), BitVec.ofNat 8 payload.length] ++ payload ++ [high] →
          o = low →
          (good = true ↔ checkOf ([address, kind, BitVec.ofNat 8 (payload.length / 256), BitVec.ofNat 8 payload.length] ++ payload)
            = high ++ low) →
          (good = false → exec (.linkOctet o) s = .next (h.count .linkErrors))
          ∧ (good = true → 128 ≤ kind.toNat ∨ (address.toNat ≠ 15 ∧ address.toNat ≠ s.link.address.toNat) →
              exec (.linkOctet o) s = .next h)
          ∧ (∀ b : Bool, good = true → (b = true ∧ address.toNat = 15) ∨ (b = false ∧ address.toNat = s.link.address.toNat) →
              (∀ c, requestOf c = some (⟨b, true⟩, kind.toNat) → Fits c → payload = payloadOf c →
                exec (.linkOctet o) s = exec c h)
              ∧ (∀ n, (kind.toNat, n) ∈ payloadLengths → payload.length ≠ n → h.link.answering = false →
                exec (.linkOctet o) s = .next (if b then h else h.answers kind.toNat .badArgument .nothing))
              ∧ ((((kind = 0x40#8 ∨ kind = 0x42#8) ∧ ∃ x : Octet, payload = [x] ∧ (x.toNat = 0 ∨ 3 < x.toNat))
                  ∨ (kind = 0x12#8 ∧ ∃ x y z : Octet, payload = [x, y, z] ∧ 1 < z.toNat)
                  ∨ (kind = 0x05#8 ∧ BrokenTable payload)
                  ∨ (kind = 0x10#8 ∧ (payload.length < 7 ∨ payload.length ≠ 7 + (payload.getD 6 0).toNat))
                  ∨ (kind = 0x14#8 ∧ ¬ SlotPayload payload)) → h.link.answering = false →
                exec (.linkOctet o) s = .next (if b then h else h.answers kind.toNat .badArgument .nothing))
              ∧ (kind.toNat < 128 → (∀ c q, requestOf c ≠ some (q, kind.toNat)) →
                exec (.linkOctet o) s = exec (.unknownKind ⟨b, true⟩ kind.toNat) h))))
    ∧ (s.link.receiver = .hunting → exec .gapLimitExpiry s = .next s)
    ∧ checkOf [49#8, 50#8, 51#8, 52#8, 53#8, 54#8, 55#8, 56#8, 57#8] = 0x29B1#16

/-- The octets of a reply are 195, the address, the kind, the length in two octets, the result code's number, the fields and
the two octets of the check over what lies between; a request answered by one reply adds exactly these to the link. A value
goes in four octets, two's complement; the reports of TAKE_REPORTS in 16 octets each after their count, the overflow flag and
the number left, with kind, presence, line time, track number, load id, load position, detail and value at their offsets (a
load id alone sets the presence of the load reference, log entry 50); READ_PALLET in 77 octets, each field of section 12.6 at
its offset. The bands, bases, recipes and windows of GET_TABLE are read back whole by the reader of SET_TABLE, whose entries
are those of log entry 20. Stages, marks and verdicts go as the numbers of R208. A pallet of LIST_PALLETS goes out as ten
octets: presence, track number, stage, infeed, location, load id, load position, plan mark and verdict, a layout that is the
model's, log entry 20. -/
def Obligations.RepliesAreFramed : Prop :=
  (∀ (a : BitVec 3) (kind : Nat) (code : Result) (body : ReplyBody), ∃ head fields hi lo,
      (Message.reply a kind code body).octets = 195#8 :: head ++ BitVec.ofNat 8 code.number :: fields ++ [hi, lo]
        ∧ head = [a.setWidth 8, BitVec.ofNat 8 kind, BitVec.ofNat 8 ((fields.length + 1) / 256), BitVec.ofNat 8 (fields.length + 1)]
        ∧ checkOf (head ++ BitVec.ofNat 8 code.number :: fields) = hi ++ lo
        ∧ (∀ v, body = .value v → ∃ b0 b1 b2 b3 : Octet, fields = [b0, b1, b2, b3]
            ∧ (-2147483648 ≤ v → v < 2147483648 → (b0 ++ b1 ++ b2 ++ b3).toInt = v))
        ∧ (∀ taken overflow left, body = .reports taken overflow left →
            ∃ records, fields = BitVec.ofNat 8 taken.length :: (if overflow then 1#8 else 0#8) :: BitVec.ofNat 8 left :: records
              ∧ records.length = 16 * taken.length
              ∧ ∀ j x, taken[j]? = some x →
                (records.drop (16 * j)).head? = some (BitVec.ofNat 8 (x.kind.idx.val + 1))
                ∧ (records.drop (16 * j + 1)).take 1 = octets1 (bit x.track.isSome 0 + bit x.load.isSome 1 + bit x.value.isSome 2)
                ∧ (records.drop (16 * j + 6)).take 1 = octets1 (x.track.getD 0)
                ∧ (records.drop (16 * j + 7)).take 2 = octets2 (x.load.getD 0)
                ∧ (records.drop (16 * j + 9)).take 1 = octets1 (x.position.getD 0)
                ∧ (records.drop (16 * j + 2)).take 4 = octets4 x.time.toNat
                ∧ (records.drop (16 * j + 10)).take 2 = octets2 x.detail
                ∧ (records.drop (16 * j + 12)).take 4 = octetsInt (x.value.getD 0))
        ∧ (∀ r move left, body = .pallet r move left → (∀ d, r.tag = some d → d.length = 16) → fields.length = 77
            ∧ ∀ x ∈ palletLayout r move left, (fields.drop (x.1 - 1)).take x.2.length = x.2)
        ∧ (∀ t, body = .bands t → Fits (.setTableBands ⟨false, true⟩ t) → readEntries 9 readBand fields = some (t, []))
        ∧ (∀ t, body = .bases t → Fits (.setTableBases ⟨false, true⟩ t) → readEntries 8 readBase fields = some (t, []))
        ∧ (∀ t, body = .recipes t → Fits (.setTableRecipes ⟨false, true⟩ t) → readEntries 7 readRecipe fields = some (t, []))
        ∧ (∀ t, body = .windows t → Fits (.setTableWindows ⟨false, true⟩ t) → readEntries 2 readWindow fields = some (t, [])))
    ∧ (∀ (s t : State) (kind : Nat) (code : Result) (body : ReplyBody), Replied s t kind code body →
        t.linkOctets = s.linkOctets ++ (Message.reply s.link.address (kind + 128) code body).octets)
    ∧ (∀ r : PalletRow, r.octets = [BitVec.ofNat 8 (r.ref.isSome.toNat + 2 * r.verdict.isSome.toNat), BitVec.ofNat 8 r.number,
          BitVec.ofNat 8 r.stage.number, BitVec.ofNat 8 r.infeed.number, BitVec.ofNat 8 r.location.number]
        ++ octets2 ((r.ref.map (·.load)).getD 0) ++ [BitVec.ofNat 8 ((r.ref.map (·.position)).getD 0),
          BitVec.ofNat 8 (match r.mark with | none => 0 | some .unplanned => 1 | some .duplicate => 2),
          BitVec.ofNat 8 ((r.verdict.map Code.number).getD 0)])

/-- If the report queue holds at most 64 reports, the attention line is asserted exactly while it holds one, every counter at
most 65,535, every setting holds an allowed value, the article and load tables are within their sizes and ranges with no code,
load id, lane or tag twice, the zero offset lies within 40,000 g of 0, and the saved mode and drain limit stand only as R174
allows, and a step answers a next state, then all of that holds in that state. -/
def Obligations.TheTablesStayInRange : Prop :=
  ∀ s t : State, LinkInv s → SettingsInv s → ArticlesInv s → LoadsInv s → ZeroInv s → ModeInv s → step s = .next t →
    LinkInv t ∧ SettingsInv t ∧ ArticlesInv t ∧ LoadsInv t ∧ ZeroInv t ∧ ModeInv t

/-- If the zone drives, the gate drive, the transfer car (on with the target wrapper of a move in flight from staging to a
wrapper), the shuttle (on with the target place of a move of the shuttle in flight, as log entry 51 reads it), the
patterns of the stop lamps, spur beacons and fault beacon (R31) and of the lane beacons (R156), the lit state of the
steady and dark lamps, the reported station states, the lane states and the deadlock flag are those the rest of the state
calls for; an infeed's request is present exactly while its oldest record is READY, the infeed is enabled and its place is
not UNKNOWN; a grant names a stored record that has not left CHECK's occupants by its move out with the check exit sensor
clear; the print limit is present exactly in PRINT_WAIT with the pallet's job TAKEN and LABEL not FAULTED; and a step
answers a next state, then all of that holds in that state. In such a step a request that begins waits from the line time
of that state; a grant is kept or, when it is over there, released; and a print limit that starts stands at APPLY_LIMIT.
That outputs follow at the end of a step, and how half periods are kept, are log entries 44 and 27. -/
def Obligations.TheOutputsFollowTheState : Prop :=
  ∀ s t : State, SignalsInv s → step s = .next t → SignalsInv t ∧ SignalsBegin s t

/-- For every command, queue and state, the step of the state with the command at the front of the queue is exec of the
command on the state with the queue's rest (the queue of commands is the model's, log entry 4). -/
def Obligations.StepRunsTheFrontCommand : Prop :=
  ∀ (c : Instr) (rest : List Instr) (s : State), step { s with pending := c :: rest } = exec c { s with pending := rest }

/-- With the queue empty a step answers a next state with the line time one higher; the input filters, purge and wake holds,
the gap limit and the half periods of the lamps, kept in half centiseconds, are one centisecond on, held at 0. In HALTED
nothing else changes. Outside HALTED each move in flight, speed window of a driven zone, outstanding or ended read, order
limit, label limit, settle and zero deadline, deferral, gate switch and drain limit has one centisecond less, held at 0, and
each requesting infeed has waited one more; no edge count, drive, lamp pattern or lit state changes, no report is raised and
nothing else changes. That a step of the empty queue is one centisecond is the model's choice (log entry 3), and how the half
periods are kept is log entry 27. That an ended read counts down on its answer limit is the model's reading, log entry 10. -/
def Obligations.AnEmptyQueueLetsTimePass : Prop :=
  ∀ s : State, s.pending = [] →
    ∃ t, step s = .next t ∧ t.lineTime = s.lineTime + 1
      ∧ (∀ i, tget t.field.timing i = (tget s.field.timing i).map (· - 1))
      ∧ t.field.purgeHold = s.field.purgeHold.map (· - 1)
      ∧ (∀ i, tget t.field.wakeHolds i = (tget s.field.wakeHolds i).map (· - 1))
      ∧ (∀ f g, s.link.receiver = .receiving f g → t.link.receiver = .receiving f (g - 1))
      ∧ (s.link.receiver = .hunting → t.link.receiver = .hunting)
      ∧ t.field.purgeSpent = s.field.purgeSpent
      ∧ (∀ l, tget t.field.lamps l = { tget s.field.lamps l with left := (tget s.field.lamps l).left - 2 })
      ∧ t.field.gateDrive = s.field.gateDrive ∧ t.field.car = s.field.car ∧ t.field.shuttleDrive = s.field.shuttleDrive
      ∧ (s.mode.mode = .halted → t.field.zones = s.field.zones
          ∧ KeepsAllBut [.lineTime, .timing, .purgeHold, .wakeHolds, .receiver, .outputs] s t)
      ∧ (s.mode.mode ≠ .halted →
          t.field.moves = s.field.moves.map (fun m => if m.state = .inFlight then { m with left := m.left - 1 } else m)
          ∧ (∀ z, t.zone z = { s.zone z with
              windowLeft := if (s.zone z).drive then (s.zone z).windowLeft - 1 else (s.zone z).windowLeft })
          ∧ (∀ sc, t.scanner sc = { s.scanner sc with
              outstanding := (s.scanner sc).outstanding.map fun x => (x.1, x.2 - 1), ended := (s.scanner sc).ended.map (· - 1) })
          ∧ t.wrap = { s.wrap with wrappers := t.wrap.wrappers }
          ∧ (∀ w, t.wrapper w = { s.wrapper w with
              order := (s.wrapper w).order.map fun o => { o with ack := o.ack.map (· - 1), wrap := o.wrap.map (· - 1) } })
          ∧ t.label = { s.label with
              ack := s.label.ack.map (· - 1), print := s.label.print.map (· - 1), apply := s.label.apply.map (· - 1) }
          ∧ t.mode = { s.mode with drain := s.mode.drain.map (· - 1) }
          ∧ t.merge = { s.merge with
              switch := s.merge.switch.map (fun w => { w with left := w.left - 1 }), requests := t.merge.requests }
          ∧ (∀ i, tget t.merge.requests i = (tget s.merge.requests i).map fun w => { w with waited := w.waited + 1 })
          ∧ t.mass = { s.mass with
              settleEnd := s.mass.settleEnd.map fun d => { d with left := d.left - 1 }
              limit := s.mass.limit.map fun d => { d with left := d.left - 1 } }
          ∧ t.check = { s.check with
              current := s.check.current.map fun k => { k with
                settleEnd := { k.settleEnd with left := k.settleEnd.left - 1 }
                settleLimit := { k.settleLimit with left := k.settleLimit.left - 1 } } }
          ∧ t.track.records = s.track.records.map (fun r => { r with deferral := r.deferral.map fun d => { d with left := d.left - 1 } })
          ∧ KeepsAllBut [.lineTime, .timing, .purgeHold, .wakeHolds, .receiver, .moves, .outputs, .records, .scanners, .grant, .merge,
              .check, .mass, .wrap, .label, .printLimit, .mode] s t)

/-- For every command and every state exec answers a next state whose queue of waiting commands is the one before, and
whose raw inputs and straps are the ones before but for INPUT_CHANGE and STRAP_CHANGE. That every command answers a next
state in every state is the reading of log entry 33, and the queue is the model's own field (log entry 4). A report that
is queued stays queued, in its place, at every command but an addressed TAKE_REPORTS, a full reset and the octet that
completes a frame. With every kind enabled, room left and no line reset, LANE_CHANGE joins the queue once for each lane
whose state has changed, with its load id, number and state, DEADLOCK once when the flag comes to be set, with the exit
pallet, its load reference, its lane or 0 and the number HELD, LOAD_COMPLETE once for each load that becomes COMPLETE,
with its id, its lane or 0 and its slots DISPATCHED, none of these otherwise, and STATION_CHANGE with its new state for
each station whose reported state has changed, CHECK among them but at the deletion of a record that it holds (its silent
change then is log entry 53). -/
def Obligations.EveryCommandAnswersAndLeavesTheQueue : Prop :=
  ∀ (c : Instr) (s : State), ∃ t, exec c s = .next t ∧ t.pending = s.pending
    ∧ ((∀ i b, c ≠ .inputChange i b) → t.field.raw = s.field.raw) ∧ ((∀ p, c ≠ .strapChange p) → t.link.straps = s.link.straps)
    ∧ (¬ TakesFromQueue c s → s.link.reports <+: t.link.reports
        ∧ (c ≠ .purgeHoldExpiry → (∀ q, c ≠ .resetLine q) → s.link.mask = Vector.replicate 26 true →
            t.link.mask = Vector.replicate 26 true → t.link.reports.length < 64 →
            ∃ new, t.link.reports = s.link.reports ++ new ∧ ChangesReported s t new))

/-- State.reset has line time 0, the mode STOPPED with no saved mode and no drain limit, no record with the track counter at 1
and every infeed enabled, no article and no load, every setting at its default, no zero and zero valid false, no identity, an
empty report queue with every kind enabled and every counter 0, order and job counters at 1, lane served last 6, gate and
grant NONE and park pending, every place FREE, every lane UNBOUND, no drive on, and the stop lamps STEADY; and the invariants
of the tables, records and outputs hold in it. That every raw input and ESTOP are inactive and the straps 0, on which the
places, the gate and the mode rest, is the choice of log entry 5. -/
def Obligations.TheResetStateHasTheSpecifiedValues : Prop :=
  State.reset.lineTime = 0 ∧ State.reset.mode = ⟨.stopped, none, none⟩ ∧ State.reset.track.records = []
    ∧ State.reset.track.nextNumber = 1 ∧ State.reset.track.enabled = Vector.replicate 3 true ∧ State.reset.plan.articles = []
    ∧ State.reset.plan.loads = [] ∧ State.reset.setting .settleLimit = 600 ∧ State.reset.setting .travelLimit = 2000
    ∧ (∀ k, State.reset.setting k = tget defaultSettings k.idx)
    ∧ State.reset.mass.status = .none ∧ State.reset.mass.valid = false ∧ State.reset.mass.offset = 0
    ∧ State.reset.link.identity = none ∧ State.reset.link.reports = [] ∧ State.reset.link.mask = Vector.replicate 26 true
    ∧ State.reset.link.counters = Vector.replicate 11 ⟨0, true⟩
    ∧ (∀ w, (State.reset.wrapper w).nextOrder = 1 ∧ (State.reset.wrapper w).status = .idle) ∧ State.reset.label.nextJob = 1
    ∧ State.reset.buffer.lastServed = 5 ∧ State.reset.merge.gate = none ∧ State.reset.merge.grant = none
    ∧ State.reset.merge.parkPending = true ∧ (∀ p, State.reset.placeState p = .free)
    ∧ (∀ l, State.reset.laneStatus l = .unbound) ∧ (∀ z, (State.reset.zone z).drive = false)
    ∧ (∀ i, (tget State.reset.field.lamps (Lamp.stop i).idx).pattern = .steady)
    ∧ LinkInv State.reset ∧ SettingsInv State.reset ∧ ArticlesInv State.reset ∧ LoadsInv State.reset ∧ ZeroInv State.reset
    ∧ ModeInv State.reset ∧ RecordsInv State.reset ∧ SignalsInv State.reset
end

