-- ==== Sys2Proof/Laws/State.lean ====
section
/-! SUPPORT. One lemma per field per update of the state, true by rfl, so that no later proof unfolds a record update. -/

namespace Sys2Proof.Machine.State

variable (s : State)

/-! ### modLink -/

@[simp] theorem modLink_lineTime (f : LinkUnit → LinkUnit) : (s.modLink f).lineTime = s.lineTime := rfl
@[simp] theorem modLink_link (f : LinkUnit → LinkUnit) : (s.modLink f).link = f s.link := rfl
@[simp] theorem modLink_plan (f : LinkUnit → LinkUnit) : (s.modLink f).plan = s.plan := rfl
@[simp] theorem modLink_field (f : LinkUnit → LinkUnit) : (s.modLink f).field = s.field := rfl
@[simp] theorem modLink_track (f : LinkUnit → LinkUnit) : (s.modLink f).track = s.track := rfl
@[simp] theorem modLink_merge (f : LinkUnit → LinkUnit) : (s.modLink f).merge = s.merge := rfl
@[simp] theorem modLink_check (f : LinkUnit → LinkUnit) : (s.modLink f).check = s.check := rfl
@[simp] theorem modLink_mass (f : LinkUnit → LinkUnit) : (s.modLink f).mass = s.mass := rfl
@[simp] theorem modLink_wrap (f : LinkUnit → LinkUnit) : (s.modLink f).wrap = s.wrap := rfl
@[simp] theorem modLink_label (f : LinkUnit → LinkUnit) : (s.modLink f).label = s.label := rfl
@[simp] theorem modLink_buffer (f : LinkUnit → LinkUnit) : (s.modLink f).buffer = s.buffer := rfl
@[simp] theorem modLink_lanes (f : LinkUnit → LinkUnit) : (s.modLink f).lanes = s.lanes := rfl
@[simp] theorem modLink_mode (f : LinkUnit → LinkUnit) : (s.modLink f).mode = s.mode := rfl
@[simp] theorem modLink_settings (f : LinkUnit → LinkUnit) : (s.modLink f).settings = s.settings := rfl
@[simp] theorem modLink_reported (f : LinkUnit → LinkUnit) : (s.modLink f).reported = s.reported := rfl
@[simp] theorem modLink_sent (f : LinkUnit → LinkUnit) : (s.modLink f).sent = s.sent := rfl
@[simp] theorem modLink_freeDraws (f : LinkUnit → LinkUnit) : (s.modLink f).freeDraws = s.freeDraws := rfl
@[simp] theorem modLink_pending (f : LinkUnit → LinkUnit) : (s.modLink f).pending = s.pending := rfl

/-! ### modPlan -/

@[simp] theorem modPlan_lineTime (f : PlanStore → PlanStore) : (s.modPlan f).lineTime = s.lineTime := rfl
@[simp] theorem modPlan_link (f : PlanStore → PlanStore) : (s.modPlan f).link = s.link := rfl
@[simp] theorem modPlan_plan (f : PlanStore → PlanStore) : (s.modPlan f).plan = f s.plan := rfl
@[simp] theorem modPlan_field (f : PlanStore → PlanStore) : (s.modPlan f).field = s.field := rfl
@[simp] theorem modPlan_track (f : PlanStore → PlanStore) : (s.modPlan f).track = s.track := rfl
@[simp] theorem modPlan_merge (f : PlanStore → PlanStore) : (s.modPlan f).merge = s.merge := rfl
@[simp] theorem modPlan_check (f : PlanStore → PlanStore) : (s.modPlan f).check = s.check := rfl
@[simp] theorem modPlan_mass (f : PlanStore → PlanStore) : (s.modPlan f).mass = s.mass := rfl
@[simp] theorem modPlan_wrap (f : PlanStore → PlanStore) : (s.modPlan f).wrap = s.wrap := rfl
@[simp] theorem modPlan_label (f : PlanStore → PlanStore) : (s.modPlan f).label = s.label := rfl
@[simp] theorem modPlan_buffer (f : PlanStore → PlanStore) : (s.modPlan f).buffer = s.buffer := rfl
@[simp] theorem modPlan_lanes (f : PlanStore → PlanStore) : (s.modPlan f).lanes = s.lanes := rfl
@[simp] theorem modPlan_mode (f : PlanStore → PlanStore) : (s.modPlan f).mode = s.mode := rfl
@[simp] theorem modPlan_settings (f : PlanStore → PlanStore) : (s.modPlan f).settings = s.settings := rfl
@[simp] theorem modPlan_reported (f : PlanStore → PlanStore) : (s.modPlan f).reported = s.reported := rfl
@[simp] theorem modPlan_sent (f : PlanStore → PlanStore) : (s.modPlan f).sent = s.sent := rfl
@[simp] theorem modPlan_freeDraws (f : PlanStore → PlanStore) : (s.modPlan f).freeDraws = s.freeDraws := rfl
@[simp] theorem modPlan_pending (f : PlanStore → PlanStore) : (s.modPlan f).pending = s.pending := rfl

/-! ### modField -/

@[simp] theorem modField_lineTime (f : FieldUnit → FieldUnit) : (s.modField f).lineTime = s.lineTime := rfl
@[simp] theorem modField_link (f : FieldUnit → FieldUnit) : (s.modField f).link = s.link := rfl
@[simp] theorem modField_plan (f : FieldUnit → FieldUnit) : (s.modField f).plan = s.plan := rfl
@[simp] theorem modField_field (f : FieldUnit → FieldUnit) : (s.modField f).field = f s.field := rfl
@[simp] theorem modField_track (f : FieldUnit → FieldUnit) : (s.modField f).track = s.track := rfl
@[simp] theorem modField_merge (f : FieldUnit → FieldUnit) : (s.modField f).merge = s.merge := rfl
@[simp] theorem modField_check (f : FieldUnit → FieldUnit) : (s.modField f).check = s.check := rfl
@[simp] theorem modField_mass (f : FieldUnit → FieldUnit) : (s.modField f).mass = s.mass := rfl
@[simp] theorem modField_wrap (f : FieldUnit → FieldUnit) : (s.modField f).wrap = s.wrap := rfl
@[simp] theorem modField_label (f : FieldUnit → FieldUnit) : (s.modField f).label = s.label := rfl
@[simp] theorem modField_buffer (f : FieldUnit → FieldUnit) : (s.modField f).buffer = s.buffer := rfl
@[simp] theorem modField_lanes (f : FieldUnit → FieldUnit) : (s.modField f).lanes = s.lanes := rfl
@[simp] theorem modField_mode (f : FieldUnit → FieldUnit) : (s.modField f).mode = s.mode := rfl
@[simp] theorem modField_settings (f : FieldUnit → FieldUnit) : (s.modField f).settings = s.settings := rfl
@[simp] theorem modField_reported (f : FieldUnit → FieldUnit) : (s.modField f).reported = s.reported := rfl
@[simp] theorem modField_sent (f : FieldUnit → FieldUnit) : (s.modField f).sent = s.sent := rfl
@[simp] theorem modField_freeDraws (f : FieldUnit → FieldUnit) : (s.modField f).freeDraws = s.freeDraws := rfl
@[simp] theorem modField_pending (f : FieldUnit → FieldUnit) : (s.modField f).pending = s.pending := rfl

/-! ### modTrack -/

@[simp] theorem modTrack_lineTime (f : TrackTable → TrackTable) : (s.modTrack f).lineTime = s.lineTime := rfl
@[simp] theorem modTrack_link (f : TrackTable → TrackTable) : (s.modTrack f).link = s.link := rfl
@[simp] theorem modTrack_plan (f : TrackTable → TrackTable) : (s.modTrack f).plan = s.plan := rfl
@[simp] theorem modTrack_field (f : TrackTable → TrackTable) : (s.modTrack f).field = s.field := rfl
@[simp] theorem modTrack_track (f : TrackTable → TrackTable) : (s.modTrack f).track = f s.track := rfl
@[simp] theorem modTrack_merge (f : TrackTable → TrackTable) : (s.modTrack f).merge = s.merge := rfl
@[simp] theorem modTrack_check (f : TrackTable → TrackTable) : (s.modTrack f).check = s.check := rfl
@[simp] theorem modTrack_mass (f : TrackTable → TrackTable) : (s.modTrack f).mass = s.mass := rfl
@[simp] theorem modTrack_wrap (f : TrackTable → TrackTable) : (s.modTrack f).wrap = s.wrap := rfl
@[simp] theorem modTrack_label (f : TrackTable → TrackTable) : (s.modTrack f).label = s.label := rfl
@[simp] theorem modTrack_buffer (f : TrackTable → TrackTable) : (s.modTrack f).buffer = s.buffer := rfl
@[simp] theorem modTrack_lanes (f : TrackTable → TrackTable) : (s.modTrack f).lanes = s.lanes := rfl
@[simp] theorem modTrack_mode (f : TrackTable → TrackTable) : (s.modTrack f).mode = s.mode := rfl
@[simp] theorem modTrack_settings (f : TrackTable → TrackTable) : (s.modTrack f).settings = s.settings := rfl
@[simp] theorem modTrack_reported (f : TrackTable → TrackTable) : (s.modTrack f).reported = s.reported := rfl
@[simp] theorem modTrack_sent (f : TrackTable → TrackTable) : (s.modTrack f).sent = s.sent := rfl
@[simp] theorem modTrack_freeDraws (f : TrackTable → TrackTable) : (s.modTrack f).freeDraws = s.freeDraws := rfl
@[simp] theorem modTrack_pending (f : TrackTable → TrackTable) : (s.modTrack f).pending = s.pending := rfl

/-! ### modMerge -/

@[simp] theorem modMerge_lineTime (f : MergeArbiter → MergeArbiter) : (s.modMerge f).lineTime = s.lineTime := rfl
@[simp] theorem modMerge_link (f : MergeArbiter → MergeArbiter) : (s.modMerge f).link = s.link := rfl
@[simp] theorem modMerge_plan (f : MergeArbiter → MergeArbiter) : (s.modMerge f).plan = s.plan := rfl
@[simp] theorem modMerge_field (f : MergeArbiter → MergeArbiter) : (s.modMerge f).field = s.field := rfl
@[simp] theorem modMerge_track (f : MergeArbiter → MergeArbiter) : (s.modMerge f).track = s.track := rfl
@[simp] theorem modMerge_merge (f : MergeArbiter → MergeArbiter) : (s.modMerge f).merge = f s.merge := rfl
@[simp] theorem modMerge_check (f : MergeArbiter → MergeArbiter) : (s.modMerge f).check = s.check := rfl
@[simp] theorem modMerge_mass (f : MergeArbiter → MergeArbiter) : (s.modMerge f).mass = s.mass := rfl
@[simp] theorem modMerge_wrap (f : MergeArbiter → MergeArbiter) : (s.modMerge f).wrap = s.wrap := rfl
@[simp] theorem modMerge_label (f : MergeArbiter → MergeArbiter) : (s.modMerge f).label = s.label := rfl
@[simp] theorem modMerge_buffer (f : MergeArbiter → MergeArbiter) : (s.modMerge f).buffer = s.buffer := rfl
@[simp] theorem modMerge_lanes (f : MergeArbiter → MergeArbiter) : (s.modMerge f).lanes = s.lanes := rfl
@[simp] theorem modMerge_mode (f : MergeArbiter → MergeArbiter) : (s.modMerge f).mode = s.mode := rfl
@[simp] theorem modMerge_settings (f : MergeArbiter → MergeArbiter) : (s.modMerge f).settings = s.settings := rfl
@[simp] theorem modMerge_reported (f : MergeArbiter → MergeArbiter) : (s.modMerge f).reported = s.reported := rfl
@[simp] theorem modMerge_sent (f : MergeArbiter → MergeArbiter) : (s.modMerge f).sent = s.sent := rfl
@[simp] theorem modMerge_freeDraws (f : MergeArbiter → MergeArbiter) : (s.modMerge f).freeDraws = s.freeDraws := rfl
@[simp] theorem modMerge_pending (f : MergeArbiter → MergeArbiter) : (s.modMerge f).pending = s.pending := rfl

/-! ### modCheck -/

@[simp] theorem modCheck_lineTime (f : CheckStation → CheckStation) : (s.modCheck f).lineTime = s.lineTime := rfl
@[simp] theorem modCheck_link (f : CheckStation → CheckStation) : (s.modCheck f).link = s.link := rfl
@[simp] theorem modCheck_plan (f : CheckStation → CheckStation) : (s.modCheck f).plan = s.plan := rfl
@[simp] theorem modCheck_field (f : CheckStation → CheckStation) : (s.modCheck f).field = s.field := rfl
@[simp] theorem modCheck_track (f : CheckStation → CheckStation) : (s.modCheck f).track = s.track := rfl
@[simp] theorem modCheck_merge (f : CheckStation → CheckStation) : (s.modCheck f).merge = s.merge := rfl
@[simp] theorem modCheck_check (f : CheckStation → CheckStation) : (s.modCheck f).check = f s.check := rfl
@[simp] theorem modCheck_mass (f : CheckStation → CheckStation) : (s.modCheck f).mass = s.mass := rfl
@[simp] theorem modCheck_wrap (f : CheckStation → CheckStation) : (s.modCheck f).wrap = s.wrap := rfl
@[simp] theorem modCheck_label (f : CheckStation → CheckStation) : (s.modCheck f).label = s.label := rfl
@[simp] theorem modCheck_buffer (f : CheckStation → CheckStation) : (s.modCheck f).buffer = s.buffer := rfl
@[simp] theorem modCheck_lanes (f : CheckStation → CheckStation) : (s.modCheck f).lanes = s.lanes := rfl
@[simp] theorem modCheck_mode (f : CheckStation → CheckStation) : (s.modCheck f).mode = s.mode := rfl
@[simp] theorem modCheck_settings (f : CheckStation → CheckStation) : (s.modCheck f).settings = s.settings := rfl
@[simp] theorem modCheck_reported (f : CheckStation → CheckStation) : (s.modCheck f).reported = s.reported := rfl
@[simp] theorem modCheck_sent (f : CheckStation → CheckStation) : (s.modCheck f).sent = s.sent := rfl
@[simp] theorem modCheck_freeDraws (f : CheckStation → CheckStation) : (s.modCheck f).freeDraws = s.freeDraws := rfl
@[simp] theorem modCheck_pending (f : CheckStation → CheckStation) : (s.modCheck f).pending = s.pending := rfl

/-! ### modMass -/

@[simp] theorem modMass_lineTime (f : MassUnit → MassUnit) : (s.modMass f).lineTime = s.lineTime := rfl
@[simp] theorem modMass_link (f : MassUnit → MassUnit) : (s.modMass f).link = s.link := rfl
@[simp] theorem modMass_plan (f : MassUnit → MassUnit) : (s.modMass f).plan = s.plan := rfl
@[simp] theorem modMass_field (f : MassUnit → MassUnit) : (s.modMass f).field = s.field := rfl
@[simp] theorem modMass_track (f : MassUnit → MassUnit) : (s.modMass f).track = s.track := rfl
@[simp] theorem modMass_merge (f : MassUnit → MassUnit) : (s.modMass f).merge = s.merge := rfl
@[simp] theorem modMass_check (f : MassUnit → MassUnit) : (s.modMass f).check = s.check := rfl
@[simp] theorem modMass_mass (f : MassUnit → MassUnit) : (s.modMass f).mass = f s.mass := rfl
@[simp] theorem modMass_wrap (f : MassUnit → MassUnit) : (s.modMass f).wrap = s.wrap := rfl
@[simp] theorem modMass_label (f : MassUnit → MassUnit) : (s.modMass f).label = s.label := rfl
@[simp] theorem modMass_buffer (f : MassUnit → MassUnit) : (s.modMass f).buffer = s.buffer := rfl
@[simp] theorem modMass_lanes (f : MassUnit → MassUnit) : (s.modMass f).lanes = s.lanes := rfl
@[simp] theorem modMass_mode (f : MassUnit → MassUnit) : (s.modMass f).mode = s.mode := rfl
@[simp] theorem modMass_settings (f : MassUnit → MassUnit) : (s.modMass f).settings = s.settings := rfl
@[simp] theorem modMass_reported (f : MassUnit → MassUnit) : (s.modMass f).reported = s.reported := rfl
@[simp] theorem modMass_sent (f : MassUnit → MassUnit) : (s.modMass f).sent = s.sent := rfl
@[simp] theorem modMass_freeDraws (f : MassUnit → MassUnit) : (s.modMass f).freeDraws = s.freeDraws := rfl
@[simp] theorem modMass_pending (f : MassUnit → MassUnit) : (s.modMass f).pending = s.pending := rfl

/-! ### modWrap -/

@[simp] theorem modWrap_lineTime (f : WrapController → WrapController) : (s.modWrap f).lineTime = s.lineTime := rfl
@[simp] theorem modWrap_link (f : WrapController → WrapController) : (s.modWrap f).link = s.link := rfl
@[simp] theorem modWrap_plan (f : WrapController → WrapController) : (s.modWrap f).plan = s.plan := rfl
@[simp] theorem modWrap_field (f : WrapController → WrapController) : (s.modWrap f).field = s.field := rfl
@[simp] theorem modWrap_track (f : WrapController → WrapController) : (s.modWrap f).track = s.track := rfl
@[simp] theorem modWrap_merge (f : WrapController → WrapController) : (s.modWrap f).merge = s.merge := rfl
@[simp] theorem modWrap_check (f : WrapController → WrapController) : (s.modWrap f).check = s.check := rfl
@[simp] theorem modWrap_mass (f : WrapController → WrapController) : (s.modWrap f).mass = s.mass := rfl
@[simp] theorem modWrap_wrap (f : WrapController → WrapController) : (s.modWrap f).wrap = f s.wrap := rfl
@[simp] theorem modWrap_label (f : WrapController → WrapController) : (s.modWrap f).label = s.label := rfl
@[simp] theorem modWrap_buffer (f : WrapController → WrapController) : (s.modWrap f).buffer = s.buffer := rfl
@[simp] theorem modWrap_lanes (f : WrapController → WrapController) : (s.modWrap f).lanes = s.lanes := rfl
@[simp] theorem modWrap_mode (f : WrapController → WrapController) : (s.modWrap f).mode = s.mode := rfl
@[simp] theorem modWrap_settings (f : WrapController → WrapController) : (s.modWrap f).settings = s.settings := rfl
@[simp] theorem modWrap_reported (f : WrapController → WrapController) : (s.modWrap f).reported = s.reported := rfl
@[simp] theorem modWrap_sent (f : WrapController → WrapController) : (s.modWrap f).sent = s.sent := rfl
@[simp] theorem modWrap_freeDraws (f : WrapController → WrapController) : (s.modWrap f).freeDraws = s.freeDraws := rfl
@[simp] theorem modWrap_pending (f : WrapController → WrapController) : (s.modWrap f).pending = s.pending := rfl

/-! ### modLabel -/

@[simp] theorem modLabel_lineTime (f : LabelController → LabelController) : (s.modLabel f).lineTime = s.lineTime := rfl
@[simp] theorem modLabel_link (f : LabelController → LabelController) : (s.modLabel f).link = s.link := rfl
@[simp] theorem modLabel_plan (f : LabelController → LabelController) : (s.modLabel f).plan = s.plan := rfl
@[simp] theorem modLabel_field (f : LabelController → LabelController) : (s.modLabel f).field = s.field := rfl
@[simp] theorem modLabel_track (f : LabelController → LabelController) : (s.modLabel f).track = s.track := rfl
@[simp] theorem modLabel_merge (f : LabelController → LabelController) : (s.modLabel f).merge = s.merge := rfl
@[simp] theorem modLabel_check (f : LabelController → LabelController) : (s.modLabel f).check = s.check := rfl
@[simp] theorem modLabel_mass (f : LabelController → LabelController) : (s.modLabel f).mass = s.mass := rfl
@[simp] theorem modLabel_wrap (f : LabelController → LabelController) : (s.modLabel f).wrap = s.wrap := rfl
@[simp] theorem modLabel_label (f : LabelController → LabelController) : (s.modLabel f).label = f s.label := rfl
@[simp] theorem modLabel_buffer (f : LabelController → LabelController) : (s.modLabel f).buffer = s.buffer := rfl
@[simp] theorem modLabel_lanes (f : LabelController → LabelController) : (s.modLabel f).lanes = s.lanes := rfl
@[simp] theorem modLabel_mode (f : LabelController → LabelController) : (s.modLabel f).mode = s.mode := rfl
@[simp] theorem modLabel_settings (f : LabelController → LabelController) : (s.modLabel f).settings = s.settings := rfl
@[simp] theorem modLabel_reported (f : LabelController → LabelController) : (s.modLabel f).reported = s.reported := rfl
@[simp] theorem modLabel_sent (f : LabelController → LabelController) : (s.modLabel f).sent = s.sent := rfl
@[simp] theorem modLabel_freeDraws (f : LabelController → LabelController) : (s.modLabel f).freeDraws = s.freeDraws := rfl
@[simp] theorem modLabel_pending (f : LabelController → LabelController) : (s.modLabel f).pending = s.pending := rfl

/-! ### modBuffer -/

@[simp] theorem modBuffer_lineTime (f : BufferController → BufferController) : (s.modBuffer f).lineTime = s.lineTime := rfl
@[simp] theorem modBuffer_link (f : BufferController → BufferController) : (s.modBuffer f).link = s.link := rfl
@[simp] theorem modBuffer_plan (f : BufferController → BufferController) : (s.modBuffer f).plan = s.plan := rfl
@[simp] theorem modBuffer_field (f : BufferController → BufferController) : (s.modBuffer f).field = s.field := rfl
@[simp] theorem modBuffer_track (f : BufferController → BufferController) : (s.modBuffer f).track = s.track := rfl
@[simp] theorem modBuffer_merge (f : BufferController → BufferController) : (s.modBuffer f).merge = s.merge := rfl
@[simp] theorem modBuffer_check (f : BufferController → BufferController) : (s.modBuffer f).check = s.check := rfl
@[simp] theorem modBuffer_mass (f : BufferController → BufferController) : (s.modBuffer f).mass = s.mass := rfl
@[simp] theorem modBuffer_wrap (f : BufferController → BufferController) : (s.modBuffer f).wrap = s.wrap := rfl
@[simp] theorem modBuffer_label (f : BufferController → BufferController) : (s.modBuffer f).label = s.label := rfl
@[simp] theorem modBuffer_buffer (f : BufferController → BufferController) : (s.modBuffer f).buffer = f s.buffer := rfl
@[simp] theorem modBuffer_lanes (f : BufferController → BufferController) : (s.modBuffer f).lanes = s.lanes := rfl
@[simp] theorem modBuffer_mode (f : BufferController → BufferController) : (s.modBuffer f).mode = s.mode := rfl
@[simp] theorem modBuffer_settings (f : BufferController → BufferController) : (s.modBuffer f).settings = s.settings := rfl
@[simp] theorem modBuffer_reported (f : BufferController → BufferController) : (s.modBuffer f).reported = s.reported := rfl
@[simp] theorem modBuffer_sent (f : BufferController → BufferController) : (s.modBuffer f).sent = s.sent := rfl
@[simp] theorem modBuffer_freeDraws (f : BufferController → BufferController) : (s.modBuffer f).freeDraws = s.freeDraws := rfl
@[simp] theorem modBuffer_pending (f : BufferController → BufferController) : (s.modBuffer f).pending = s.pending := rfl

/-! ### modMode -/

@[simp] theorem modMode_lineTime (f : ModeController → ModeController) : (s.modMode f).lineTime = s.lineTime := rfl
@[simp] theorem modMode_link (f : ModeController → ModeController) : (s.modMode f).link = s.link := rfl
@[simp] theorem modMode_plan (f : ModeController → ModeController) : (s.modMode f).plan = s.plan := rfl
@[simp] theorem modMode_field (f : ModeController → ModeController) : (s.modMode f).field = s.field := rfl
@[simp] theorem modMode_track (f : ModeController → ModeController) : (s.modMode f).track = s.track := rfl
@[simp] theorem modMode_merge (f : ModeController → ModeController) : (s.modMode f).merge = s.merge := rfl
@[simp] theorem modMode_check (f : ModeController → ModeController) : (s.modMode f).check = s.check := rfl
@[simp] theorem modMode_mass (f : ModeController → ModeController) : (s.modMode f).mass = s.mass := rfl
@[simp] theorem modMode_wrap (f : ModeController → ModeController) : (s.modMode f).wrap = s.wrap := rfl
@[simp] theorem modMode_label (f : ModeController → ModeController) : (s.modMode f).label = s.label := rfl
@[simp] theorem modMode_buffer (f : ModeController → ModeController) : (s.modMode f).buffer = s.buffer := rfl
@[simp] theorem modMode_lanes (f : ModeController → ModeController) : (s.modMode f).lanes = s.lanes := rfl
@[simp] theorem modMode_mode (f : ModeController → ModeController) : (s.modMode f).mode = f s.mode := rfl
@[simp] theorem modMode_settings (f : ModeController → ModeController) : (s.modMode f).settings = s.settings := rfl
@[simp] theorem modMode_reported (f : ModeController → ModeController) : (s.modMode f).reported = s.reported := rfl
@[simp] theorem modMode_sent (f : ModeController → ModeController) : (s.modMode f).sent = s.sent := rfl
@[simp] theorem modMode_freeDraws (f : ModeController → ModeController) : (s.modMode f).freeDraws = s.freeDraws := rfl
@[simp] theorem modMode_pending (f : ModeController → ModeController) : (s.modMode f).pending = s.pending := rfl

/-! ### send -/

@[simp] theorem send_lineTime (m : Message) : (s.send m).lineTime = s.lineTime := rfl
@[simp] theorem send_link (m : Message) : (s.send m).link = s.link := rfl
@[simp] theorem send_plan (m : Message) : (s.send m).plan = s.plan := rfl
@[simp] theorem send_field (m : Message) : (s.send m).field = s.field := rfl
@[simp] theorem send_track (m : Message) : (s.send m).track = s.track := rfl
@[simp] theorem send_merge (m : Message) : (s.send m).merge = s.merge := rfl
@[simp] theorem send_check (m : Message) : (s.send m).check = s.check := rfl
@[simp] theorem send_mass (m : Message) : (s.send m).mass = s.mass := rfl
@[simp] theorem send_wrap (m : Message) : (s.send m).wrap = s.wrap := rfl
@[simp] theorem send_label (m : Message) : (s.send m).label = s.label := rfl
@[simp] theorem send_buffer (m : Message) : (s.send m).buffer = s.buffer := rfl
@[simp] theorem send_lanes (m : Message) : (s.send m).lanes = s.lanes := rfl
@[simp] theorem send_mode (m : Message) : (s.send m).mode = s.mode := rfl
@[simp] theorem send_settings (m : Message) : (s.send m).settings = s.settings := rfl
@[simp] theorem send_reported (m : Message) : (s.send m).reported = s.reported := rfl
@[simp] theorem send_sent (m : Message) : (s.send m).sent = s.sent ++ [m] := rfl
@[simp] theorem send_freeDraws (m : Message) : (s.send m).freeDraws = s.freeDraws := rfl
@[simp] theorem send_pending (m : Message) : (s.send m).pending = s.pending := rfl

/-! ### modPlace -/

@[simp] theorem modPlace_lineTime (p : Place) (f : PlaceEntry → PlaceEntry) : (s.modPlace p f).lineTime = s.lineTime := rfl
@[simp] theorem modPlace_link (p : Place) (f : PlaceEntry → PlaceEntry) : (s.modPlace p f).link = s.link := rfl
@[simp] theorem modPlace_plan (p : Place) (f : PlaceEntry → PlaceEntry) : (s.modPlace p f).plan = s.plan := rfl
@[simp] theorem modPlace_field (p : Place) (f : PlaceEntry → PlaceEntry) : (s.modPlace p f).field = { s.field with places := tmod s.field.places p.idx f } := rfl
@[simp] theorem modPlace_track (p : Place) (f : PlaceEntry → PlaceEntry) : (s.modPlace p f).track = s.track := rfl
@[simp] theorem modPlace_merge (p : Place) (f : PlaceEntry → PlaceEntry) : (s.modPlace p f).merge = s.merge := rfl
@[simp] theorem modPlace_check (p : Place) (f : PlaceEntry → PlaceEntry) : (s.modPlace p f).check = s.check := rfl
@[simp] theorem modPlace_mass (p : Place) (f : PlaceEntry → PlaceEntry) : (s.modPlace p f).mass = s.mass := rfl
@[simp] theorem modPlace_wrap (p : Place) (f : PlaceEntry → PlaceEntry) : (s.modPlace p f).wrap = s.wrap := rfl
@[simp] theorem modPlace_label (p : Place) (f : PlaceEntry → PlaceEntry) : (s.modPlace p f).label = s.label := rfl
@[simp] theorem modPlace_buffer (p : Place) (f : PlaceEntry → PlaceEntry) : (s.modPlace p f).buffer = s.buffer := rfl
@[simp] theorem modPlace_lanes (p : Place) (f : PlaceEntry → PlaceEntry) : (s.modPlace p f).lanes = s.lanes := rfl
@[simp] theorem modPlace_mode (p : Place) (f : PlaceEntry → PlaceEntry) : (s.modPlace p f).mode = s.mode := rfl
@[simp] theorem modPlace_settings (p : Place) (f : PlaceEntry → PlaceEntry) : (s.modPlace p f).settings = s.settings := rfl
@[simp] theorem modPlace_reported (p : Place) (f : PlaceEntry → PlaceEntry) : (s.modPlace p f).reported = s.reported := rfl
@[simp] theorem modPlace_sent (p : Place) (f : PlaceEntry → PlaceEntry) : (s.modPlace p f).sent = s.sent := rfl
@[simp] theorem modPlace_freeDraws (p : Place) (f : PlaceEntry → PlaceEntry) : (s.modPlace p f).freeDraws = s.freeDraws := rfl
@[simp] theorem modPlace_pending (p : Place) (f : PlaceEntry → PlaceEntry) : (s.modPlace p f).pending = s.pending := rfl

/-! ### modZone -/

@[simp] theorem modZone_lineTime (z : Zone) (f : ZoneEntry → ZoneEntry) : (s.modZone z f).lineTime = s.lineTime := rfl
@[simp] theorem modZone_link (z : Zone) (f : ZoneEntry → ZoneEntry) : (s.modZone z f).link = s.link := rfl
@[simp] theorem modZone_plan (z : Zone) (f : ZoneEntry → ZoneEntry) : (s.modZone z f).plan = s.plan := rfl
@[simp] theorem modZone_field (z : Zone) (f : ZoneEntry → ZoneEntry) : (s.modZone z f).field = { s.field with zones := tmod s.field.zones z.idx f } := rfl
@[simp] theorem modZone_track (z : Zone) (f : ZoneEntry → ZoneEntry) : (s.modZone z f).track = s.track := rfl
@[simp] theorem modZone_merge (z : Zone) (f : ZoneEntry → ZoneEntry) : (s.modZone z f).merge = s.merge := rfl
@[simp] theorem modZone_check (z : Zone) (f : ZoneEntry → ZoneEntry) : (s.modZone z f).check = s.check := rfl
@[simp] theorem modZone_mass (z : Zone) (f : ZoneEntry → ZoneEntry) : (s.modZone z f).mass = s.mass := rfl
@[simp] theorem modZone_wrap (z : Zone) (f : ZoneEntry → ZoneEntry) : (s.modZone z f).wrap = s.wrap := rfl
@[simp] theorem modZone_label (z : Zone) (f : ZoneEntry → ZoneEntry) : (s.modZone z f).label = s.label := rfl
@[simp] theorem modZone_buffer (z : Zone) (f : ZoneEntry → ZoneEntry) : (s.modZone z f).buffer = s.buffer := rfl
@[simp] theorem modZone_lanes (z : Zone) (f : ZoneEntry → ZoneEntry) : (s.modZone z f).lanes = s.lanes := rfl
@[simp] theorem modZone_mode (z : Zone) (f : ZoneEntry → ZoneEntry) : (s.modZone z f).mode = s.mode := rfl
@[simp] theorem modZone_settings (z : Zone) (f : ZoneEntry → ZoneEntry) : (s.modZone z f).settings = s.settings := rfl
@[simp] theorem modZone_reported (z : Zone) (f : ZoneEntry → ZoneEntry) : (s.modZone z f).reported = s.reported := rfl
@[simp] theorem modZone_sent (z : Zone) (f : ZoneEntry → ZoneEntry) : (s.modZone z f).sent = s.sent := rfl
@[simp] theorem modZone_freeDraws (z : Zone) (f : ZoneEntry → ZoneEntry) : (s.modZone z f).freeDraws = s.freeDraws := rfl
@[simp] theorem modZone_pending (z : Zone) (f : ZoneEntry → ZoneEntry) : (s.modZone z f).pending = s.pending := rfl

/-! ### modScanner -/

@[simp] theorem modScanner_lineTime (sc : Scanner) (f : ScannerState → ScannerState) : (s.modScanner sc f).lineTime = s.lineTime := rfl
@[simp] theorem modScanner_link (sc : Scanner) (f : ScannerState → ScannerState) : (s.modScanner sc f).link = s.link := rfl
@[simp] theorem modScanner_plan (sc : Scanner) (f : ScannerState → ScannerState) : (s.modScanner sc f).plan = s.plan := rfl
@[simp] theorem modScanner_field (sc : Scanner) (f : ScannerState → ScannerState) : (s.modScanner sc f).field = s.field := rfl
@[simp] theorem modScanner_track (sc : Scanner) (f : ScannerState → ScannerState) : (s.modScanner sc f).track = { s.track with scanners := tmod s.track.scanners sc.idx f } := rfl
@[simp] theorem modScanner_merge (sc : Scanner) (f : ScannerState → ScannerState) : (s.modScanner sc f).merge = s.merge := rfl
@[simp] theorem modScanner_check (sc : Scanner) (f : ScannerState → ScannerState) : (s.modScanner sc f).check = s.check := rfl
@[simp] theorem modScanner_mass (sc : Scanner) (f : ScannerState → ScannerState) : (s.modScanner sc f).mass = s.mass := rfl
@[simp] theorem modScanner_wrap (sc : Scanner) (f : ScannerState → ScannerState) : (s.modScanner sc f).wrap = s.wrap := rfl
@[simp] theorem modScanner_label (sc : Scanner) (f : ScannerState → ScannerState) : (s.modScanner sc f).label = s.label := rfl
@[simp] theorem modScanner_buffer (sc : Scanner) (f : ScannerState → ScannerState) : (s.modScanner sc f).buffer = s.buffer := rfl
@[simp] theorem modScanner_lanes (sc : Scanner) (f : ScannerState → ScannerState) : (s.modScanner sc f).lanes = s.lanes := rfl
@[simp] theorem modScanner_mode (sc : Scanner) (f : ScannerState → ScannerState) : (s.modScanner sc f).mode = s.mode := rfl
@[simp] theorem modScanner_settings (sc : Scanner) (f : ScannerState → ScannerState) : (s.modScanner sc f).settings = s.settings := rfl
@[simp] theorem modScanner_reported (sc : Scanner) (f : ScannerState → ScannerState) : (s.modScanner sc f).reported = s.reported := rfl
@[simp] theorem modScanner_sent (sc : Scanner) (f : ScannerState → ScannerState) : (s.modScanner sc f).sent = s.sent := rfl
@[simp] theorem modScanner_freeDraws (sc : Scanner) (f : ScannerState → ScannerState) : (s.modScanner sc f).freeDraws = s.freeDraws := rfl
@[simp] theorem modScanner_pending (sc : Scanner) (f : ScannerState → ScannerState) : (s.modScanner sc f).pending = s.pending := rfl

/-! ### modWrapper -/

@[simp] theorem modWrapper_lineTime (w : Side) (f : WrapperState → WrapperState) : (s.modWrapper w f).lineTime = s.lineTime := rfl
@[simp] theorem modWrapper_link (w : Side) (f : WrapperState → WrapperState) : (s.modWrapper w f).link = s.link := rfl
@[simp] theorem modWrapper_plan (w : Side) (f : WrapperState → WrapperState) : (s.modWrapper w f).plan = s.plan := rfl
@[simp] theorem modWrapper_field (w : Side) (f : WrapperState → WrapperState) : (s.modWrapper w f).field = s.field := rfl
@[simp] theorem modWrapper_track (w : Side) (f : WrapperState → WrapperState) : (s.modWrapper w f).track = s.track := rfl
@[simp] theorem modWrapper_merge (w : Side) (f : WrapperState → WrapperState) : (s.modWrapper w f).merge = s.merge := rfl
@[simp] theorem modWrapper_check (w : Side) (f : WrapperState → WrapperState) : (s.modWrapper w f).check = s.check := rfl
@[simp] theorem modWrapper_mass (w : Side) (f : WrapperState → WrapperState) : (s.modWrapper w f).mass = s.mass := rfl
@[simp] theorem modWrapper_wrap (w : Side) (f : WrapperState → WrapperState) : (s.modWrapper w f).wrap = { s.wrap with wrappers := tmod s.wrap.wrappers w.idx f } := rfl
@[simp] theorem modWrapper_label (w : Side) (f : WrapperState → WrapperState) : (s.modWrapper w f).label = s.label := rfl
@[simp] theorem modWrapper_buffer (w : Side) (f : WrapperState → WrapperState) : (s.modWrapper w f).buffer = s.buffer := rfl
@[simp] theorem modWrapper_lanes (w : Side) (f : WrapperState → WrapperState) : (s.modWrapper w f).lanes = s.lanes := rfl
@[simp] theorem modWrapper_mode (w : Side) (f : WrapperState → WrapperState) : (s.modWrapper w f).mode = s.mode := rfl
@[simp] theorem modWrapper_settings (w : Side) (f : WrapperState → WrapperState) : (s.modWrapper w f).settings = s.settings := rfl
@[simp] theorem modWrapper_reported (w : Side) (f : WrapperState → WrapperState) : (s.modWrapper w f).reported = s.reported := rfl
@[simp] theorem modWrapper_sent (w : Side) (f : WrapperState → WrapperState) : (s.modWrapper w f).sent = s.sent := rfl
@[simp] theorem modWrapper_freeDraws (w : Side) (f : WrapperState → WrapperState) : (s.modWrapper w f).freeDraws = s.freeDraws := rfl
@[simp] theorem modWrapper_pending (w : Side) (f : WrapperState → WrapperState) : (s.modWrapper w f).pending = s.pending := rfl

/-! ### setStaging -/

@[simp] theorem setStaging_lineTime (k : Side) (e : Option StagingEntry) : (s.setStaging k e).lineTime = s.lineTime := rfl
@[simp] theorem setStaging_link (k : Side) (e : Option StagingEntry) : (s.setStaging k e).link = s.link := rfl
@[simp] theorem setStaging_plan (k : Side) (e : Option StagingEntry) : (s.setStaging k e).plan = s.plan := rfl
@[simp] theorem setStaging_field (k : Side) (e : Option StagingEntry) : (s.setStaging k e).field = s.field := rfl
@[simp] theorem setStaging_track (k : Side) (e : Option StagingEntry) : (s.setStaging k e).track = s.track := rfl
@[simp] theorem setStaging_merge (k : Side) (e : Option StagingEntry) : (s.setStaging k e).merge = s.merge := rfl
@[simp] theorem setStaging_check (k : Side) (e : Option StagingEntry) : (s.setStaging k e).check = s.check := rfl
@[simp] theorem setStaging_mass (k : Side) (e : Option StagingEntry) : (s.setStaging k e).mass = s.mass := rfl
@[simp] theorem setStaging_wrap (k : Side) (e : Option StagingEntry) : (s.setStaging k e).wrap = { s.wrap with staging := tset s.wrap.staging k.idx e } := rfl
@[simp] theorem setStaging_label (k : Side) (e : Option StagingEntry) : (s.setStaging k e).label = s.label := rfl
@[simp] theorem setStaging_buffer (k : Side) (e : Option StagingEntry) : (s.setStaging k e).buffer = s.buffer := rfl
@[simp] theorem setStaging_lanes (k : Side) (e : Option StagingEntry) : (s.setStaging k e).lanes = s.lanes := rfl
@[simp] theorem setStaging_mode (k : Side) (e : Option StagingEntry) : (s.setStaging k e).mode = s.mode := rfl
@[simp] theorem setStaging_settings (k : Side) (e : Option StagingEntry) : (s.setStaging k e).settings = s.settings := rfl
@[simp] theorem setStaging_reported (k : Side) (e : Option StagingEntry) : (s.setStaging k e).reported = s.reported := rfl
@[simp] theorem setStaging_sent (k : Side) (e : Option StagingEntry) : (s.setStaging k e).sent = s.sent := rfl
@[simp] theorem setStaging_freeDraws (k : Side) (e : Option StagingEntry) : (s.setStaging k e).freeDraws = s.freeDraws := rfl
@[simp] theorem setStaging_pending (k : Side) (e : Option StagingEntry) : (s.setStaging k e).pending = s.pending := rfl

/-! ### modLane -/

@[simp] theorem modLane_lineTime (l : Lane) (f : LaneEntry → LaneEntry) : (s.modLane l f).lineTime = s.lineTime := rfl
@[simp] theorem modLane_link (l : Lane) (f : LaneEntry → LaneEntry) : (s.modLane l f).link = s.link := rfl
@[simp] theorem modLane_plan (l : Lane) (f : LaneEntry → LaneEntry) : (s.modLane l f).plan = s.plan := rfl
@[simp] theorem modLane_field (l : Lane) (f : LaneEntry → LaneEntry) : (s.modLane l f).field = s.field := rfl
@[simp] theorem modLane_track (l : Lane) (f : LaneEntry → LaneEntry) : (s.modLane l f).track = s.track := rfl
@[simp] theorem modLane_merge (l : Lane) (f : LaneEntry → LaneEntry) : (s.modLane l f).merge = s.merge := rfl
@[simp] theorem modLane_check (l : Lane) (f : LaneEntry → LaneEntry) : (s.modLane l f).check = s.check := rfl
@[simp] theorem modLane_mass (l : Lane) (f : LaneEntry → LaneEntry) : (s.modLane l f).mass = s.mass := rfl
@[simp] theorem modLane_wrap (l : Lane) (f : LaneEntry → LaneEntry) : (s.modLane l f).wrap = s.wrap := rfl
@[simp] theorem modLane_label (l : Lane) (f : LaneEntry → LaneEntry) : (s.modLane l f).label = s.label := rfl
@[simp] theorem modLane_buffer (l : Lane) (f : LaneEntry → LaneEntry) : (s.modLane l f).buffer = s.buffer := rfl
@[simp] theorem modLane_lanes (l : Lane) (f : LaneEntry → LaneEntry) : (s.modLane l f).lanes = tmod s.lanes l f := rfl
@[simp] theorem modLane_mode (l : Lane) (f : LaneEntry → LaneEntry) : (s.modLane l f).mode = s.mode := rfl
@[simp] theorem modLane_settings (l : Lane) (f : LaneEntry → LaneEntry) : (s.modLane l f).settings = s.settings := rfl
@[simp] theorem modLane_reported (l : Lane) (f : LaneEntry → LaneEntry) : (s.modLane l f).reported = s.reported := rfl
@[simp] theorem modLane_sent (l : Lane) (f : LaneEntry → LaneEntry) : (s.modLane l f).sent = s.sent := rfl
@[simp] theorem modLane_freeDraws (l : Lane) (f : LaneEntry → LaneEntry) : (s.modLane l f).freeDraws = s.freeDraws := rfl
@[simp] theorem modLane_pending (l : Lane) (f : LaneEntry → LaneEntry) : (s.modLane l f).pending = s.pending := rfl

/-! ### modRecord -/

@[simp] theorem modRecord_lineTime (n : Nat) (f : Record → Record) : (s.modRecord n f).lineTime = s.lineTime := rfl
@[simp] theorem modRecord_link (n : Nat) (f : Record → Record) : (s.modRecord n f).link = s.link := rfl
@[simp] theorem modRecord_plan (n : Nat) (f : Record → Record) : (s.modRecord n f).plan = s.plan := rfl
@[simp] theorem modRecord_field (n : Nat) (f : Record → Record) : (s.modRecord n f).field = s.field := rfl
@[simp] theorem modRecord_track (n : Nat) (f : Record → Record) : (s.modRecord n f).track = { s.track with records := s.track.records.map fun r => if r.number == n then f r else r } := rfl
@[simp] theorem modRecord_merge (n : Nat) (f : Record → Record) : (s.modRecord n f).merge = s.merge := rfl
@[simp] theorem modRecord_check (n : Nat) (f : Record → Record) : (s.modRecord n f).check = s.check := rfl
@[simp] theorem modRecord_mass (n : Nat) (f : Record → Record) : (s.modRecord n f).mass = s.mass := rfl
@[simp] theorem modRecord_wrap (n : Nat) (f : Record → Record) : (s.modRecord n f).wrap = s.wrap := rfl
@[simp] theorem modRecord_label (n : Nat) (f : Record → Record) : (s.modRecord n f).label = s.label := rfl
@[simp] theorem modRecord_buffer (n : Nat) (f : Record → Record) : (s.modRecord n f).buffer = s.buffer := rfl
@[simp] theorem modRecord_lanes (n : Nat) (f : Record → Record) : (s.modRecord n f).lanes = s.lanes := rfl
@[simp] theorem modRecord_mode (n : Nat) (f : Record → Record) : (s.modRecord n f).mode = s.mode := rfl
@[simp] theorem modRecord_settings (n : Nat) (f : Record → Record) : (s.modRecord n f).settings = s.settings := rfl
@[simp] theorem modRecord_reported (n : Nat) (f : Record → Record) : (s.modRecord n f).reported = s.reported := rfl
@[simp] theorem modRecord_sent (n : Nat) (f : Record → Record) : (s.modRecord n f).sent = s.sent := rfl
@[simp] theorem modRecord_freeDraws (n : Nat) (f : Record → Record) : (s.modRecord n f).freeDraws = s.freeDraws := rfl
@[simp] theorem modRecord_pending (n : Nat) (f : Record → Record) : (s.modRecord n f).pending = s.pending := rfl

/-! ### setStage -/

@[simp] theorem setStage_lineTime (n : Nat) (st : Stage) : (s.setStage n st).lineTime = s.lineTime := rfl
@[simp] theorem setStage_link (n : Nat) (st : Stage) : (s.setStage n st).link = s.link := rfl
@[simp] theorem setStage_plan (n : Nat) (st : Stage) : (s.setStage n st).plan = s.plan := rfl
@[simp] theorem setStage_field (n : Nat) (st : Stage) : (s.setStage n st).field = s.field := rfl
@[simp] theorem setStage_track (n : Nat) (st : Stage) : (s.setStage n st).track = { s.track with records := s.track.records.map fun r => if r.number == n then { r with stage := st } else r } := rfl
@[simp] theorem setStage_merge (n : Nat) (st : Stage) : (s.setStage n st).merge = s.merge := rfl
@[simp] theorem setStage_check (n : Nat) (st : Stage) : (s.setStage n st).check = s.check := rfl
@[simp] theorem setStage_mass (n : Nat) (st : Stage) : (s.setStage n st).mass = s.mass := rfl
@[simp] theorem setStage_wrap (n : Nat) (st : Stage) : (s.setStage n st).wrap = s.wrap := rfl
@[simp] theorem setStage_label (n : Nat) (st : Stage) : (s.setStage n st).label = s.label := rfl
@[simp] theorem setStage_buffer (n : Nat) (st : Stage) : (s.setStage n st).buffer = s.buffer := rfl
@[simp] theorem setStage_lanes (n : Nat) (st : Stage) : (s.setStage n st).lanes = s.lanes := rfl
@[simp] theorem setStage_mode (n : Nat) (st : Stage) : (s.setStage n st).mode = s.mode := rfl
@[simp] theorem setStage_settings (n : Nat) (st : Stage) : (s.setStage n st).settings = s.settings := rfl
@[simp] theorem setStage_reported (n : Nat) (st : Stage) : (s.setStage n st).reported = s.reported := rfl
@[simp] theorem setStage_sent (n : Nat) (st : Stage) : (s.setStage n st).sent = s.sent := rfl
@[simp] theorem setStage_freeDraws (n : Nat) (st : Stage) : (s.setStage n st).freeDraws = s.freeDraws := rfl
@[simp] theorem setStage_pending (n : Nat) (st : Stage) : (s.setStage n st).pending = s.pending := rfl

/-! ### modMove -/

@[simp] theorem modMove_lineTime (n : Nat) (f : Move → Move) : (s.modMove n f).lineTime = s.lineTime := rfl
@[simp] theorem modMove_link (n : Nat) (f : Move → Move) : (s.modMove n f).link = s.link := rfl
@[simp] theorem modMove_plan (n : Nat) (f : Move → Move) : (s.modMove n f).plan = s.plan := rfl
@[simp] theorem modMove_field (n : Nat) (f : Move → Move) : (s.modMove n f).field = { s.field with moves := s.field.moves.map fun m => if m.track == n then f m else m } := rfl
@[simp] theorem modMove_track (n : Nat) (f : Move → Move) : (s.modMove n f).track = s.track := rfl
@[simp] theorem modMove_merge (n : Nat) (f : Move → Move) : (s.modMove n f).merge = s.merge := rfl
@[simp] theorem modMove_check (n : Nat) (f : Move → Move) : (s.modMove n f).check = s.check := rfl
@[simp] theorem modMove_mass (n : Nat) (f : Move → Move) : (s.modMove n f).mass = s.mass := rfl
@[simp] theorem modMove_wrap (n : Nat) (f : Move → Move) : (s.modMove n f).wrap = s.wrap := rfl
@[simp] theorem modMove_label (n : Nat) (f : Move → Move) : (s.modMove n f).label = s.label := rfl
@[simp] theorem modMove_buffer (n : Nat) (f : Move → Move) : (s.modMove n f).buffer = s.buffer := rfl
@[simp] theorem modMove_lanes (n : Nat) (f : Move → Move) : (s.modMove n f).lanes = s.lanes := rfl
@[simp] theorem modMove_mode (n : Nat) (f : Move → Move) : (s.modMove n f).mode = s.mode := rfl
@[simp] theorem modMove_settings (n : Nat) (f : Move → Move) : (s.modMove n f).settings = s.settings := rfl
@[simp] theorem modMove_reported (n : Nat) (f : Move → Move) : (s.modMove n f).reported = s.reported := rfl
@[simp] theorem modMove_sent (n : Nat) (f : Move → Move) : (s.modMove n f).sent = s.sent := rfl
@[simp] theorem modMove_freeDraws (n : Nat) (f : Move → Move) : (s.modMove n f).freeDraws = s.freeDraws := rfl
@[simp] theorem modMove_pending (n : Nat) (f : Move → Move) : (s.modMove n f).pending = s.pending := rfl

/-! ### removeMove -/

@[simp] theorem removeMove_lineTime (n : Nat) : (s.removeMove n).lineTime = s.lineTime := rfl
@[simp] theorem removeMove_link (n : Nat) : (s.removeMove n).link = s.link := rfl
@[simp] theorem removeMove_plan (n : Nat) : (s.removeMove n).plan = s.plan := rfl
@[simp] theorem removeMove_field (n : Nat) : (s.removeMove n).field = { s.field with moves := s.field.moves.filter fun m => m.track != n } := rfl
@[simp] theorem removeMove_track (n : Nat) : (s.removeMove n).track = s.track := rfl
@[simp] theorem removeMove_merge (n : Nat) : (s.removeMove n).merge = s.merge := rfl
@[simp] theorem removeMove_check (n : Nat) : (s.removeMove n).check = s.check := rfl
@[simp] theorem removeMove_mass (n : Nat) : (s.removeMove n).mass = s.mass := rfl
@[simp] theorem removeMove_wrap (n : Nat) : (s.removeMove n).wrap = s.wrap := rfl
@[simp] theorem removeMove_label (n : Nat) : (s.removeMove n).label = s.label := rfl
@[simp] theorem removeMove_buffer (n : Nat) : (s.removeMove n).buffer = s.buffer := rfl
@[simp] theorem removeMove_lanes (n : Nat) : (s.removeMove n).lanes = s.lanes := rfl
@[simp] theorem removeMove_mode (n : Nat) : (s.removeMove n).mode = s.mode := rfl
@[simp] theorem removeMove_settings (n : Nat) : (s.removeMove n).settings = s.settings := rfl
@[simp] theorem removeMove_reported (n : Nat) : (s.removeMove n).reported = s.reported := rfl
@[simp] theorem removeMove_sent (n : Nat) : (s.removeMove n).sent = s.sent := rfl
@[simp] theorem removeMove_freeDraws (n : Nat) : (s.removeMove n).freeDraws = s.freeDraws := rfl
@[simp] theorem removeMove_pending (n : Nat) : (s.removeMove n).pending = s.pending := rfl

/-! ### modLoad -/

@[simp] theorem modLoad_lineTime (id : Nat) (f : Load → Load) : (s.modLoad id f).lineTime = s.lineTime := rfl
@[simp] theorem modLoad_link (id : Nat) (f : Load → Load) : (s.modLoad id f).link = s.link := rfl
@[simp] theorem modLoad_plan (id : Nat) (f : Load → Load) : (s.modLoad id f).plan = { s.plan with loads := s.plan.loads.map fun l => if l.id == id then f l else l } := rfl
@[simp] theorem modLoad_field (id : Nat) (f : Load → Load) : (s.modLoad id f).field = s.field := rfl
@[simp] theorem modLoad_track (id : Nat) (f : Load → Load) : (s.modLoad id f).track = s.track := rfl
@[simp] theorem modLoad_merge (id : Nat) (f : Load → Load) : (s.modLoad id f).merge = s.merge := rfl
@[simp] theorem modLoad_check (id : Nat) (f : Load → Load) : (s.modLoad id f).check = s.check := rfl
@[simp] theorem modLoad_mass (id : Nat) (f : Load → Load) : (s.modLoad id f).mass = s.mass := rfl
@[simp] theorem modLoad_wrap (id : Nat) (f : Load → Load) : (s.modLoad id f).wrap = s.wrap := rfl
@[simp] theorem modLoad_label (id : Nat) (f : Load → Load) : (s.modLoad id f).label = s.label := rfl
@[simp] theorem modLoad_buffer (id : Nat) (f : Load → Load) : (s.modLoad id f).buffer = s.buffer := rfl
@[simp] theorem modLoad_lanes (id : Nat) (f : Load → Load) : (s.modLoad id f).lanes = s.lanes := rfl
@[simp] theorem modLoad_mode (id : Nat) (f : Load → Load) : (s.modLoad id f).mode = s.mode := rfl
@[simp] theorem modLoad_settings (id : Nat) (f : Load → Load) : (s.modLoad id f).settings = s.settings := rfl
@[simp] theorem modLoad_reported (id : Nat) (f : Load → Load) : (s.modLoad id f).reported = s.reported := rfl
@[simp] theorem modLoad_sent (id : Nat) (f : Load → Load) : (s.modLoad id f).sent = s.sent := rfl
@[simp] theorem modLoad_freeDraws (id : Nat) (f : Load → Load) : (s.modLoad id f).freeDraws = s.freeDraws := rfl
@[simp] theorem modLoad_pending (id : Nat) (f : Load → Load) : (s.modLoad id f).pending = s.pending := rfl

end Sys2Proof.Machine.State
end

