-- ==== Sys2Proof/Laws/Table.lean ====
section
/-! SUPPORT. Reading a table of fixed length after it is changed. -/

namespace Sys2Proof

variable {α β : Type} {n : Nat}

@[simp] theorem tget_tset_self (v : Vector α n) (i : Fin n) (x : α) : tget (tset v i x) i = x := by simp [tget, tset]

theorem tget_tset_of_ne (v : Vector α n) {i j : Fin n} (x : α) (h : i ≠ j) : tget (tset v i x) j = tget v j := by
  simp only [tget, tset, Fin.getElem_fin]
  exact Vector.getElem_set_ne _ _ (fun e => h (Fin.ext e))

theorem tget_tset (v : Vector α n) (i j : Fin n) (x : α) : tget (tset v i x) j = if i = j then x else tget v j := by
  by_cases h : i = j
  · subst h; simp
  · simp [h, tget_tset_of_ne v x h]

@[simp] theorem tget_tmod_self (v : Vector α n) (i : Fin n) (f : α → α) : tget (tmod v i f) i = f (tget v i) := by
  simp [tmod]

theorem tget_tmod_of_ne (v : Vector α n) {i j : Fin n} (f : α → α) (h : i ≠ j) : tget (tmod v i f) j = tget v j := by
  simp [tmod, tget_tset_of_ne _ _ h]

theorem tget_tmod (v : Vector α n) (i j : Fin n) (f : α → α) :
    tget (tmod v i f) j = if i = j then f (tget v j) else tget v j := by
  by_cases h : i = j
  · subst h; simp
  · simp [h, tget_tmod_of_ne v f h]

@[simp] theorem tget_tmap (f : α → β) (v : Vector α n) (i : Fin n) : tget (tmap f v) i = f (tget v i) := by
  simp [tget, tmap]

@[simp] theorem tget_replicate (x : α) (i : Fin n) : tget (Vector.replicate n x) i = x := by simp [tget]

/-- Two tables that agree at every index are equal. -/
theorem table_ext {v w : Vector α n} (h : ∀ i : Fin n, tget v i = tget w i) : v = w :=
  Vector.ext fun i hi => h ⟨i, hi⟩

end Sys2Proof
end

