-- ==== Sys2Proof/Laws/Ops.lean ====
section
/-! SUPPORT. What each shared operation of Machine/Ops.lean can do, said once. -/

namespace Sys2Proof.Machine

namespace State

variable (s : State)

/-! ### Reports and counters (R197, R199) -/

/-- Raising a report changes the report queue, the attention line and the overflow flag alone: it is dropped by the mask, appended
with the line asserted, or dropped with the flag set. -/
theorem raise_cases (k : ReportKind) (n : Note) :
    (tget s.link.mask k.idx = false ∧ s.raise k n = s)
      ∨ (tget s.link.mask k.idx = true ∧ s.link.reports.length < 64
          ∧ s.raise k n = s.modLink fun u => { u with reports := u.reports ++ [s.report k n], attention := true })
      ∨ (tget s.link.mask k.idx = true ∧ 64 ≤ s.link.reports.length
          ∧ s.raise k n = s.modLink fun u => { u with overflow := true }) := by
  unfold State.raise Config.reportCapacity
  by_cases hm : tget s.link.mask k.idx = true
  · by_cases hl : s.link.reports.length < 64
    · exact .inr (.inl ⟨hm, hl, by simp [hm, hl]⟩)
    · exact .inr (.inr ⟨hm, by omega, by simp [hm, hl]⟩)
  · exact .inl ⟨by simpa using hm, by simp [hm]⟩

/-- A raised report leaves a state that differs in the report queue, the overflow flag and the attention line alone. -/
theorem raise_eq (k : ReportKind) (n : Note) :
    ∃ rs ov att, s.raise k n = s.modLink fun u => { u with reports := rs, overflow := ov, attention := att } := by
  obtain ⟨-, h⟩ | ⟨-, -, h⟩ | ⟨-, -, h⟩ := s.raise_cases k n
  · exact ⟨s.link.reports, s.link.overflow, s.link.attention, h⟩
  · exact ⟨_, s.link.overflow, true, h⟩
  · exact ⟨s.link.reports, true, s.link.attention, h⟩

/-- The attention line stays asserted exactly while the queue holds a report, through a raise (R197). -/
theorem raise_attention (k : ReportKind) (n : Note) (h : s.link.attention = true ↔ s.link.reports ≠ []) :
    (s.raise k n).link.attention = true ↔ (s.raise k n).link.reports ≠ [] := by
  obtain ⟨-, e⟩ | ⟨-, -, e⟩ | ⟨-, -, e⟩ := s.raise_cases k n <;> rw [e]
  · exact h
  · simp
  · exact h

/-- The queue after a raise holds at most 64 reports when it did before (R197). -/
theorem raise_length (k : ReportKind) (n : Note) (h : s.link.reports.length ≤ 64) :
    (s.raise k n).link.reports.length ≤ 64 := by
  obtain ⟨-, e⟩ | ⟨-, hl, e⟩ | ⟨-, -, e⟩ := s.raise_cases k n <;> rw [e]
  · exact h
  · simp; omega
  · exact h

/-- A raise leaves every queued report in its place (R197). -/
theorem raise_prefix (k : ReportKind) (n : Note) : s.link.reports <+: (s.raise k n).link.reports := by
  obtain ⟨-, e⟩ | ⟨-, -, e⟩ | ⟨-, -, e⟩ := s.raise_cases k n <;> simp [e]

/-- The counter table after a raise of a counter (R199). -/
def counted (s : State) (c : Counter) : Vector CounterEntry 11 :=
  let e := tget s.link.counters c.idx
  if e.count < 65535 then tset s.link.counters c.idx ⟨e.count + 1, e.armed && e.count != 32767⟩ else s.link.counters

/-- Raising a counter changes the counters, the report queue, the overflow flag and the attention line alone. -/
theorem count_eq (c : Counter) : ∃ rs ov att, s.count c = s.modLink fun u =>
    { u with reports := rs, overflow := ov, attention := att, counters := s.counted c } := by
  unfold State.count counted
  by_cases hc : (tget s.link.counters c.idx).count < 65535
  · by_cases hh : ((tget s.link.counters c.idx).count == 32767 && (tget s.link.counters c.idx).armed) = true
    · obtain ⟨rs, ov, att, e⟩ := (s.modLink fun u => { u with
        counters := tset u.counters c.idx ⟨(tget s.link.counters c.idx).count + 1, false⟩ }).raise_eq .counterHalf
          { detail := c.number, value := some 32768 }
      refine ⟨rs, ov, att, ?_⟩
      simp only [Bool.and_eq_true, beq_iff_eq] at hh
      simp only [hh, if_true, beq_self_eq_true, Bool.and_self]
      simpa [State.modLink, hh] using e
    · refine ⟨s.link.reports, s.link.overflow, s.link.attention, ?_⟩
      simp only [hc, hh, if_true]
      simp only [Bool.and_eq_true, beq_iff_eq, not_and] at hh
      have : (e : CounterEntry) → (e.count = 32767 → e.armed ≠ true) → (e.armed && e.count != 32767) = e.armed := by
        intro e he
        by_cases h : e.count = 32767
        · simp [h, Bool.eq_false_iff.mpr (he h)]
        · simp [h]
      simp [State.modLink, this _ (fun h => by simpa using hh h)]
  · exact ⟨s.link.reports, s.link.overflow, s.link.attention, by simp [hc, State.modLink]⟩

/-! ### Matching (R11) -/

/-- A match claims an EXPECTED slot that carries the tag for the record, and otherwise changes nothing: it answers TAKEN with the
slot's reference and state, or NOT_FOUND. -/
theorem claim_cases (d : Text) (n : Nat) :
    (∃ ref sl, s.tagIndex d = some ref ∧ s.slot? ref = some sl ∧ sl.state = .expected
        ∧ s.claim d n = (s.modSlot ref fun sl => { sl with state := .claimed, claimant := some n }, .claimed ref))
      ∨ (∃ ref sl, s.tagIndex d = some ref ∧ s.slot? ref = some sl ∧ sl.state ≠ .expected
        ∧ s.claim d n = (s, .taken ref sl.state))
      ∨ ((s.tagIndex d).bind s.slot? = none ∧ s.claim d n = (s, .notFound)) := by
  unfold State.claim
  cases ht : s.tagIndex d with
  | none => exact .inr (.inr ⟨rfl, rfl⟩)
  | some ref =>
    cases hs : s.slot? ref with
    | none => exact .inr (.inr ⟨hs, by simp [hs]⟩)
    | some sl =>
      by_cases he : sl.state = .expected
      · exact .inl ⟨ref, sl, rfl, hs, he, by simp [hs, he]⟩
      · exact .inr (.inl ⟨ref, sl, rfl, hs, he, by simp [hs, he]⟩)

end State

end Sys2Proof.Machine
end

