-- ==== Sys2Proof/Laws/Keeps.lean ====
section
/-! SUPPORT. Frames of the operations that change one block: a change keeps every part of the state but those it names. Each
lemma is an equivalence, so that simp carries a frame through a chain of operations. -/

namespace Sys2Proof.Machine

open State

variable {bs : List Block} {r s s' : State}

@[simp] theorem keeps_refl : KeepsAllBut bs s s := by
  intro b _; cases b <;> simp [Block.Same]

theorem Block.Same.congr {b : Block} (h : b.Same s s') : b.Same r s' ↔ b.Same r s := by
  cases b <;> simp_all [Block.Same]

/-- Two states that agree outside the parts named are framed alike. -/
theorem keeps_congr (h : KeepsAllBut bs s s') : KeepsAllBut bs r s' ↔ KeepsAllBut bs r s :=
  forall₂_congr fun b hb => (h b hb).congr

theorem KeepsAllBut.trans {t : State} (h : KeepsAllBut bs r s) (h' : KeepsAllBut bs s t) : KeepsAllBut bs r t :=
  (keeps_congr h').mpr h

theorem KeepsAllBut.mono {cs : List Block} (h : KeepsAllBut bs r s) (hb : bs ⊆ cs) : KeepsAllBut cs r s :=
  fun b hc => h b fun hm => hc (hb hm)

@[simp] theorem keeps_modLink {f : LinkUnit → LinkUnit}
    (h0 : .queue ∈ bs ∨ (f s.link).reports = s.link.reports ∧ (f s.link).overflow = s.link.overflow
      ∧ (f s.link).attention = s.link.attention)
    (h1 : .counters ∈ bs ∨ (f s.link).counters = s.link.counters)
    (h2 : .address ∈ bs ∨ (f s.link).address = s.link.address)
    (h3 : .straps ∈ bs ∨ (f s.link).straps = s.link.straps)
    (h4 : .receiver ∈ bs ∨ (f s.link).receiver = s.link.receiver)
    (h5 : .answering ∈ bs ∨ (f s.link).answering = s.link.answering)
    (h6 : .identity ∈ bs ∨ (f s.link).identity = s.link.identity)
    (h7 : .mask ∈ bs ∨ (f s.link).mask = s.link.mask) :
    KeepsAllBut bs r (s.modLink f) ↔ KeepsAllBut bs r s :=
  keeps_congr fun b hb => by cases b <;> simp_all [Block.Same]

@[simp] theorem keeps_modPlan {f : PlanStore → PlanStore}
    (h0 : .articles ∈ bs ∨ (f s.plan).articles = s.plan.articles)
    (h1 : .bases ∈ bs ∨ (f s.plan).bases = s.plan.bases)
    (h2 : .recipes ∈ bs ∨ (f s.plan).recipes = s.plan.recipes)
    (h3 : .bands ∈ bs ∨ (f s.plan).bands = s.plan.bands)
    (h4 : .loads ∈ bs ∨ (f s.plan).loads = s.plan.loads) :
    KeepsAllBut bs r (s.modPlan f) ↔ KeepsAllBut bs r s :=
  keeps_congr fun b hb => by cases b <;> simp_all [Block.Same]

@[simp] theorem keeps_modTrack {f : TrackTable → TrackTable}
    (h0 : .records ∈ bs ∨ (f s.track).records = s.track.records)
    (h1 : .nextNumber ∈ bs ∨ (f s.track).nextNumber = s.track.nextNumber)
    (h2 : .enabled ∈ bs ∨ (f s.track).enabled = s.track.enabled)
    (h3 : .scanners ∈ bs ∨ (f s.track).scanners = s.track.scanners) :
    KeepsAllBut bs r (s.modTrack f) ↔ KeepsAllBut bs r s :=
  keeps_congr fun b hb => by cases b <;> simp_all [Block.Same]

@[simp] theorem keeps_modMerge {f : MergeArbiter → MergeArbiter}
    (h0 : .grant ∈ bs ∨ (f s.merge).grant = s.merge.grant ∧ (f s.merge).requests = s.merge.requests)
    (h1 : .merge ∈ bs ∨ (f s.merge).lastGranted = s.merge.lastGranted ∧ (f s.merge).train = s.merge.train ∧ (f s.merge).gate = s.merge.gate ∧ (f s.merge).switch = s.merge.switch ∧ (f s.merge).parkPending = s.merge.parkPending ∧ (f s.merge).fault = s.merge.fault) :
    KeepsAllBut bs r (s.modMerge f) ↔ KeepsAllBut bs r s :=
  keeps_congr fun b hb => by cases b <;> simp_all [Block.Same]

@[simp] theorem keeps_modLabel {f : LabelController → LabelController}
    (h0 : .label ∈ bs ∨ (f s.label).pallet = s.label.pallet ∧ (f s.label).condition = s.label.condition ∧ (f s.label).fault = s.label.fault ∧ (f s.label).jobs = s.label.jobs ∧ (f s.label).nextJob = s.label.nextJob ∧ (f s.label).purge = s.label.purge ∧ (f s.label).ack = s.label.ack ∧ (f s.label).apply = s.label.apply ∧ (f s.label).faceA = s.label.faceA ∧ (f s.label).faceB = s.label.faceB)
    (h1 : .printLimit ∈ bs ∨ (f s.label).print = s.label.print) :
    KeepsAllBut bs r (s.modLabel f) ↔ KeepsAllBut bs r s :=
  keeps_congr fun b hb => by cases b <;> simp_all [Block.Same]

@[simp] theorem keeps_modBuffer {f : BufferController → BufferController}
    (h0 : .buffer ∈ bs ∨ (f s.buffer).reserved = s.buffer.reserved ∧ (f s.buffer).exitPallet = s.buffer.exitPallet ∧ (f s.buffer).task = s.buffer.task ∧ (f s.buffer).fault = s.buffer.fault ∧ (f s.buffer).releases = s.buffer.releases ∧ (f s.buffer).forced = s.buffer.forced ∧ (f s.buffer).lastServed = s.buffer.lastServed)
    (h1 : .deadlock ∈ bs ∨ (f s.buffer).deadlock = s.buffer.deadlock)
    (h2 : .windows ∈ bs ∨ (f s.buffer).windows = s.buffer.windows) :
    KeepsAllBut bs r (s.modBuffer f) ↔ KeepsAllBut bs r s :=
  keeps_congr fun b hb => by cases b <;> simp_all [Block.Same]

@[simp] theorem keeps_modCheck {f : CheckStation → CheckStation} (h : .check ∈ bs) : KeepsAllBut bs r (s.modCheck f) ↔ KeepsAllBut bs r s :=
  keeps_congr fun b hb => by cases b <;> simp_all [Block.Same]

@[simp] theorem keeps_modMass {f : MassUnit → MassUnit} (h : .mass ∈ bs) : KeepsAllBut bs r (s.modMass f) ↔ KeepsAllBut bs r s :=
  keeps_congr fun b hb => by cases b <;> simp_all [Block.Same]

@[simp] theorem keeps_modWrap {f : WrapController → WrapController} (h : .wrap ∈ bs) : KeepsAllBut bs r (s.modWrap f) ↔ KeepsAllBut bs r s :=
  keeps_congr fun b hb => by cases b <;> simp_all [Block.Same]

@[simp] theorem keeps_modMode {f : ModeController → ModeController} (h : .mode ∈ bs) : KeepsAllBut bs r (s.modMode f) ↔ KeepsAllBut bs r s :=
  keeps_congr fun b hb => by cases b <;> simp_all [Block.Same]

@[simp] theorem keeps_modField {f : FieldUnit → FieldUnit}
    (h0 : .raw ∈ bs ∨ (f s.field).raw = s.field.raw)
    (h1 : .filtered ∈ bs ∨ (f s.field).filtered = s.field.filtered)
    (h2 : .timing ∈ bs ∨ (f s.field).timing = s.field.timing)
    (h3 : .estop ∈ bs ∨ (f s.field).estop = s.field.estop)
    (h4 : .entryTaken ∈ bs ∨ (f s.field).entryTaken = s.field.entryTaken)
    (h5 : .diverter ∈ bs ∨ (f s.field).diverterReject = s.field.diverterReject)
    (h6 : .purgeHold ∈ bs ∨ (f s.field).purgeHold = s.field.purgeHold ∧ (f s.field).purgeSpent = s.field.purgeSpent)
    (h7 : .wakeHolds ∈ bs ∨ (f s.field).wakeHolds = s.field.wakeHolds)
    (h8 : .places ∈ bs ∨ (f s.field).places = s.field.places)
    (h9 : .moves ∈ bs ∨ (f s.field).moves = s.field.moves)
    (hz : .zones ∈ bs ∨ ∀ i, (tget (f s.field).zones i).state = (tget s.field.zones i).state
      ∧ (tget (f s.field).zones i).goodRun = (tget s.field.zones i).goodRun
      ∧ (tget (f s.field).zones i).latch = (tget s.field.zones i).latch
      ∧ (tget (f s.field).zones i).last = (tget s.field.zones i).last)
    (ho : .outputs ∈ bs ∨ (f s.field).gateDrive = s.field.gateDrive ∧ (f s.field).car = s.field.car
      ∧ (f s.field).shuttleDrive = s.field.shuttleDrive ∧ (f s.field).lamps = s.field.lamps
      ∧ ∀ i, (tget (f s.field).zones i).drive = (tget s.field.zones i).drive
        ∧ (tget (f s.field).zones i).edges = (tget s.field.zones i).edges
        ∧ (tget (f s.field).zones i).windowLeft = (tget s.field.zones i).windowLeft) :
    KeepsAllBut bs r (s.modField f) ↔ KeepsAllBut bs r s :=
  keeps_congr fun b hb => by cases b <;> simp_all [Block.Same]

@[simp] theorem keeps_send {m : Message} (h : .sent ∈ bs) : KeepsAllBut bs r (s.send m) ↔ KeepsAllBut bs r s :=
  keeps_congr fun b hb => by cases b <;> simp_all [Block.Same]

@[simp] theorem keeps_setSettings {v : Vector Nat 33} (h : .settings ∈ bs) :
    KeepsAllBut bs r ({ s with settings := v } : State) ↔ KeepsAllBut bs r s :=
  keeps_congr fun b hb => by cases b <;> simp_all [Block.Same]

@[simp] theorem keeps_setReported {v : Vector StationState 6} (h : .reported ∈ bs) :
    KeepsAllBut bs r ({ s with reported := v } : State) ↔ KeepsAllBut bs r s :=
  keeps_congr fun b hb => by cases b <;> simp_all [Block.Same]

@[simp] theorem keeps_setDraws {n : Nat} (h : .freeDraws ∈ bs) :
    KeepsAllBut bs r ({ s with freeDraws := n } : State) ↔ KeepsAllBut bs r s :=
  keeps_congr fun b hb => by cases b <;> simp_all [Block.Same]

@[simp] theorem keeps_modLane {l : Lane} {f : LaneEntry → LaneEntry}
    (h : .lanes ∈ bs ∨ ∀ e, (f e).count = e.count ∧ (f e).halt = e.halt)
    (h' : .laneStates ∈ bs ∨ ∀ e, (f e).status = e.status) : KeepsAllBut bs r (s.modLane l f) ↔ KeepsAllBut bs r s :=
  keeps_congr fun b hb => by
    cases b <;> simp_all [Block.Same, tget_tmod] <;> intro i <;> split <;> simp_all

@[simp] theorem keeps_modZone {z : Zone} {f : ZoneEntry → ZoneEntry}
    (h : .zones ∈ bs ∨ ∀ e, (f e).state = e.state ∧ (f e).goodRun = e.goodRun ∧ (f e).latch = e.latch ∧ (f e).last = e.last)
    (h' : .outputs ∈ bs ∨ ∀ e, (f e).drive = e.drive ∧ (f e).edges = e.edges ∧ (f e).windowLeft = e.windowLeft) :
    KeepsAllBut bs r (s.modZone z f) ↔ KeepsAllBut bs r s :=
  keeps_congr fun b hb => by
    cases b <;> simp_all [Block.Same, tget_tmod] <;> intro i <;> split <;> simp_all

@[simp] theorem keeps_modPlace {p : Place} {f : PlaceEntry → PlaceEntry} (h : .places ∈ bs) :
    KeepsAllBut bs r (s.modPlace p f) ↔ KeepsAllBut bs r s := by
  unfold State.modPlace; simp [h]

@[simp] theorem keeps_modScanner {sc : Scanner} {f : ScannerState → ScannerState} (h : .scanners ∈ bs) :
    KeepsAllBut bs r (s.modScanner sc f) ↔ KeepsAllBut bs r s := by
  unfold State.modScanner; simp [h]

@[simp] theorem keeps_modWrapper {w : Side} {f : WrapperState → WrapperState} (h : .wrap ∈ bs) :
    KeepsAllBut bs r (s.modWrapper w f) ↔ KeepsAllBut bs r s := keeps_modWrap h

@[simp] theorem keeps_setStaging {k : Side} {e : Option StagingEntry} (h : .wrap ∈ bs) :
    KeepsAllBut bs r (s.setStaging k e) ↔ KeepsAllBut bs r s := keeps_modWrap h

@[simp] theorem keeps_modRecord {n : Nat} {f : Record → Record} (h : .records ∈ bs) :
    KeepsAllBut bs r (s.modRecord n f) ↔ KeepsAllBut bs r s := by
  unfold State.modRecord; simp [h]

@[simp] theorem keeps_setStage {n : Nat} {st : Stage} (h : .records ∈ bs) :
    KeepsAllBut bs r (s.setStage n st) ↔ KeepsAllBut bs r s := keeps_modRecord h

@[simp] theorem keeps_modMove {n : Nat} {f : Move → Move} (h : .moves ∈ bs) :
    KeepsAllBut bs r (s.modMove n f) ↔ KeepsAllBut bs r s := by
  unfold State.modMove; simp [h]

@[simp] theorem keeps_removeMove {n : Nat} (h : .moves ∈ bs) :
    KeepsAllBut bs r (s.removeMove n) ↔ KeepsAllBut bs r s := by
  unfold State.removeMove; simp [h]

@[simp] theorem keeps_modLoad {id : Nat} {f : Load → Load} (h : .loads ∈ bs) :
    KeepsAllBut bs r (s.modLoad id f) ↔ KeepsAllBut bs r s := by
  unfold State.modLoad; simp [h]

/-- A raised report keeps everything but the queue (R197). -/
@[simp] theorem keeps_raise {k : ReportKind} {n : Note} (h : .queue ∈ bs) :
    KeepsAllBut bs r (s.raise k n) ↔ KeepsAllBut bs r s := by
  obtain ⟨rs, ov, att, e⟩ := s.raise_eq k n
  rw [e]; simp [h]

/-- A raised counter keeps everything but the queue and the counters (R199). -/
@[simp] theorem keeps_count {c : Counter} (h : .queue ∈ bs) (h' : .counters ∈ bs) :
    KeepsAllBut bs r (s.count c) ↔ KeepsAllBut bs r s := by
  obtain ⟨rs, ov, att, e⟩ := s.count_eq c
  rw [e]; simp [h, h']

/-- A frame carried through a choice. -/
theorem keeps_ite {c : Prop} [Decidable c] {a b : State} :
    KeepsAllBut bs r (if c then a else b) ↔ if c then KeepsAllBut bs r a else KeepsAllBut bs r b := by
  split <;> rfl

/-- A frame carried through a fold whose every step keeps it. -/
theorem keeps_foldl {α : Type} {f : State → α → State} (h : ∀ (s : State) (x : α), KeepsAllBut bs r (f s x) ↔ KeepsAllBut bs r s) (l : List α) :
    KeepsAllBut bs r (l.foldl f s) ↔ KeepsAllBut bs r s := by
  induction l generalizing s with
  | nil => rfl
  | cons x l ih => rw [List.foldl_cons, ih, h]

end Sys2Proof.Machine
end

