-- ==== Sys2Proof/Laws/Frames.lean ====
section
/-! SUPPORT. The frame of each shared operation: what it may change. Equivalences, so that simp carries a frame through a chain
of operations. -/

namespace Sys2Proof.Machine

open State

variable {bs : List Block} {r s s' : State}

/-! ### Captures, places and moves -/

@[simp] theorem keeps_closeCapture (h : [.mass, .sent] ⊆ bs) :
    KeepsAllBut bs r s.closeCapture ↔ KeepsAllBut bs r s := by
  simp at h; unfold State.closeCapture; split <;> simp [h]

@[simp] theorem keeps_failZero {d : Nat} {v : Option Int} (h : [.queue, .mass, .sent] ⊆ bs) :
    KeepsAllBut bs r (s.failZero d v) ↔ KeepsAllBut bs r s := by
  simp at h; simp [State.failZero, h]

@[simp] theorem keeps_markUnknown {p : Place} {v : Int} (h : [.queue, .places, .mass, .sent] ⊆ bs) :
    KeepsAllBut bs r (s.markUnknown p v) ↔ KeepsAllBut bs r s := by
  simp at h; unfold State.markUnknown; dsimp only; split <;> simp [h]

@[simp] theorem keeps_vacate {p : Place} {v : Int} (h : [.queue, .places, .mass, .sent] ⊆ bs) :
    KeepsAllBut bs r (s.vacate p v) ↔ KeepsAllBut bs r s := by
  simp at h; unfold State.vacate; split <;> simp [h]

@[simp] theorem keeps_leaveOccupants {p : Place} {n : Nat} (h : [.places] ⊆ bs) :
    KeepsAllBut bs r (s.leaveOccupants p n) ↔ KeepsAllBut bs r s := by
  simp at h; simp [State.leaveOccupants, h]

@[simp] theorem keeps_leaveIncoming {p : Place} {n : Nat} (h : [.places] ⊆ bs) :
    KeepsAllBut bs r (s.leaveIncoming p n) ↔ KeepsAllBut bs r s := by
  simp at h; simp [State.leaveIncoming, h]

@[simp] theorem keeps_checkLeft (h : [.check] ⊆ bs) :
    KeepsAllBut bs r s.checkLeft ↔ KeepsAllBut bs r s := by
  simp at h; simp [State.checkLeft, h]

theorem keeps_askMove {n : Nat} {p : Place} (h : [.places, .moves, .records, .check] ⊆ bs)
    (e : s.askMove n p = some s') : KeepsAllBut bs r s' ↔ KeepsAllBut bs r s := by
  simp at h; unfold State.askMove at e
  split at e
  · cases e
  · split at e
    · cases e
    · split at e
      · dsimp only at e; simp only [Option.some.injEq] at e; subst e; split <;> simp [h]
      · cases e

@[simp] theorem keeps_askMove_getD {n : Nat} {p : Place} (h : [.places, .moves, .records, .check] ⊆ bs) :
    KeepsAllBut bs r ((s.askMove n p).getD s) ↔ KeepsAllBut bs r s := by
  rcases e : s.askMove n p with _ | s'
  · rfl
  · exact keeps_askMove h e

/-! ### Loads and scanner reads -/

@[simp] theorem keeps_modSlot {ref : LoadRef} {f : Slot → Slot} (h : [.loads] ⊆ bs) :
    KeepsAllBut bs r (s.modSlot ref f) ↔ KeepsAllBut bs r s := by
  simp at h; simp [State.modSlot, h]

@[simp] theorem keeps_testComplete {id : Nat} (h : [.queue, .loads] ⊆ bs) :
    KeepsAllBut bs r (s.testComplete id) ↔ KeepsAllBut bs r s := by
  simp at h; unfold State.testComplete; (repeat' split) <;> simp [h]

@[simp] theorem keeps_claim {t : Text} {n : Nat} (h : [.loads] ⊆ bs) :
    KeepsAllBut bs r (s.claim t n).1 ↔ KeepsAllBut bs r s := by
  simp at h; unfold State.claim; (repeat' split) <;> simp [h]

@[simp] theorem keeps_enterFault {n : Nat} {c : Code} (h : [.records] ⊆ bs) :
    KeepsAllBut bs r (s.enterFault n c) ↔ KeepsAllBut bs r s := by
  simp at h; simp [State.enterFault, h]

@[simp] theorem keeps_reject {n : Nat} {c : Code} (h : [.queue, .loads, .records] ⊆ bs) :
    KeepsAllBut bs r (s.reject n c) ↔ KeepsAllBut bs r s := by
  simp at h; unfold State.reject; split <;> simp [h]

@[simp] theorem keeps_sendRead {sc : Scanner} (h : [.scanners, .sent] ⊆ bs) :
    KeepsAllBut bs r (s.sendRead sc) ↔ KeepsAllBut bs r s := by
  simp at h; unfold State.sendRead; split <;> simp [h]

@[simp] theorem keeps_askRead {sc : Scanner} {rd : Read} (h : [.scanners, .sent] ⊆ bs) :
    KeepsAllBut bs r (s.askRead sc rd) ↔ KeepsAllBut bs r s := by
  simp at h; simp [State.askRead, h]

@[simp] theorem keeps_endReads {sc : Scanner} {n : Nat} (h : .scanners ∈ bs) :
    KeepsAllBut bs r (s.endReads sc n) ↔ KeepsAllBut bs r s := by
  simp [State.endReads, h]

@[simp] theorem keeps_closeEnded {sc : Scanner} (h : [.scanners, .sent] ⊆ bs) :
    KeepsAllBut bs r (s.closeEnded sc) ↔ KeepsAllBut bs r s := by
  simp at h; simp [State.closeEnded, h]

@[simp] theorem keeps_lateAnswer {sc : Scanner} (h : [.queue, .scanners, .sent] ⊆ bs) :
    KeepsAllBut bs r (s.lateAnswer sc) ↔ KeepsAllBut bs r s := by
  simp at h; unfold State.lateAnswer; dsimp only; split <;> simp [h]

/-! ### Derived signals -/

@[simp] theorem keeps_settleStation {st : Station} (h : [.queue, .reported] ⊆ bs) :
    KeepsAllBut bs r (s.settleStation st) ↔ KeepsAllBut bs r s := by
  simp at h; unfold State.settleStation; dsimp only; split
  · rfl
  · rw [keeps_raise (by simp [h]), keeps_setReported (by simp [h])]

@[simp] theorem keeps_followStation {st : Station} (h : .reported ∈ bs) :
    KeepsAllBut bs r (s.followStation st) ↔ KeepsAllBut bs r s := by
  unfold State.followStation; exact keeps_setReported (by simp [h])

@[simp] theorem keeps_settleStations (h : [.queue, .reported] ⊆ bs) :
    KeepsAllBut bs r s.settleStations ↔ KeepsAllBut bs r s := by
  simp at h; unfold State.settleStations; exact keeps_foldl (fun _ _ => by simp [h]) _

@[simp] theorem keeps_settleGrant (h : [.grant] ⊆ bs) :
    KeepsAllBut bs r s.settleGrant ↔ KeepsAllBut bs r s := by
  simp at h; unfold State.settleGrant; (repeat' split) <;> simp [h]

@[simp] theorem keeps_settleRequest {i : Infeed} (h : [.grant] ⊆ bs) :
    KeepsAllBut bs r (s.settleRequest i) ↔ KeepsAllBut bs r s := by
  simp at h; unfold State.settleRequest; split <;> simp [h]

@[simp] theorem keeps_settleRequests (h : [.grant] ⊆ bs) :
    KeepsAllBut bs r s.settleRequests ↔ KeepsAllBut bs r s := by
  simp at h; unfold State.settleRequests; exact keeps_foldl (fun _ _ => by simp [h]) _

@[simp] theorem keeps_settleLane {l : Lane} (h : [.queue, .laneStates] ⊆ bs) :
    KeepsAllBut bs r (s.settleLane l) ↔ KeepsAllBut bs r s := by
  simp at h; unfold State.settleLane; dsimp only; split <;> simp [h]

@[simp] theorem keeps_settleLanes (h : [.queue, .laneStates] ⊆ bs) :
    KeepsAllBut bs r s.settleLanes ↔ KeepsAllBut bs r s := by
  simp at h; unfold State.settleLanes; exact keeps_foldl (fun _ _ => by simp [h]) _

@[simp] theorem keeps_settleDeadlock (h : [.queue, .deadlock] ⊆ bs) :
    KeepsAllBut bs r s.settleDeadlock ↔ KeepsAllBut bs r s := by
  simp at h; unfold State.settleDeadlock; (repeat' split) <;> simp [h]

@[simp] theorem keeps_settlePrint (h : [.printLimit] ⊆ bs) :
    KeepsAllBut bs r s.settlePrint ↔ KeepsAllBut bs r s := by
  simp at h; unfold State.settlePrint; split <;> simp [h]

@[simp] theorem keeps_settleZone {z : Zone} (h : [.outputs] ⊆ bs) :
    KeepsAllBut bs r (s.settleZone z) ↔ KeepsAllBut bs r s := by
  simp at h; unfold State.settleZone; dsimp only; split <;> simp [h]

@[simp] theorem keeps_settleCarriers (h : [.outputs] ⊆ bs) :
    KeepsAllBut bs r s.settleCarriers ↔ KeepsAllBut bs r s := by
  simp at h; unfold State.settleCarriers; split <;> simp [h]

@[simp] theorem keeps_settleLamp {l : Lamp} (h : [.outputs] ⊆ bs) :
    KeepsAllBut bs r (s.settleLamp l) ↔ KeepsAllBut bs r s := by
  simp at h; unfold State.settleLamp; dsimp only; split <;> simp [h]

@[simp] theorem keeps_settleLamps (h : [.outputs] ⊆ bs) :
    KeepsAllBut bs r s.settleLamps ↔ KeepsAllBut bs r s := by
  simp at h; unfold State.settleLamps; exact keeps_foldl (fun _ _ => by simp [h]) _

@[simp] theorem keeps_settleZones (h : [.outputs] ⊆ bs) :
    KeepsAllBut bs r s.settleZones ↔ KeepsAllBut bs r s := by
  simp at h; unfold State.settleZones; exact keeps_foldl (fun _ _ => by simp [h]) _

@[simp] theorem keeps_settleOutputs (h : [.outputs] ⊆ bs) :
    KeepsAllBut bs r s.settleOutputs ↔ KeepsAllBut bs r s := by
  simp at h; simp [State.settleOutputs, h]

@[simp] theorem keeps_settle (h : [.queue, .outputs, .grant, .printLimit, .deadlock, .laneStates, .reported] ⊆ bs) :
    KeepsAllBut bs r s.settle ↔ KeepsAllBut bs r s := by
  simp at h; simp [State.settle, h]

@[simp] theorem keeps_settleSilently (h : [.outputs, .laneStates, .reported] ⊆ bs) :
    KeepsAllBut bs r s.settleSilently ↔ KeepsAllBut bs r s := by
  simp at h; unfold State.settleSilently; dsimp only
  rw [keeps_settleOutputs (by simp [h])]
  refine keeps_congr fun b hb => ?_
  cases b <;> simp_all [Block.Same]
  intro l; fin_cases l <;> exact ⟨rfl, rfl⟩

/-! ### Matching -/

@[simp] theorem keeps_reportMatch {n : Nat} {o : Nat} {c : Nat} (h : [.queue] ⊆ bs) :
    KeepsAllBut bs r (s.reportMatch n o c) ↔ KeepsAllBut bs r s := by
  simp at h; simp [State.reportMatch, h]

@[simp] theorem keeps_matchTag {n : Nat} {t : Text} {o : Nat} (h : [.queue, .loads, .records] ⊆ bs) :
    KeepsAllBut bs r (s.matchTag n t o).1 ↔ KeepsAllBut bs r s := by
  simp at h
  have e := keeps_claim (bs := bs) (r := r) (s := s) (t := t) (n := n) (by simp [h])
  unfold State.matchTag; split <;> rename_i s' _ he <;> rw [he] at e <;> simpa [h] using e

@[simp] theorem keeps_markUnplanned {n : Nat} {o : Nat} (h : [.queue, .records] ⊆ bs) :
    KeepsAllBut bs r (s.markUnplanned n o) ↔ KeepsAllBut bs r s := by
  simp at h; simp [State.markUnplanned, h]

@[simp] theorem keeps_testReady {n : Nat} (h : [.records] ⊆ bs) :
    KeepsAllBut bs r (s.testReady n) ↔ KeepsAllBut bs r s := by
  simp at h; unfold State.testReady; (repeat' split) <;> simp [h]

@[simp] theorem keeps_endDeferral {n : Nat} (h : [.records] ⊆ bs) :
    KeepsAllBut bs r (s.endDeferral n) ↔ KeepsAllBut bs r s := by
  simp at h; simp [State.endDeferral, h]

@[simp] theorem keeps_offer {t : Text} (h : [.queue, .loads, .records] ⊆ bs) :
    KeepsAllBut bs r (s.offer t) ↔ KeepsAllBut bs r s := by
  simp at h; unfold State.offer; exact keeps_foldl (fun _ _ => by simp [h]) _

@[simp] theorem keeps_unbind {id : Nat} (h : [.loads, .buffer] ⊆ bs) :
    KeepsAllBut bs r (s.unbind id) ↔ KeepsAllBut bs r s := by
  simp at h; simp [State.unbind, h]

/-! ### Captures and the check -/

@[simp] theorem keeps_openCapture {p : CaptureFor} (h : [.mass, .sent] ⊆ bs) :
    KeepsAllBut bs r (s.openCapture p) ↔ KeepsAllBut bs r s := by
  simp at h; simp [State.openCapture, h]

@[simp] theorem keeps_zeroMean {m : Int} (h : [.queue, .mass, .sent] ⊆ bs) :
    KeepsAllBut bs r (s.zeroMean m) ↔ KeepsAllBut bs r s := by
  simp at h; unfold State.zeroMean; split <;> simp [h]

theorem keeps_askOut {n : Nat} {b : Bool} (h : [.places, .moves, .records, .check] ⊆ bs)
    (e : s.askOut n b = some s') : KeepsAllBut bs r s' ↔ KeepsAllBut bs r s := by
  unfold State.askOut at e
  (repeat' split at e)
  · simp only [Option.some.injEq] at e; subst e; exact keeps_askMove h ‹_›
  · exact keeps_askMove h e
  · exact keeps_askMove h e

@[simp] theorem keeps_route {n : Nat} {b : Bool} (h : [.places, .moves, .records, .check] ⊆ bs) :
    KeepsAllBut bs r (s.route n b) ↔ KeepsAllBut bs r s := by
  simp at h; unfold State.route; split
  · rw [keeps_modCheck (by simp [h]), keeps_askOut (by simp [h]) ‹_›]
  · simp [h]

@[simp] theorem keeps_failCheck {n : Nat} {c : Code} (h : [.queue, .loads, .places, .moves, .records, .check] ⊆ bs) :
    KeepsAllBut bs r (s.failCheck n c) ↔ KeepsAllBut bs r s := by
  simp at h; simp [State.failCheck, h]

@[simp] theorem keeps_countVerdict {c : Check} {m : Option (Code × Int × Nat)} (h : [.queue, .counters] ⊆ bs) :
    KeepsAllBut bs r (s.countVerdict c m) ↔ KeepsAllBut bs r s := by
  simp at h; unfold State.countVerdict; (repeat' split) <;> simp [h]

@[simp] theorem keeps_conclude {n : Nat} {l : List Code} {c : Code} {d : Option Int} (h : [.queue, .loads, .places, .moves, .records, .check] ⊆ bs) :
    KeepsAllBut bs r (s.conclude n l c d) ↔ KeepsAllBut bs r s := by
  simp at h; unfold State.conclude; split <;> simp [h]

@[simp] theorem keeps_giveVerdict (h : [.queue, .counters, .loads, .places, .moves, .records, .scanners, .check, .mass, .sent] ⊆ bs) :
    KeepsAllBut bs r s.giveVerdict ↔ KeepsAllBut bs r s := by
  simp at h; unfold State.giveVerdict; dsimp only; (repeat' split) <;> simp [h]

@[simp] theorem keeps_testVerdict (h : [.queue, .counters, .loads, .places, .moves, .records, .scanners, .check, .mass, .sent] ⊆ bs) :
    KeepsAllBut bs r s.testVerdict ↔ KeepsAllBut bs r s := by
  simp at h; unfold State.testVerdict; (repeat' split) <;> simp [h]

@[simp] theorem keeps_modCurrent {f : Check → Check} (h : [.check] ⊆ bs) :
    KeepsAllBut bs r (s.modCurrent f) ↔ KeepsAllBut bs r s := by
  simp at h; simp [State.modCurrent, h]

@[simp] theorem keeps_beginCheck {k : Record} (h : [.scanners, .check, .mass, .sent] ⊆ bs) :
    KeepsAllBut bs r (s.beginCheck k) ↔ KeepsAllBut bs r s := by
  simp at h; unfold State.beginCheck; dsimp only; split <;> simp [h]

@[simp] theorem keeps_startCheck {n : Nat} (h : [.queue, .loads, .places, .moves, .records, .scanners, .check, .mass, .sent] ⊆ bs) :
    KeepsAllBut bs r (s.startCheck n) ↔ KeepsAllBut bs r s := by
  simp at h; unfold State.startCheck; (repeat' split) <;> simp [h]

@[simp] theorem keeps_reachCheck {n : Nat} (h : [.queue, .loads, .places, .moves, .records, .scanners, .check, .mass, .sent] ⊆ bs) :
    KeepsAllBut bs r (s.reachCheck n) ↔ KeepsAllBut bs r s := by
  simp at h; unfold State.reachCheck; split <;> simp [h]

@[simp] theorem keeps_abandonCheck {n : Nat} (h : [.scanners, .check, .mass, .sent, .reported] ⊆ bs) :
    KeepsAllBut bs r (s.abandonCheck n) ↔ KeepsAllBut bs r s := by
  simp at h; unfold State.abandonCheck; (repeat' split) <;> simp [h]

@[simp] theorem keeps_checkTag {n : Nat} {t : Option Text} (h : [.queue, .counters, .loads, .places, .moves, .records, .scanners, .check, .mass, .sent] ⊆ bs) :
    KeepsAllBut bs r (s.checkTag n t) ↔ KeepsAllBut bs r s := by
  simp at h; unfold State.checkTag
  split
  · rfl
  · split
    · rfl
    · split
      · simp [h]
      · rename_i t
        have e := keeps_matchTag (bs := bs) (r := r) (s := s.modRecord n fun r => { r with tag := some t }) (n := n) (t := t)
          (o := 2) (by simp [h])
        split <;> rename_i he <;> rw [he] at e <;> simpa [h] using e

@[simp] theorem keeps_checkMean {n : Nat} {m : Int} (h : [.queue, .counters, .loads, .places, .moves, .records, .scanners, .check, .mass, .sent] ⊆ bs) :
    KeepsAllBut bs r (s.checkMean n m) ↔ KeepsAllBut bs r s := by
  simp at h; simp [State.checkMean, h]

@[simp] theorem keeps_overload {c : Capture} (h : [.queue, .counters, .loads, .places, .moves, .records, .scanners, .check, .mass, .sent] ⊆ bs) :
    KeepsAllBut bs r (s.overload c) ↔ KeepsAllBut bs r s := by
  simp at h; unfold State.overload; split <;> simp [h]

@[simp] theorem keeps_enterReading {c : Capture} {g : Int} (h : [.queue, .counters, .loads, .places, .moves, .records, .scanners, .check, .mass, .sent] ⊆ bs) :
    KeepsAllBut bs r (s.enterReading c g) ↔ KeepsAllBut bs r s := by
  simp at h; unfold State.enterReading; dsimp only; (repeat' split) <;> simp [h]

/-! ### The merge -/

@[simp] theorem keeps_askGranted (h : [.places, .moves, .records, .check] ⊆ bs) :
    KeepsAllBut bs r s.askGranted ↔ KeepsAllBut bs r s := by
  simp at h; unfold State.askGranted; split <;> simp [h]

@[simp] theorem keeps_commandSwitch {i : Infeed} {p : SwitchPurpose} (h : [.places, .moves, .records, .merge, .check] ⊆ bs) :
    KeepsAllBut bs r (s.commandSwitch i p) ↔ KeepsAllBut bs r s := by
  simp at h; unfold State.commandSwitch; (repeat' split) <;> simp [h]

@[simp] theorem keeps_pursueGrant (h : [.places, .moves, .records, .merge, .check] ⊆ bs) :
    KeepsAllBut bs r s.pursueGrant ↔ KeepsAllBut bs r s := by
  simp at h; unfold State.pursueGrant; (repeat' split) <;> simp [h]

@[simp] theorem keeps_gateInput {i : Infeed} {b : Bool} (h : [.places, .moves, .records, .merge, .check] ⊆ bs) :
    KeepsAllBut bs r (s.gateInput i b) ↔ KeepsAllBut bs r s := by
  simp at h; unfold State.gateInput; (repeat' split) <;> simp [h]

/-! ### Wrapping -/

@[simp] theorem keeps_enterStaging {n : Nat} {k : Side} (h : [.queue, .records, .wrap] ⊆ bs) :
    KeepsAllBut bs r (s.enterStaging n k) ↔ KeepsAllBut bs r s := by
  simp at h; simp [State.enterStaging, h]

@[simp] theorem keeps_assign {n : Nat} {w : Side} {rc : Recipe} (h : [.places, .moves, .records, .check, .wrap] ⊆ bs) :
    KeepsAllBut bs r (s.assign n w rc) ↔ KeepsAllBut bs r s := by
  simp at h; unfold State.assign; split
  · rw [keeps_modWrapper (by simp [h]), keeps_modRecord (by simp [h]), keeps_askMove (by simp [h]) ‹_›]
  · rfl

@[simp] theorem keeps_sendOrder {w : Side} (h : [.wrap, .sent] ⊆ bs) :
    KeepsAllBut bs r (s.sendOrder w) ↔ KeepsAllBut bs r s := by
  simp at h; unfold State.sendOrder; dsimp only; split <;> simp [h]

@[simp] theorem keeps_orderWrapper {w : Side} (h : [.wrap, .sent] ⊆ bs) :
    KeepsAllBut bs r (s.orderWrapper w) ↔ KeepsAllBut bs r s := by
  simp at h; unfold State.orderWrapper; dsimp only; split <;> simp [h]

@[simp] theorem keeps_reachWrapper {w : Side} (h : [.wrap, .sent] ⊆ bs) :
    KeepsAllBut bs r (s.reachWrapper w) ↔ KeepsAllBut bs r s := by
  simp at h; unfold State.reachWrapper; split <;> simp [h]

@[simp] theorem keeps_joinLabelOrder {n : Nat} {w : Side} {b : Bool} (h : [.records, .wrap] ⊆ bs) :
    KeepsAllBut bs r (s.joinLabelOrder n w b) ↔ KeepsAllBut bs r s := by
  simp at h; simp [State.joinLabelOrder, h]

@[simp] theorem keeps_failWrap {n : Nat} {w : Side} {c : Option Code} (h : [.queue, .counters, .loads, .records, .wrap] ⊆ bs) :
    KeepsAllBut bs r (s.failWrap n w c) ↔ KeepsAllBut bs r s := by
  simp at h; unfold State.failWrap; split <;> simp [h]

@[simp] theorem keeps_footprint {n : Nat} (h : [.freeDraws] ⊆ bs) :
    KeepsAllBut bs r (s.footprint n).1 ↔ KeepsAllBut bs r s := by
  simp at h; unfold State.footprint; (repeat' split) <;> simp [h]

@[simp] theorem keeps_endWrap {w : Side} {n : Nat} {o : Order} {f : Nat} (h : [.queue, .counters, .loads, .records, .wrap, .freeDraws] ⊆ bs) :
    KeepsAllBut bs r (s.endWrap w n o f) ↔ KeepsAllBut bs r s := by
  simp at h
  have e := keeps_footprint (bs := bs) (r := r) (s := s) (n := n) (by simp [h])
  unfold State.endWrap; split; rename_i s' foot he; rw [he] at e; dsimp only
  (repeat' split) <;> simpa [h] using e

@[simp] theorem keeps_faultWrapper {w : Side} {n : Nat} {c : Code} (h : [.queue, .counters, .records, .wrap] ⊆ bs) :
    KeepsAllBut bs r (s.faultWrapper w n c) ↔ KeepsAllBut bs r s := by
  simp at h; simp [State.faultWrapper, h]

@[simp] theorem keeps_lateOrder {w : Side} {n : Nat} (h : [.queue] ⊆ bs) :
    KeepsAllBut bs r (s.lateOrder w n) ↔ KeepsAllBut bs r s := by
  simp at h; simp [State.lateOrder, h]

@[simp] theorem keeps_lateWrap {w : Side} {n : Nat} {v : Option Int} (h : [.queue] ⊆ bs) :
    KeepsAllBut bs r (s.lateWrap w n v) ↔ KeepsAllBut bs r s := by
  simp at h; simp [State.lateWrap, h]

@[simp] theorem keeps_leaveWrapper {w : Side} (h : [.wrap] ⊆ bs) :
    KeepsAllBut bs r (s.leaveWrapper w) ↔ KeepsAllBut bs r s := by
  simp at h; simp [State.leaveWrapper, h]

@[simp] theorem keeps_idleWrapper {w : Side} (h : [.wrap] ⊆ bs) :
    KeepsAllBut bs r (s.idleWrapper w) ↔ KeepsAllBut bs r s := by
  simp at h; simp [State.idleWrapper, h]

@[simp] theorem keeps_occupyWrapper {w : Side} (h : [.wrap] ⊆ bs) :
    KeepsAllBut bs r (s.occupyWrapper w) ↔ KeepsAllBut bs r s := by
  simp at h; simp [State.occupyWrapper, h]

@[simp] theorem keeps_resumeWrapper {w : Side} (h : [.queue, .counters, .loads, .records, .wrap, .reported, .sent] ⊆ bs) :
    KeepsAllBut bs r (s.resumeWrapper w) ↔ KeepsAllBut bs r s := by
  simp at h; unfold State.resumeWrapper; dsimp only; (repeat' split) <;> simp [h]

@[simp] theorem keeps_dropFromWrapper {n : Nat} {w : Side} (h : [.wrap, .sent] ⊆ bs) :
    KeepsAllBut bs r (s.dropFromWrapper n w) ↔ KeepsAllBut bs r s := by
  simp at h; unfold State.dropFromWrapper; dsimp only; (repeat' split) <;> simp [h]

@[simp] theorem keeps_dropFromWrap {n : Nat} (h : [.wrap, .sent] ⊆ bs) :
    KeepsAllBut bs r (s.dropFromWrap n) ↔ KeepsAllBut bs r s := by
  simp at h; simp [State.dropFromWrap, h]

/-! ### Labelling -/

@[simp] theorem keeps_makePurgePending (h : [.label] ⊆ bs) :
    KeepsAllBut bs r s.makePurgePending ↔ KeepsAllBut bs r s := by
  simp at h; simp [State.makePurgePending, h]

@[simp] theorem keeps_sendJob {k : Record} (h : [.records, .label, .sent] ⊆ bs) :
    KeepsAllBut bs r (s.sendJob k) ↔ KeepsAllBut bs r s := by
  simp at h; simp [State.sendJob, h]

@[simp] theorem keeps_setJob {j : Job} {st : JobState} (h : [.label] ⊆ bs) :
    KeepsAllBut bs r (s.setJob j st) ↔ KeepsAllBut bs r s := by
  simp at h; simp [State.setJob, h]

@[simp] theorem keeps_passOn {n : Nat} (h : [.places, .moves, .records, .check, .label] ⊆ bs) :
    KeepsAllBut bs r (s.passOn n) ↔ KeepsAllBut bs r s := by
  simp at h; unfold State.passOn; split
  · rw [keeps_modLabel (by simp [h]) (by simp), keeps_askMove (by simp [h]) ‹_›]
  · simp [h]

@[simp] theorem keeps_waitForPrint (h : [.label] ⊆ bs) :
    KeepsAllBut bs r s.waitForPrint ↔ KeepsAllBut bs r s := by
  simp at h; simp [State.waitForPrint, h]

@[simp] theorem keeps_beginLabelWork (h : [.queue, .places, .moves, .records, .check, .label] ⊆ bs) :
    KeepsAllBut bs r s.beginLabelWork ↔ KeepsAllBut bs r s := by
  simp at h; unfold State.beginLabelWork; (repeat' split) <;> simp [h]

@[simp] theorem keeps_reachLabel (h : [.queue, .places, .moves, .records, .check, .label] ⊆ bs) :
    KeepsAllBut bs r s.reachLabel ↔ KeepsAllBut bs r s := by
  simp at h; unfold State.reachLabel; split <;> simp [h]

@[simp] theorem keeps_labelOk {n : Nat} (h : [.queue, .loads, .records, .label, .buffer] ⊆ bs) :
    KeepsAllBut bs r (s.labelOk n) ↔ KeepsAllBut bs r s := by
  simp at h; unfold State.labelOk; split <;> simp [h]

@[simp] theorem keeps_failLabel {n : Nat} (h : [.queue, .counters, .loads, .places, .moves, .records, .check, .label] ⊆ bs) :
    KeepsAllBut bs r (s.failLabel n) ↔ KeepsAllBut bs r s := by
  simp at h; simp [State.failLabel, h]

@[simp] theorem keeps_leaveLabel {n : Nat} (h : [.label, .printLimit] ⊆ bs) :
    KeepsAllBut bs r (s.leaveLabel n) ↔ KeepsAllBut bs r s := by
  simp at h; unfold State.leaveLabel; split <;> simp [h]

@[simp] theorem keeps_endVerify {n : Nat} (h : [.queue, .counters, .loads, .places, .moves, .records, .check, .label, .buffer] ⊆ bs) :
    KeepsAllBut bs r (s.endVerify n) ↔ KeepsAllBut bs r s := by
  simp at h; unfold State.endVerify; split
  · simp [h]
  · dsimp only
    have e : ∀ l : List Code, KeepsAllBut bs r (l.foldl (fun s c => s.enterFault n c) s) ↔ KeepsAllBut bs r s :=
      fun l => keeps_foldl (fun _ _ => by simp [h]) l
    split
    · rw [keeps_makePurgePending (by simp [h]), keeps_waitForPrint (by simp [h]), keeps_raise (by simp [h]), e]
    · rw [keeps_failLabel (by simp [h]), keeps_raise (by simp [h]), e]

@[simp] theorem keeps_faceAnswer {n : Nat} {f : Face} {x : FaceResult} (h : [.queue, .counters, .loads, .places, .moves, .records, .check, .label, .buffer] ⊆ bs) :
    KeepsAllBut bs r (s.faceAnswer n f x) ↔ KeepsAllBut bs r s := by
  simp at h; unfold State.faceAnswer; dsimp only; (repeat' split) <;> simp [h]

@[simp] theorem keeps_faultLabel {c : LabelCause} {n : Option Nat} (h : [.queue, .records, .label, .reported] ⊆ bs) :
    KeepsAllBut bs r (s.faultLabel c n) ↔ KeepsAllBut bs r s := by
  simp at h; unfold State.faultLabel LabelController.forgetJobs; dsimp only; split <;> simp [h]

@[simp] theorem keeps_lateJob {n : Nat} (h : [.queue] ⊆ bs) :
    KeepsAllBut bs r (s.lateJob n) ↔ KeepsAllBut bs r s := by
  simp at h; simp [State.lateJob, h]

@[simp] theorem keeps_resumeLabelWork {c : LabelCause} (h : [.queue, .counters, .loads, .places, .moves, .records, .check, .label] ⊆ bs) :
    KeepsAllBut bs r (s.resumeLabelWork c) ↔ KeepsAllBut bs r s := by
  simp at h; cases c <;> unfold State.resumeLabelWork <;> (try dsimp only) <;> (repeat' split) <;> simp [h]

@[simp] theorem keeps_resumeLabel (h : [.queue, .counters, .loads, .places, .moves, .records, .check, .label, .reported] ⊆ bs) :
    KeepsAllBut bs r s.resumeLabel ↔ KeepsAllBut bs r s := by
  simp at h; unfold State.resumeLabel; dsimp only; (repeat' split) <;> simp [h]

@[simp] theorem keeps_dropFromLabel {n : Nat} (h : [.scanners, .label, .printLimit, .sent] ⊆ bs) :
    KeepsAllBut bs r (s.dropFromLabel n) ↔ KeepsAllBut bs r s := by
  simp at h; unfold State.dropFromLabel; dsimp only; (repeat' split) <;> simp [h]

/-! ### The buffer and the shuttle -/

@[simp] theorem keeps_giveTask {n : Nat} {t : TaskFor} (h : [.places, .moves, .records, .check, .buffer] ⊆ bs) :
    KeepsAllBut bs r (s.giveTask n t) ↔ KeepsAllBut bs r s := by
  simp at h; unfold State.giveTask; split
  · rfl
  · rw [keeps_modBuffer _ _ _, keeps_askMove (by simp [h]) ‹_›] <;> cases t <;> simp [h, BufferController.setTask, BufferController.reserve, BufferController.release]

@[simp] theorem keeps_askDelivery {n : Nat} {p : Place} (h : [.places, .moves, .records, .check] ⊆ bs) :
    KeepsAllBut bs r (s.askDelivery n p) ↔ KeepsAllBut bs r s := by
  simp at h; simp [State.askDelivery, h]

@[simp] theorem keeps_storeToRelease {n : Nat} {l : Lane} (h : [.places, .moves, .records, .check, .buffer] ⊆ bs) :
    KeepsAllBut bs r (s.storeToRelease n l) ↔ KeepsAllBut bs r s := by
  simp at h; unfold State.storeToRelease; simp [h, BufferController.setTask, BufferController.unreserve, BufferController.release]

@[simp] theorem keeps_storeDelivery {n : Nat} {p : Position} {k : Record} (h : [.places, .moves, .records, .check, .buffer] ⊆ bs) :
    KeepsAllBut bs r (s.storeDelivery n p k) ↔ KeepsAllBut bs r s := by
  simp at h; unfold State.storeDelivery; dsimp only; (repeat' split) <;> simp [h, BufferController.setTask, BufferController.unreserve, BufferController.reserve]

@[simp] theorem keeps_decideDelivery (h : [.places, .moves, .records, .check, .buffer] ⊆ bs) :
    KeepsAllBut bs r s.decideDelivery ↔ KeepsAllBut bs r s := by
  simp at h; unfold State.decideDelivery; (repeat' split) <;> simp [h]

@[simp] theorem keeps_pickedUp {n : Nat} (h : [.places, .moves, .records, .check, .buffer] ⊆ bs) :
    KeepsAllBut bs r (s.pickedUp n) ↔ KeepsAllBut bs r s := by
  simp at h; unfold State.pickedUp; dsimp only; (repeat' split) <;> simp [h, BufferController.setTask]

@[simp] theorem keeps_storeCompleted {n : Nat} {p : Position} (h : [.queue, .records, .buffer] ⊆ bs) :
    KeepsAllBut bs r (s.storeCompleted n p) ↔ KeepsAllBut bs r s := by
  simp at h; unfold State.storeCompleted; simp [h, BufferController.endTask, BufferController.unreserve]

@[simp] theorem keeps_dropFromBuffer {n : Nat} (h : [.buffer] ⊆ bs) :
    KeepsAllBut bs r (s.dropFromBuffer n) ↔ KeepsAllBut bs r s := by
  simp at h; unfold State.dropFromBuffer; simp [h, BufferController.endTask, BufferController.unreserve]

@[simp] theorem keeps_leaveExit {n : Nat} (h : [.buffer] ⊆ bs) :
    KeepsAllBut bs r (s.leaveExit n) ↔ KeepsAllBut bs r s := by
  simp at h; simp [State.leaveExit, h]

@[simp] theorem keeps_faultShuttle {m : Move} (h : [.buffer] ⊆ bs) :
    KeepsAllBut bs r (s.faultShuttle m) ↔ KeepsAllBut bs r s := by
  simp at h; unfold State.faultShuttle; rw [keeps_modBuffer] <;> dsimp only <;> (try split) <;> simp [h, BufferController.unreserve]

@[simp] theorem keeps_resumeShuttle (h : [.places, .moves, .records, .check, .buffer] ⊆ bs) :
    KeepsAllBut bs r s.resumeShuttle ↔ KeepsAllBut bs r s := by
  simp at h; unfold State.resumeShuttle; dsimp only; (repeat' split) <;> simp [h, BufferController.endTask]

/-! ### Records -/

@[simp] theorem keeps_tellSlot {ref : LoadRef} {d : Deletion} (h : [.queue, .loads] ⊆ bs) :
    KeepsAllBut bs r (s.tellSlot ref d) ↔ KeepsAllBut bs r s := by
  simp at h; cases d <;> simp [State.tellSlot, h]

@[simp] theorem keeps_dropMove {n : Nat} (h : [.queue, .places, .moves, .mass, .sent] ⊆ bs) :
    KeepsAllBut bs r (s.dropMove n) ↔ KeepsAllBut bs r s := by
  simp at h; unfold State.dropMove; dsimp only; (repeat' split) <;> simp [h]

@[simp] theorem keeps_leaveLocation {n : Nat} {p : Place} (h : [.queue, .places, .mass, .sent] ⊆ bs) :
    KeepsAllBut bs r (s.leaveLocation n p) ↔ KeepsAllBut bs r s := by
  simp at h; unfold State.leaveLocation; dsimp only; (repeat' split) <;> simp [h]

@[simp] theorem keeps_deleteRecord {n : Nat} {d : Deletion} (h : [.queue, .loads, .places, .moves, .records, .scanners, .check, .mass, .wrap, .label, .printLimit, .buffer, .sent, .reported] ⊆ bs) :
    KeepsAllBut bs r (s.deleteRecord n d) ↔ KeepsAllBut bs r s := by
  simp at h
  have e : ∀ u : State, KeepsAllBut bs r (allScanners.foldl (fun s sc => s.endReads sc n) u) ↔ KeepsAllBut bs r u :=
    fun u => keeps_foldl (fun _ _ => by simp [h]) _
  unfold State.deleteRecord; split
  · rfl
  · dsimp only
    rw [keeps_modTrack (by simp [h]) (by simp) (by simp) (by simp), e]
    (repeat' split) <;> simp [h]

@[simp] theorem keeps_setTaken {i : Infeed} {b : Bool} (h : [.entryTaken] ⊆ bs) :
    KeepsAllBut bs r (s.setTaken i b) ↔ KeepsAllBut bs r s := by
  simp at h; simp [State.setTaken, h]

@[simp] theorem keeps_createRecord {i : Infeed} (h : [.queue, .entryTaken, .places, .records, .nextNumber, .scanners, .sent] ⊆ bs) :
    KeepsAllBut bs r (s.createRecord i) ↔ KeepsAllBut bs r s := by
  simp at h; simp [State.createRecord, h]

@[simp] theorem keeps_arrive {i : Infeed} (h : [.queue, .entryTaken, .places, .records, .nextNumber, .scanners, .sent] ⊆ bs) :
    KeepsAllBut bs r (s.arrive i) ↔ KeepsAllBut bs r s := by
  simp at h; unfold State.arrive; (repeat' split) <;> simp [h]

@[simp] theorem keeps_watch {i : Infeed} (h : [.queue, .entryTaken, .places, .records, .nextNumber, .scanners, .sent] ⊆ bs) :
    KeepsAllBut bs r (s.watch i) ↔ KeepsAllBut bs r s := by
  simp at h; unfold State.watch; split <;> simp [h]

@[simp] theorem keeps_watchAll (h : [.queue, .entryTaken, .places, .records, .nextNumber, .scanners, .sent] ⊆ bs) :
    KeepsAllBut bs r s.watchAll ↔ KeepsAllBut bs r s := by
  simp at h; unfold State.watchAll; exact keeps_foldl (fun _ _ => by simp [h]) _

@[simp] theorem keeps_reachHead {i : Infeed} (h : [.records] ⊆ bs) :
    KeepsAllBut bs r (s.reachHead i) ↔ KeepsAllBut bs r s := by
  simp at h; unfold State.reachHead; split <;> simp [h]

@[simp] theorem keeps_startWake {i : Infeed} (h : [.wakeHolds] ⊆ bs) :
    KeepsAllBut bs r (s.startWake i) ↔ KeepsAllBut bs r s := by
  simp at h; unfold State.startWake; split <;> simp [h]

@[simp] theorem keeps_stopWake {i : Infeed} (h : [.wakeHolds] ⊆ bs) :
    KeepsAllBut bs r (s.stopWake i) ↔ KeepsAllBut bs r s := by
  simp at h; simp [State.stopWake, h]

@[simp] theorem keeps_startWakes (h : [.wakeHolds] ⊆ bs) :
    KeepsAllBut bs r s.startWakes ↔ KeepsAllBut bs r s := by
  simp at h; unfold State.startWakes; exact keeps_foldl (fun _ _ => by simp [h]) _

@[simp] theorem keeps_stopWakes (h : [.wakeHolds] ⊆ bs) :
    KeepsAllBut bs r s.stopWakes ↔ KeepsAllBut bs r s := by
  simp at h; simp [State.stopWakes, h]

@[simp] theorem keeps_beginDeferral {n : Nat} (h : [.queue, .records] ⊆ bs) :
    KeepsAllBut bs r (s.beginDeferral n) ↔ KeepsAllBut bs r s := by
  simp at h; unfold State.beginDeferral; split <;> simp [h]

@[simp] theorem keeps_entryAnswer {n : Nat} {t : Option Text} (h : [.queue, .counters, .loads, .records] ⊆ bs) :
    KeepsAllBut bs r (s.entryAnswer n t) ↔ KeepsAllBut bs r s := by
  simp at h; unfold State.entryAnswer; split
  · dsimp only; split <;> simp [h]
  · rename_i t
    have e := keeps_matchTag (bs := bs) (r := r) (s := s.modRecord n fun r => { r with tag := some t }) (n := n) (t := t)
      (o := 1) (by simp [h])
    split <;> rename_i he <;> rw [he] at e <;> (try split) <;> simpa [h] using e

@[simp] theorem keeps_applyRead {rd : Read} {t : Option Text} (h : [.queue, .counters, .loads, .places, .moves, .records, .scanners, .check, .mass, .label, .buffer, .sent] ⊆ bs) :
    KeepsAllBut bs r (s.applyRead rd t) ↔ KeepsAllBut bs r s := by
  simp at h; unfold State.applyRead; split <;> simp [h]

@[simp] theorem keeps_endRead {sc : Scanner} {rd : Read} {t : Option Text} (h : [.queue, .counters, .loads, .places, .moves, .records, .scanners, .check, .mass, .label, .buffer, .sent] ⊆ bs) :
    KeepsAllBut bs r (s.endRead sc rd t) ↔ KeepsAllBut bs r s := by
  simp at h; simp [State.endRead, h]

@[simp] theorem keeps_setEnabled {i : Infeed} {b : Bool} (h : [.queue, .entryTaken, .wakeHolds, .places, .records, .nextNumber, .enabled, .scanners, .sent] ⊆ bs) :
    KeepsAllBut bs r (s.setEnabled i b) ↔ KeepsAllBut bs r s := by
  simp at h; unfold State.setEnabled; (repeat' split) <;> simp [h]

/-! ### Moves, inputs and zones -/

@[simp] theorem keeps_leftPlace {n : Nat} {p : Place} (h : [.check, .wrap, .label, .printLimit, .buffer] ⊆ bs) :
    KeepsAllBut bs r (s.leftPlace n p) ↔ KeepsAllBut bs r s := by
  simp at h; cases p <;> simp [State.leftPlace, h]

@[simp] theorem keeps_dispatch {n : Nat} {l : Lane} (h : [.queue, .loads, .places, .moves, .records, .scanners, .check, .mass, .wrap, .label, .printLimit, .buffer, .lanes, .sent, .reported] ⊆ bs) :
    KeepsAllBut bs r (s.dispatch n l) ↔ KeepsAllBut bs r s := by
  simp at h; simp [State.dispatch, h]

@[simp] theorem keeps_reachedPlace {n : Nat} {p : Place} (h : [.queue, .loads, .places, .moves, .records, .scanners, .check, .mass, .wrap, .label, .printLimit, .buffer, .lanes, .sent, .reported] ⊆ bs) :
    KeepsAllBut bs r (s.reachedPlace n p) ↔ KeepsAllBut bs r s := by
  simp at h; cases p <;> simp [State.reachedPlace, h]

@[simp] theorem keeps_joinDest {m : Move} (h : [.places, .moves, .records] ⊆ bs) :
    KeepsAllBut bs r (s.joinDest m) ↔ KeepsAllBut bs r s := by
  simp at h; simp [State.joinDest, h]

@[simp] theorem keeps_leaveSource {m : Move} (h : [.places] ⊆ bs) :
    KeepsAllBut bs r (s.leaveSource m) ↔ KeepsAllBut bs r s := by
  simp at h; unfold State.leaveSource; dsimp only; split <;> simp [h]

@[simp] theorem keeps_completeMove {m : Move} (h : [.queue, .loads, .places, .moves, .records, .scanners, .check, .mass, .wrap, .label, .printLimit, .buffer, .lanes, .sent, .reported] ⊆ bs) :
    KeepsAllBut bs r (s.completeMove m) ↔ KeepsAllBut bs r s := by
  simp at h; simp [State.completeMove, h]

@[simp] theorem keeps_completeLate {m : Move} (h : [.queue, .loads, .places, .moves, .records, .scanners, .check, .mass, .wrap, .label, .printLimit, .buffer, .lanes, .sent, .reported] ⊆ bs) :
    KeepsAllBut bs r (s.completeLate m) ↔ KeepsAllBut bs r s := by
  simp at h; simp [State.completeLate, h]

@[simp] theorem keeps_completion_getD {p : Place} (h : [.queue, .loads, .places, .moves, .records, .scanners, .check, .mass, .wrap, .label, .printLimit, .buffer, .lanes, .sent, .reported] ⊆ bs)
    (h' : KeepsAllBut bs r s' ↔ KeepsAllBut bs r s) :
    KeepsAllBut bs r ((s.completion p).getD s') ↔ KeepsAllBut bs r s := by
  simp at h; unfold State.completion; (repeat' split) <;> simp [h, h']

@[simp] theorem keeps_coverWatch {p : Place} (h : [.queue, .places, .mass, .sent] ⊆ bs) :
    KeepsAllBut bs r (s.coverWatch p) ↔ KeepsAllBut bs r s := by
  simp at h; unfold State.coverWatch; split <;> simp [h]

@[simp] theorem keeps_clearWatch {p : Place} (h : [.queue, .places, .mass, .sent] ⊆ bs) :
    KeepsAllBut bs r (s.clearWatch p) ↔ KeepsAllBut bs r s := by
  simp at h; unfold State.clearWatch; dsimp only; (repeat' split) <;> simp [h]

@[simp] theorem keeps_arrivalSensor {p : Place} {b : Bool} (h : [.queue, .loads, .places, .moves, .records, .scanners, .check, .mass, .wrap, .label, .printLimit, .buffer, .lanes, .sent, .reported] ⊆ bs) :
    KeepsAllBut bs r (s.arrivalSensor p b) ↔ KeepsAllBut bs r s := by
  simp at h; unfold State.arrivalSensor; split <;> simp [h]

@[simp] theorem keeps_exitSensor {p : Place} {b : Bool} (h : [.queue, .places, .mass, .sent] ⊆ bs) :
    KeepsAllBut bs r (s.exitSensor p b) ↔ KeepsAllBut bs r s := by
  simp at h; unfold State.exitSensor; split <;> simp [h]

@[simp] theorem keeps_spurRemoval {sp : Spur} (h : [.queue, .loads, .places, .moves, .records, .scanners, .check, .mass, .wrap, .label, .printLimit, .buffer, .sent, .reported] ⊆ bs) :
    KeepsAllBut bs r (s.spurRemoval sp) ↔ KeepsAllBut bs r s := by
  simp at h; unfold State.spurRemoval; split <;> simp [h]

@[simp] theorem keeps_laneRemoval {l : Lane} (h : [.lanes] ⊆ bs) :
    KeepsAllBut bs r (s.laneRemoval l) ↔ KeepsAllBut bs r s := by
  simp at h; unfold State.laneRemoval; split <;> simp [h]

@[simp] theorem keeps_purgeWatch (h : [.purgeHold] ⊆ bs) :
    KeepsAllBut bs r s.purgeWatch ↔ KeepsAllBut bs r s := by
  simp at h; unfold State.purgeWatch; (repeat' split) <;> simp [h]

@[simp] theorem keeps_entrySensor {i : Infeed} {b : Bool} (h : [.queue, .entryTaken, .wakeHolds, .places, .records, .nextNumber, .scanners, .sent] ⊆ bs) :
    KeepsAllBut bs r (s.entrySensor i b) ↔ KeepsAllBut bs r s := by
  simp at h; unfold State.entrySensor; split <;> simp [h]

@[simp] theorem keeps_handOn {i : Input} {b : Bool} (h : [.queue, .loads, .entryTaken, .purgeHold, .wakeHolds, .places, .moves, .records, .nextNumber, .scanners, .merge, .check, .mass, .wrap, .label, .printLimit, .buffer, .lanes, .sent, .reported] ⊆ bs) :
    KeepsAllBut bs r (s.handOn i b) ↔ KeepsAllBut bs r s := by
  simp at h; unfold State.handOn; (repeat' split) <;> simp [h]

@[simp] theorem keeps_setTiming {i : Input} {t : Option Nat} (h : [.timing] ⊆ bs) :
    KeepsAllBut bs r (s.setTiming i t) ↔ KeepsAllBut bs r s := by
  simp at h; simp [State.setTiming, h]

@[simp] theorem keeps_filtered {i : Input} {b : Bool} (h : [.queue, .loads, .filtered, .timing, .entryTaken, .purgeHold, .wakeHolds, .places, .moves, .records, .nextNumber, .scanners, .merge, .check, .mass, .wrap, .label, .printLimit, .buffer, .lanes, .sent, .reported] ⊆ bs) :
    KeepsAllBut bs r (s.filtered i b) ↔ KeepsAllBut bs r s := by
  simp at h; simp [State.filtered, h]

@[simp] theorem keeps_setDiverter {m : Move} (h : [.diverter] ⊆ bs) :
    KeepsAllBut bs r (s.setDiverter m) ↔ KeepsAllBut bs r s := by
  simp at h; unfold State.setDiverter; split <;> simp [h]

@[simp] theorem keeps_startedMove {n : Nat} {p : Place} {p' : Place} (h : [.queue, .records, .wrap, .label] ⊆ bs) :
    KeepsAllBut bs r (s.startedMove n p p') ↔ KeepsAllBut bs r s := by
  simp at h; unfold State.startedMove; (repeat' split) <;> simp [h]

@[simp] theorem keeps_startMove {m : Move} (h : [.queue, .diverter, .moves, .records, .wrap, .label] ⊆ bs) :
    KeepsAllBut bs r (s.startMove m) ↔ KeepsAllBut bs r s := by
  simp at h; simp [State.startMove, h]

@[simp] theorem keeps_faultStation {m : Move} (h : [.check, .wrap, .label, .buffer] ⊆ bs) :
    KeepsAllBut bs r (s.faultStation m) ↔ KeepsAllBut bs r s := by
  simp at h; unfold State.faultStation; split <;> simp [h]

@[simp] theorem keeps_loseSource {m : Move} (h : [.queue, .places, .mass, .sent] ⊆ bs) :
    KeepsAllBut bs r (s.loseSource m) ↔ KeepsAllBut bs r s := by
  simp at h; unfold State.loseSource; split <;> simp [h]

@[simp] theorem keeps_loseMove {m : Move} (h : [.queue, .counters, .places, .moves, .records, .check, .mass, .wrap, .label, .printLimit, .buffer, .reported, .sent] ⊆ bs) :
    KeepsAllBut bs r (s.loseMove m) ↔ KeepsAllBut bs r s := by
  simp at h; simp [State.loseMove, h]

@[simp] theorem keeps_doubleMoves {z : Zone} (h : [.moves] ⊆ bs) :
    KeepsAllBut bs r (s.doubleMoves z) ↔ KeepsAllBut bs r s := by
  simp at h; simp [State.doubleMoves, h]

@[simp] theorem keeps_setZone {z : Zone} {st : ZoneState} {g : Nat} {v : Option Int} (h : [.queue, .zones, .moves] ⊆ bs) :
    KeepsAllBut bs r (s.setZone z st g v) ↔ KeepsAllBut bs r s := by
  simp at h; unfold State.setZone; dsimp only; (repeat' split) <;> simp [h]

@[simp] theorem keeps_readZone {b : Bool} {z : Zone} (h : [.queue, .zones, .moves] ⊆ bs) :
    KeepsAllBut bs r (State.readZone b s z) ↔ KeepsAllBut bs r s := by
  simp at h; unfold State.readZone; dsimp only; (repeat' split) <;> simp [h]

@[simp] theorem keeps_emptyLane {p : Place} (h : [.lanes] ⊆ bs) :
    KeepsAllBut bs r (s.emptyLane p) ↔ KeepsAllBut bs r s := by
  simp at h; unfold State.emptyLane; split <;> simp [h]

@[simp] theorem keeps_clearPlace {p : Place} (h : [.places, .moves, .records, .merge, .check, .lanes] ⊆ bs) :
    KeepsAllBut bs r (s.clearPlace p) ↔ KeepsAllBut bs r s := by
  simp at h; unfold State.clearPlace; split <;> simp [h]

/-! ### Modes -/

@[simp] theorem keeps_changeMode {m : LineMode} {c : ModeCause} (h : [.queue, .wakeHolds, .mode] ⊆ bs) :
    KeepsAllBut bs r (s.changeMode m c) ↔ KeepsAllBut bs r s := by
  simp at h; unfold State.changeMode; split <;> simp [h]

@[simp] theorem keeps_setDrain {d : Option Nat} (h : [.mode] ⊆ bs) :
    KeepsAllBut bs r (s.setDrain d) ↔ KeepsAllBut bs r s := by
  simp at h; simp [State.setDrain, h]

@[simp] theorem keeps_enterStopped {c : ModeCause} (h : [.queue, .wakeHolds, .mode] ⊆ bs) :
    KeepsAllBut bs r (s.enterStopped c) ↔ KeepsAllBut bs r s := by
  simp at h; simp [State.enterStopped, h]

@[simp] theorem keeps_enterRun {c : ModeCause} (h : [.queue, .entryTaken, .wakeHolds, .places, .moves, .records, .nextNumber, .scanners, .merge, .check, .mode, .sent] ⊆ bs) :
    KeepsAllBut bs r (s.enterRun c) ↔ KeepsAllBut bs r s := by
  simp at h; simp [State.enterRun, h]

@[simp] theorem keeps_testDrain (h : [.queue, .wakeHolds, .mode] ⊆ bs) :
    KeepsAllBut bs r s.testDrain ↔ KeepsAllBut bs r s := by
  simp at h; unfold State.testDrain; split <;> simp [h]

@[simp] theorem keeps_testStop (h : [.queue, .wakeHolds, .mode] ⊆ bs) :
    KeepsAllBut bs r s.testStop ↔ KeepsAllBut bs r s := by
  simp at h; unfold State.testStop; split <;> simp [h]

@[simp] theorem keeps_sendAll {m : Port → Message} (h : [.sent] ⊆ bs) :
    KeepsAllBut bs r (s.sendAll m) ↔ KeepsAllBut bs r s := by
  simp at h; simp [State.sendAll, h]

@[simp] theorem keeps_emptyWindow (h : [.mass] ⊆ bs) :
    KeepsAllBut bs r s.emptyWindow ↔ KeepsAllBut bs r s := by
  simp at h; simp [State.emptyWindow, h]

@[simp] theorem keeps_halt (h : [.queue, .wakeHolds, .mass, .mode, .sent] ⊆ bs) :
    KeepsAllBut bs r s.halt ↔ KeepsAllBut bs r s := by
  simp at h; simp [State.halt, h]

@[simp] theorem keeps_anchorTimes (h : [.records, .grant, .check, .mass] ⊆ bs) :
    KeepsAllBut bs r s.anchorTimes ↔ KeepsAllBut bs r s := by
  simp at h; unfold State.anchorTimes; dsimp only
  rw [keeps_modMerge (by simp [h]) (by simp), keeps_modTrack (.inl h.1) (by simp) (by simp) (by simp), keeps_modMass (by simp [h]),
    keeps_modCheck (by simp [h])]

@[simp] theorem keeps_actAs {m : LineMode} (h : [.queue, .entryTaken, .wakeHolds, .places, .moves, .records, .nextNumber, .scanners, .merge, .check, .mode, .sent] ⊆ bs) :
    KeepsAllBut bs r (s.actAs m) ↔ KeepsAllBut bs r s := by
  simp at h; cases m <;> simp [State.actAs, h]

@[simp] theorem keeps_leaveHalt (h : [.queue, .entryTaken, .wakeHolds, .places, .moves, .records, .nextNumber, .scanners, .grant, .merge, .check, .mass, .mode, .sent] ⊆ bs) :
    KeepsAllBut bs r s.leaveHalt ↔ KeepsAllBut bs r s := by
  simp at h; simp [State.leaveHalt, h]

@[simp] theorem keeps_drainDetail (h : [.freeDraws] ⊆ bs) :
    KeepsAllBut bs r s.drainDetail.1 ↔ KeepsAllBut bs r s := by
  simp at h; unfold State.drainDetail; (repeat' split) <;> simp [h]

@[simp] theorem keeps_failDrain (h : [.queue, .entryTaken, .wakeHolds, .places, .moves, .records, .nextNumber, .scanners, .merge, .check, .mode, .sent, .freeDraws] ⊆ bs) :
    KeepsAllBut bs r s.failDrain ↔ KeepsAllBut bs r s := by
  simp at h
  have e := keeps_drainDetail (bs := bs) (r := r) (s := s) (by simp [h])
  unfold State.failDrain; split; rename_i he; rw [he] at e; simpa [h] using e

/-! ### Resets -/

@[simp] theorem keeps_resetPlace {p : Place} (h : [.queue, .places] ⊆ bs) :
    KeepsAllBut bs r (s.resetPlace p) ↔ KeepsAllBut bs r s := by
  simp at h; unfold State.resetPlace; dsimp only; split <;> simp [h]

@[simp] theorem keeps_resetPlaces (h : [.queue, .places] ⊆ bs) :
    KeepsAllBut bs r s.resetPlaces ↔ KeepsAllBut bs r s := by
  simp at h; unfold State.resetPlaces; exact keeps_foldl (fun _ _ => by simp [h]) _

@[simp] theorem keeps_endReset {b : Bool} (h : [.queue, .wakeHolds, .mass, .mode, .sent] ⊆ bs) :
    KeepsAllBut bs r (s.endReset b) ↔ KeepsAllBut bs r s := by
  simp at h; unfold State.endReset; (repeat' split) <;> simp [h]

@[simp] theorem keeps_sendResets (h : [.sent] ⊆ bs) :
    KeepsAllBut bs r s.sendResets ↔ KeepsAllBut bs r s := by
  simp at h; unfold State.sendResets; exact keeps_congr fun b hb => by cases b <;> simp_all [Block.Same]

end Sys2Proof.Machine
end

