-- ==== Sys2Proof/Laws/Serve.lean ====
section
/-! SUPPORT. What running a request can do (R191 to R193), case by case: answered, refused, broken, lost and broadcast. -/

namespace Sys2Proof.Machine

open State

variable {bs : List Block} {r s s' : State} {kind : Nat} {how : Manner} {op : Service} {q : Req} {code : Result}
  {body : ReplyBody}

@[simp] theorem asked_reply (k : Nat) (c : Result) (b : ReplyBody) : s.asked.reply k c b = s.reply k c b := rfl

theorem asked_eq : (s.modLink fun u => { u with answering := true }) = s.asked := rfl

@[simp] theorem keeps_asked (h : .answering ∈ bs) : KeepsAllBut bs r s.asked ↔ KeepsAllBut bs r s := by
  unfold State.asked; exact keeps_modLink (by simp) (by simp) (by simp) (by simp) (by simp) (by simp [h]) (by simp) (by simp)

@[simp] theorem keeps_answers {c : Result} {b : ReplyBody} (h : .answering ∈ bs) (h' : .sent ∈ bs) :
    KeepsAllBut bs r (s.answers kind c b) ↔ KeepsAllBut bs r s := by
  unfold State.answers; rw [keeps_send h', keeps_asked h]

/-- A request that changes the state and is taken: its effect, the derived signals brought up to date, and its reply (R192). -/
theorem serve_taken (h : Addressed q s) (e : op s.asked = (s', code, body)) (ht : code.isTaken = true) (hh : how ≠ .reads) :
    serve kind how op q s = s'.settle.send (s.reply kind code body) := by
  obtain ⟨hw, hb, ha⟩ := h
  simp [serve, hb, ha, hw, asked_eq, e, ht, hh]

/-- A request that only reads the state is answered by what it reads (R192). -/
theorem serve_read (h : Addressed q s) (e : op s.asked = (s.asked, code, body)) :
    serve kind .reads op q s = s.answers kind code body := by
  obtain ⟨hw, hb, ha⟩ := h
  simp [serve, hb, ha, hw, asked_eq, e, State.answers]

/-- A refused request changes no state (R192). -/
theorem serve_refused (h : Addressed q s) (e : op s.asked = (s', code, body)) (ht : code.isTaken = false) :
    serve kind how op q s = s.answers kind code body := by
  obtain ⟨hw, hb, ha⟩ := h
  simp [serve, hb, ha, hw, asked_eq, e, ht, State.answers]

/-- A request whose payload has not the length its contents require is refused with BAD_ARGUMENT (R205). -/
theorem serve_broken (hw : q.whole = false) (hb : q.broadcast = false) (ha : s.link.answering = false) :
    serve kind how op q s = s.answers kind .badArgument .nothing := by
  simp [serve, hb, ha, hw, asked_eq, refuse, Result.isTaken, State.answers]

/-- A request that arrives while the part is answering is lost and counted (R191). -/
theorem serve_lost (ha : s.link.answering = true) (hb : q.broadcast = false) :
    serve kind how op q s = s.count .linkErrors := by
  simp [serve, hb, ha]

/-- A broadcast request that changes the state is run without reply (R193). -/
theorem serve_broadcast (hb : q.broadcast = true) (hw : q.whole = true) (ho : s.settingOn .broadcastOff = false)
    (ha : s.link.answering = false) (e : op s = (s', code, body)) :
    serve kind .changes op q s = if code.isTaken then s'.settle else s := by
  simp [serve, hb, ha, hw, ho, e]

/-- The frame of a request is its operation's, with answering, the reply, the counters and the derived parts. -/
theorem keeps_serve (h : [.queue, .counters, .answering, .outputs, .grant, .printLimit, .deadlock, .laneStates, .reported, .sent] ⊆ bs)
    (ho : ∀ u : State, KeepsAllBut bs r (op u).1 ↔ KeepsAllBut bs r u) :
    KeepsAllBut bs r (serve kind how op q s) ↔ KeepsAllBut bs r s := by
  simp at h
  have e := ho s
  have e' := ho s.asked
  unfold serve
  split
  · split
    · rfl
    · split
      · simp [h]
      · split
        · rfl
        · split; rename_i he; rw [he] at e; split
          · simpa [h] using e
          · rfl
  · split
    · simp [h]
    · dsimp only
      rw [asked_eq, keeps_send (by simp [h])]
      split
      · (repeat' split) <;> simp_all
      · simp [refuse, Result.isTaken, h]

end Sys2Proof.Machine
end

