-- ==== Sys2Proof/Laws/Services.lean ====
section
/-! SUPPORT. The frame of each request's operation, of the resets and of the passing of time. -/

namespace Sys2Proof.Machine

open State

variable {bs : List Block} {r s s' : State}

/-! ### Plans -/

@[simp] theorem keeps_setBands {t : List Band} (h : [.bands] ⊆ bs) :
    KeepsAllBut bs r (setBands t s).1 ↔ KeepsAllBut bs r s := by
  simp at h; unfold setBands; split <;> simp [refuse, h]

@[simp] theorem keeps_setBases {t : List Base} (h : [.bases] ⊆ bs) :
    KeepsAllBut bs r (setBases t s).1 ↔ KeepsAllBut bs r s := by
  simp at h; unfold setBases; split <;> simp [refuse, h]

@[simp] theorem keeps_setRecipes {t : List Recipe} (h : [.recipes] ⊆ bs) :
    KeepsAllBut bs r (setRecipes t s).1 ↔ KeepsAllBut bs r s := by
  simp at h; unfold setRecipes; split <;> simp [refuse, h]

@[simp] theorem keeps_putArticle {c : Nat} {m : Nat} {n : Text} (h : [.articles] ⊆ bs) :
    KeepsAllBut bs r (putArticle c m n s).1 ↔ KeepsAllBut bs r s := by
  simp at h; unfold putArticle; dsimp only; (repeat' split) <;> simp [refuse, h]

@[simp] theorem keeps_dropArticle {c : Nat} (h : [.articles] ⊆ bs) :
    KeepsAllBut bs r (dropArticle c s).1 ↔ KeepsAllBut bs r s := by
  simp at h; unfold dropArticle; split <;> simp [refuse, h]

@[simp] theorem keeps_getArticle {c : Nat} {f : ArticleForm} :
    KeepsAllBut bs r (getArticle c f s).1 ↔ KeepsAllBut bs r s := by
  unfold getArticle; split <;> simp [refuse]

@[simp] theorem keeps_createLoad {id : Nat} {p : Nat} {l : Nat} {d : Text} (h : [.loads] ⊆ bs) :
    KeepsAllBut bs r (createLoad id p l d s).1 ↔ KeepsAllBut bs r s := by
  simp at h; unfold createLoad; dsimp only; (repeat' split) <;> simp [refuse, h]

@[simp] theorem keeps_addSlot {id : Nat} {p : Nat} {t : Text} {b : Nat} {rc : Nat} {l : List ArticleLine} {x : List Text} (h : [.queue, .loads, .records] ⊆ bs) :
    KeepsAllBut bs r (addSlot id p t b rc l x s).1 ↔ KeepsAllBut bs r s := by
  simp at h; unfold addSlot; dsimp only; (repeat' split) <;> simp [refuse, h]

@[simp] theorem keeps_skipSlot {id : Nat} {p : Nat} (h : [.queue, .loads] ⊆ bs) :
    KeepsAllBut bs r (skipSlot id p s).1 ↔ KeepsAllBut bs r s := by
  simp at h; unfold skipSlot; (repeat' split) <;> simp [refuse, h]

@[simp] theorem keeps_bindLoad {id : Nat} {l : Nat} (h : [.loads] ⊆ bs) :
    KeepsAllBut bs r (bindLoad id l s).1 ↔ KeepsAllBut bs r s := by
  simp at h; unfold bindLoad; (repeat' split) <;> simp [refuse, h]

@[simp] theorem keeps_unbindLoad {id : Nat} (h : [.loads, .buffer] ⊆ bs) :
    KeepsAllBut bs r (unbindLoad id s).1 ↔ KeepsAllBut bs r s := by
  simp at h; unfold unbindLoad; (repeat' split) <;> simp [refuse, h]

@[simp] theorem keeps_closeLoad {id : Nat} (h : [.loads, .buffer] ⊆ bs) :
    KeepsAllBut bs r (closeLoad id s).1 ↔ KeepsAllBut bs r s := by
  simp at h; unfold closeLoad; (repeat' split) <;> simp [refuse, h]

@[simp] theorem keeps_readLoadOp {id : Nat} {p : Nat} {f : Nat} :
    KeepsAllBut bs r (readLoadOp id p f s).1 ↔ KeepsAllBut bs r s := by
  unfold readLoadOp; (repeat' split) <;> simp [refuse]

/-! ### The line -/

@[simp] theorem keeps_zeroScaleOp (h : [.mass, .sent] ⊆ bs) :
    KeepsAllBut bs r (zeroScaleOp  s).1 ↔ KeepsAllBut bs r s := by
  simp at h; unfold zeroScaleOp; (repeat' split) <;> simp [refuse, h]

@[simp] theorem keeps_setInfeed {i : Nat} {b : Nat} (h : [.queue, .entryTaken, .wakeHolds, .places, .records, .nextNumber, .enabled, .scanners, .sent] ⊆ bs) :
    KeepsAllBut bs r (setInfeed i b s).1 ↔ KeepsAllBut bs r s := by
  simp at h; unfold setInfeed; (repeat' split) <;> simp [refuse, h]

@[simp] theorem keeps_readPalletOp {n : Nat} :
    KeepsAllBut bs r (readPalletOp n s).1 ↔ KeepsAllBut bs r s := by
  unfold readPalletOp; split <;> simp [refuse]

@[simp] theorem keeps_listPalletsOp {a : Nat} {b : Nat} :
    KeepsAllBut bs r (listPalletsOp a b s).1 ↔ KeepsAllBut bs r s := by
  unfold listPalletsOp; split <;> simp [refuse]

@[simp] theorem keeps_removePallet {n : Nat} (h : [.queue, .loads, .places, .moves, .records, .scanners, .check, .mass, .wrap, .label, .printLimit, .buffer, .sent, .reported] ⊆ bs) :
    KeepsAllBut bs r (removePallet n s).1 ↔ KeepsAllBut bs r s := by
  simp at h; unfold removePallet; (repeat' split) <;> simp [refuse, h]

@[simp] theorem keeps_clearPlaceOp {n : Nat} (h : [.places, .moves, .records, .merge, .check, .lanes] ⊆ bs) :
    KeepsAllBut bs r (clearPlaceOp n s).1 ↔ KeepsAllBut bs r s := by
  simp at h; unfold clearPlaceOp; (repeat' split) <;> simp [refuse, h]

@[simp] theorem keeps_listPlacesOp :
    KeepsAllBut bs r (listPlacesOp  s).1 ↔ KeepsAllBut bs r s := by
  simp [listPlacesOp]

@[simp] theorem keeps_readZonesOp {b : Bool} (h : [.queue, .zones, .moves] ⊆ bs) :
    KeepsAllBut bs r (readZonesOp b s).1 ↔ KeepsAllBut bs r s := by
  simp at h; unfold readZonesOp; exact keeps_foldl (fun _ _ => by simp [h]) _

@[simp] theorem keeps_setWindows {t : List Window} (h : [.windows] ⊆ bs) :
    KeepsAllBut bs r (setWindows t s).1 ↔ KeepsAllBut bs r s := by
  simp at h; unfold setWindows; split <;> simp [refuse, h]

@[simp] theorem keeps_forcePallet {n : Nat} (h : [.buffer] ⊆ bs) :
    KeepsAllBut bs r (forcePallet n s).1 ↔ KeepsAllBut bs r s := by
  simp at h; unfold forcePallet; (repeat' split) <;> simp [refuse, h]

@[simp] theorem keeps_setHalt {l : Nat} {b : Bool} (h : [.lanes] ⊆ bs) :
    KeepsAllBut bs r (setHalt l b s).1 ↔ KeepsAllBut bs r s := by
  simp at h; unfold setHalt; split <;> simp [refuse, h]

@[simp] theorem keeps_readLaneOp {l : Nat} :
    KeepsAllBut bs r (readLaneOp l s).1 ↔ KeepsAllBut bs r s := by
  unfold readLaneOp; (repeat' split) <;> simp [refuse]

/-! ### Modes and stations -/

@[simp] theorem keeps_setRun (h : [.queue, .entryTaken, .wakeHolds, .places, .moves, .records, .nextNumber, .scanners, .merge, .check, .mode, .sent] ⊆ bs) :
    KeepsAllBut bs r (setRun  s).1 ↔ KeepsAllBut bs r s := by
  simp at h; unfold setRun; (repeat' split) <;> simp [refuse, h]

@[simp] theorem keeps_setDrainMode (h : [.queue, .wakeHolds, .places, .moves, .records, .merge, .check, .mode] ⊆ bs) :
    KeepsAllBut bs r (setDrainMode  s).1 ↔ KeepsAllBut bs r s := by
  simp at h; unfold setDrainMode; split <;> simp [refuse, h]

@[simp] theorem keeps_setStop (h : [.queue, .wakeHolds, .mode] ⊆ bs) :
    KeepsAllBut bs r (setStop  s).1 ↔ KeepsAllBut bs r s := by
  simp at h; unfold setStop; split <;> simp [refuse, h]

@[simp] theorem keeps_resumeOp (h : [.queue, .entryTaken, .wakeHolds, .places, .moves, .records, .nextNumber, .scanners, .grant, .merge, .check, .mass, .mode, .sent] ⊆ bs) :
    KeepsAllBut bs r (resumeOp  s).1 ↔ KeepsAllBut bs r s := by
  simp at h; unfold resumeOp; (repeat' split) <;> simp [refuse, h]

@[simp] theorem keeps_resumeCheck (h : [.queue, .loads, .places, .moves, .records, .scanners, .check, .mass, .reported, .sent] ⊆ bs) :
    KeepsAllBut bs r s.resumeCheck ↔ KeepsAllBut bs r s := by
  simp at h; unfold State.resumeCheck; dsimp only; (repeat' split) <;> simp [h]

@[simp] theorem keeps_resumeGate (h : [.queue, .places, .moves, .records, .merge, .check, .reported] ⊆ bs) :
    KeepsAllBut bs r s.resumeGate ↔ KeepsAllBut bs r s := by
  simp at h; unfold State.resumeGate; split <;> simp [h]

@[simp] theorem keeps_resumeStation {st : Station} (h : [.queue, .counters, .loads, .places, .moves, .records, .scanners, .merge, .check, .mass, .wrap, .label, .buffer, .reported, .sent] ⊆ bs) :
    KeepsAllBut bs r (s.resumeStation st) ↔ KeepsAllBut bs r s := by
  simp at h; cases st <;> simp [State.resumeStation, h]

@[simp] theorem keeps_resumeStationOp {n : Nat} (h : [.queue, .counters, .loads, .places, .moves, .records, .scanners, .merge, .check, .mass, .wrap, .label, .buffer, .reported, .sent] ⊆ bs) :
    KeepsAllBut bs r (resumeStationOp n s).1 ↔ KeepsAllBut bs r s := by
  simp at h; unfold resumeStationOp; split <;> simp [refuse, h]

/-! ### The link -/

@[simp] theorem keeps_settingTaken {k : Setting} (h : [.purgeHold, .wakeHolds] ⊆ bs) :
    KeepsAllBut bs r (s.settingTaken k) ↔ KeepsAllBut bs r s := by
  simp at h; unfold State.settingTaken; split <;> simp [h]

@[simp] theorem keeps_applySetting {k : Setting} {v : Nat} (h : [.purgeHold, .wakeHolds, .settings] ⊆ bs) :
    KeepsAllBut bs r (s.applySetting k v) ↔ KeepsAllBut bs r s := by
  simp at h; unfold State.applySetting; rw [keeps_settingTaken (by simp [h]), keeps_setSettings (by simp [h])]

@[simp] theorem keeps_setSettingOp {n : Nat} {v : Int} (h : [.purgeHold, .wakeHolds, .settings] ⊆ bs) :
    KeepsAllBut bs r (setSettingOp n v s).1 ↔ KeepsAllBut bs r s := by
  simp at h; unfold setSettingOp; split <;> simp [refuse, h]

@[simp] theorem keeps_getSettingOp {n : Nat} :
    KeepsAllBut bs r (getSettingOp n s).1 ↔ KeepsAllBut bs r s := by
  unfold getSettingOp; split <;> simp [refuse]

@[simp] theorem keeps_setMask {l : List Nat} (h : [.mask] ⊆ bs) :
    KeepsAllBut bs r (setMask l s).1 ↔ KeepsAllBut bs r s := by
  simp at h; unfold setMask; split <;> simp [refuse, h]

@[simp] theorem keeps_getTableOp {n : Nat} :
    KeepsAllBut bs r (getTableOp n s).1 ↔ KeepsAllBut bs r s := by
  unfold getTableOp; split <;> simp [refuse]

@[simp] theorem keeps_takeReportsOp (h : [.queue] ⊆ bs) :
    KeepsAllBut bs r (takeReportsOp  s).1 ↔ KeepsAllBut bs r s := by
  simp at h; simp [takeReportsOp, h]

@[simp] theorem keeps_readCountersOp {n : Nat} (h : [.counters] ⊆ bs) :
    KeepsAllBut bs r (readCountersOp n s).1 ↔ KeepsAllBut bs r s := by
  simp at h; unfold readCountersOp; (repeat' split) <;> simp [refuse, h]

@[simp] theorem keeps_setIdentityOp {t : Text} (h : [.identity] ⊆ bs) :
    KeepsAllBut bs r (setIdentityOp t s).1 ↔ KeepsAllBut bs r s := by
  simp at h; unfold setIdentityOp; (repeat' split) <;> simp [refuse, h]

@[simp] theorem keeps_identifyOp :
    KeepsAllBut bs r (identifyOp  s).1 ↔ KeepsAllBut bs r s := by
  simp [identifyOp]

/-! ### Resets and time -/

@[simp] theorem keeps_emptied (h : [.loads, .entryTaken, .diverter, .wakeHolds, .zones, .outputs, .moves, .records, .nextNumber, .scanners, .grant, .merge, .check, .mass, .wrap, .label, .printLimit, .buffer, .deadlock, .lanes, .mode] ⊆ bs) :
    KeepsAllBut bs r s.emptied ↔ KeepsAllBut bs r s := by
  simp at h
  refine keeps_congr fun b hb => ?_
  cases b <;>
    simp_all [Block.Same, State.emptied, FieldUnit.lineReset, bufferReset, trackReset, MassUnit.lineReset]

@[simp] theorem keeps_lineReset {c : Nat} (h : [.queue, .loads, .entryTaken, .diverter, .wakeHolds, .zones, .outputs, .places, .moves, .records, .nextNumber, .scanners, .grant, .merge, .check, .mass, .wrap, .label, .printLimit, .buffer, .deadlock, .lanes, .laneStates, .mode, .reported, .sent] ⊆ bs) :
    KeepsAllBut bs r (s.lineReset c) ↔ KeepsAllBut bs r s := by
  simp at h; unfold State.lineReset; simp [h]

@[simp] theorem keeps_resetLineOp (h : [.queue, .loads, .entryTaken, .diverter, .wakeHolds, .zones, .outputs, .places, .moves, .records, .nextNumber, .scanners, .grant, .merge, .check, .mass, .wrap, .label, .printLimit, .buffer, .deadlock, .lanes, .laneStates, .mode, .reported, .sent] ⊆ bs) :
    KeepsAllBut bs r (resetLineOp  s).1 ↔ KeepsAllBut bs r s := by
  simp at h; simp [resetLineOp, h]

@[simp] theorem keeps_settingsReset (h : [.mask, .bases, .recipes, .bands, .purgeHold, .wakeHolds, .windows, .settings] ⊆ bs) :
    KeepsAllBut bs r s.settingsReset ↔ KeepsAllBut bs r s := by
  simp at h; unfold State.settingsReset
  refine (keeps_purgeWatch (by simp [h])).trans (keeps_congr fun b hb => ?_)
  cases b <;> simp_all [Block.Same]

@[simp] theorem keeps_resetSettingsOp (h : [.mask, .bases, .recipes, .bands, .purgeHold, .wakeHolds, .windows, .settings] ⊆ bs) :
    KeepsAllBut bs r (resetSettingsOp  s).1 ↔ KeepsAllBut bs r s := by
  simp at h; unfold resetSettingsOp; split <;> simp [refuse, h]

@[simp] theorem keeps_setTime {t : LineTime} (h : .lineTime ∈ bs) :
    KeepsAllBut bs r ({ s with lineTime := t } : State) ↔ KeepsAllBut bs r s :=
  keeps_congr fun b hb => by cases b <;> simp_all [Block.Same]

@[simp] theorem keeps_tickAlways (h : [.lineTime, .receiver, .timing, .purgeHold, .wakeHolds, .outputs] ⊆ bs) :
    KeepsAllBut bs r s.tickAlways ↔ KeepsAllBut bs r s := by
  simp at h; refine keeps_congr fun b hb => ?_
  cases b <;> simp_all [Block.Same, State.tickAlways]

@[simp] theorem keeps_tickRunning (h : [.outputs, .moves, .records, .scanners, .grant, .merge, .check, .mass, .wrap, .label, .printLimit, .mode] ⊆ bs) :
    KeepsAllBut bs r s.tickRunning ↔ KeepsAllBut bs r s := by
  simp at h
  have hz : ∀ e : ZoneEntry, e.onward.state = e.state ∧ e.onward.goodRun = e.goodRun ∧ e.onward.latch = e.latch
      ∧ e.onward.last = e.last := fun e => by unfold ZoneEntry.onward; split <;> simp
  refine keeps_congr fun b hb => ?_
  cases b <;> simp_all [Block.Same, State.tickRunning]

end Sys2Proof.Machine
end

