-- ==== Sys2Proof/Laws/Settle.lean ====
section
/-! SUPPORT. What bringing the derived signals up to date leaves alone, field by field, and the fields of a part that answers. -/

namespace Sys2Proof.Machine

open State

variable (s : State)

theorem settle_keeps : KeepsAllBut derived s s.settle := (keeps_settle (by simp [derived])).mpr keeps_refl

@[simp] theorem settle_lineTime : s.settle.lineTime = s.lineTime := settle_keeps s .lineTime (by decide)
@[simp] theorem settle_link_counters : s.settle.link.counters = s.link.counters := settle_keeps s .counters (by decide)
@[simp] theorem settle_link_address : s.settle.link.address = s.link.address := settle_keeps s .address (by decide)
@[simp] theorem settle_link_straps : s.settle.link.straps = s.link.straps := settle_keeps s .straps (by decide)
@[simp] theorem settle_link_receiver : s.settle.link.receiver = s.link.receiver := settle_keeps s .receiver (by decide)
@[simp] theorem settle_link_answering : s.settle.link.answering = s.link.answering := settle_keeps s .answering (by decide)
@[simp] theorem settle_link_identity : s.settle.link.identity = s.link.identity := settle_keeps s .identity (by decide)
@[simp] theorem settle_link_mask : s.settle.link.mask = s.link.mask := settle_keeps s .mask (by decide)
@[simp] theorem settle_plan_articles : s.settle.plan.articles = s.plan.articles := settle_keeps s .articles (by decide)
@[simp] theorem settle_plan_bases : s.settle.plan.bases = s.plan.bases := settle_keeps s .bases (by decide)
@[simp] theorem settle_plan_recipes : s.settle.plan.recipes = s.plan.recipes := settle_keeps s .recipes (by decide)
@[simp] theorem settle_plan_bands : s.settle.plan.bands = s.plan.bands := settle_keeps s .bands (by decide)
@[simp] theorem settle_plan_loads : s.settle.plan.loads = s.plan.loads := settle_keeps s .loads (by decide)
@[simp] theorem settle_field_raw : s.settle.field.raw = s.field.raw := settle_keeps s .raw (by decide)
@[simp] theorem settle_field_filtered : s.settle.field.filtered = s.field.filtered := settle_keeps s .filtered (by decide)
@[simp] theorem settle_field_timing : s.settle.field.timing = s.field.timing := settle_keeps s .timing (by decide)
@[simp] theorem settle_field_estop : s.settle.field.estop = s.field.estop := settle_keeps s .estop (by decide)
@[simp] theorem settle_field_entryTaken : s.settle.field.entryTaken = s.field.entryTaken := settle_keeps s .entryTaken (by decide)
@[simp] theorem settle_field_diverterReject : s.settle.field.diverterReject = s.field.diverterReject := settle_keeps s .diverter (by decide)
@[simp] theorem settle_field_wakeHolds : s.settle.field.wakeHolds = s.field.wakeHolds := settle_keeps s .wakeHolds (by decide)
@[simp] theorem settle_field_places : s.settle.field.places = s.field.places := settle_keeps s .places (by decide)
@[simp] theorem settle_field_moves : s.settle.field.moves = s.field.moves := settle_keeps s .moves (by decide)
@[simp] theorem settle_track_records : s.settle.track.records = s.track.records := settle_keeps s .records (by decide)
@[simp] theorem settle_track_nextNumber : s.settle.track.nextNumber = s.track.nextNumber := settle_keeps s .nextNumber (by decide)
@[simp] theorem settle_track_enabled : s.settle.track.enabled = s.track.enabled := settle_keeps s .enabled (by decide)
@[simp] theorem settle_track_scanners : s.settle.track.scanners = s.track.scanners := settle_keeps s .scanners (by decide)
@[simp] theorem settle_check : s.settle.check = s.check := settle_keeps s .check (by decide)
@[simp] theorem settle_mass : s.settle.mass = s.mass := settle_keeps s .mass (by decide)
@[simp] theorem settle_wrap : s.settle.wrap = s.wrap := settle_keeps s .wrap (by decide)
@[simp] theorem settle_buffer_windows : s.settle.buffer.windows = s.buffer.windows := settle_keeps s .windows (by decide)
@[simp] theorem settle_mode : s.settle.mode = s.mode := settle_keeps s .mode (by decide)
@[simp] theorem settle_settings : s.settle.settings = s.settings := settle_keeps s .settings (by decide)
@[simp] theorem settle_sent : s.settle.sent = s.sent := settle_keeps s .sent (by decide)
@[simp] theorem settle_freeDraws : s.settle.freeDraws = s.freeDraws := settle_keeps s .freeDraws (by decide)
@[simp] theorem settle_pending : s.settle.pending = s.pending := settle_keeps s .pending (by decide)
@[simp] theorem settle_field_purgeHold : s.settle.field.purgeHold = s.field.purgeHold := (settle_keeps s .purgeHold (by decide)).1
@[simp] theorem settle_field_purgeSpent : s.settle.field.purgeSpent = s.field.purgeSpent := (settle_keeps s .purgeHold (by decide)).2
@[simp] theorem settle_merge_lastGranted : s.settle.merge.lastGranted = s.merge.lastGranted := (settle_keeps s .merge (by decide)).1
@[simp] theorem settle_merge_train : s.settle.merge.train = s.merge.train := (settle_keeps s .merge (by decide)).2.1
@[simp] theorem settle_merge_gate : s.settle.merge.gate = s.merge.gate := (settle_keeps s .merge (by decide)).2.2.1
@[simp] theorem settle_merge_switch : s.settle.merge.switch = s.merge.switch := (settle_keeps s .merge (by decide)).2.2.2.1
@[simp] theorem settle_merge_parkPending : s.settle.merge.parkPending = s.merge.parkPending := (settle_keeps s .merge (by decide)).2.2.2.2.1
@[simp] theorem settle_merge_fault : s.settle.merge.fault = s.merge.fault := (settle_keeps s .merge (by decide)).2.2.2.2.2
@[simp] theorem settle_label_pallet : s.settle.label.pallet = s.label.pallet := (settle_keeps s .label (by decide)).1
@[simp] theorem settle_label_condition : s.settle.label.condition = s.label.condition := (settle_keeps s .label (by decide)).2.1
@[simp] theorem settle_label_fault : s.settle.label.fault = s.label.fault := (settle_keeps s .label (by decide)).2.2.1
@[simp] theorem settle_label_jobs : s.settle.label.jobs = s.label.jobs := (settle_keeps s .label (by decide)).2.2.2.1
@[simp] theorem settle_label_nextJob : s.settle.label.nextJob = s.label.nextJob := (settle_keeps s .label (by decide)).2.2.2.2.1
@[simp] theorem settle_label_purge : s.settle.label.purge = s.label.purge := (settle_keeps s .label (by decide)).2.2.2.2.2.1
@[simp] theorem settle_label_ack : s.settle.label.ack = s.label.ack := (settle_keeps s .label (by decide)).2.2.2.2.2.2.1
@[simp] theorem settle_label_apply : s.settle.label.apply = s.label.apply := (settle_keeps s .label (by decide)).2.2.2.2.2.2.2.1
@[simp] theorem settle_label_faceA : s.settle.label.faceA = s.label.faceA := (settle_keeps s .label (by decide)).2.2.2.2.2.2.2.2.1
@[simp] theorem settle_label_faceB : s.settle.label.faceB = s.label.faceB := (settle_keeps s .label (by decide)).2.2.2.2.2.2.2.2.2
@[simp] theorem settle_buffer_reserved : s.settle.buffer.reserved = s.buffer.reserved := (settle_keeps s .buffer (by decide)).1
@[simp] theorem settle_buffer_exitPallet : s.settle.buffer.exitPallet = s.buffer.exitPallet := (settle_keeps s .buffer (by decide)).2.1
@[simp] theorem settle_buffer_task : s.settle.buffer.task = s.buffer.task := (settle_keeps s .buffer (by decide)).2.2.1
@[simp] theorem settle_buffer_fault : s.settle.buffer.fault = s.buffer.fault := (settle_keeps s .buffer (by decide)).2.2.2.1
@[simp] theorem settle_buffer_releases : s.settle.buffer.releases = s.buffer.releases := (settle_keeps s .buffer (by decide)).2.2.2.2.1
@[simp] theorem settle_buffer_forced : s.settle.buffer.forced = s.buffer.forced := (settle_keeps s .buffer (by decide)).2.2.2.2.2.1
@[simp] theorem settle_buffer_lastServed : s.settle.buffer.lastServed = s.buffer.lastServed := (settle_keeps s .buffer (by decide)).2.2.2.2.2.2

@[simp] theorem settle_record? (n : Nat) : s.settle.record? n = s.record? n := by unfold State.record?; simp
@[simp] theorem settle_load? (n : Nat) : s.settle.load? n = s.load? n := by unfold State.load?; simp
@[simp] theorem settle_move? (n : Nat) : s.settle.move? n = s.move? n := by unfold State.move?; simp
@[simp] theorem settle_place (p : Place) : s.settle.place p = s.place p := by unfold State.place; simp
@[simp] theorem settle_input (i : Input) : s.settle.input i = s.input i := by unfold State.input; simp
@[simp] theorem settle_setting (k : Setting) : s.settle.setting k = s.setting k := by unfold State.setting; simp
@[simp] theorem settle_wrapper (w : Side) : s.settle.wrapper w = s.wrapper w := by unfold State.wrapper; simp
@[simp] theorem settle_staging (w : Side) : s.settle.staging w = s.staging w := by unfold State.staging; simp
@[simp] theorem settle_scanner (sc : Scanner) : s.settle.scanner sc = s.scanner sc := by unfold State.scanner; simp
@[simp] theorem settle_slot? (r : LoadRef) : s.settle.slot? r = s.slot? r := by unfold State.slot?; simp
@[simp] theorem settle_article? (n : Nat) : s.settle.article? n = s.article? n := by unfold State.article?; simp
@[simp] theorem settle_boundLoad (l : Lane) : s.settle.boundLoad l = s.boundLoad l := by unfold State.boundLoad; simp
@[simp] theorem settle_stageOf (n : Nat) : s.settle.stageOf n = s.stageOf n := by unfold State.stageOf; simp
@[simp] theorem settle_refOf (n : Nat) : s.settle.refOf n = s.refOf n := by unfold State.refOf; simp

@[simp] theorem asked_lineTime : s.asked.lineTime = s.lineTime := rfl
@[simp] theorem asked_plan : s.asked.plan = s.plan := rfl
@[simp] theorem asked_field : s.asked.field = s.field := rfl
@[simp] theorem asked_track : s.asked.track = s.track := rfl
@[simp] theorem asked_merge : s.asked.merge = s.merge := rfl
@[simp] theorem asked_check : s.asked.check = s.check := rfl
@[simp] theorem asked_mass : s.asked.mass = s.mass := rfl
@[simp] theorem asked_wrap : s.asked.wrap = s.wrap := rfl
@[simp] theorem asked_label : s.asked.label = s.label := rfl
@[simp] theorem asked_buffer : s.asked.buffer = s.buffer := rfl
@[simp] theorem asked_lanes : s.asked.lanes = s.lanes := rfl
@[simp] theorem asked_mode : s.asked.mode = s.mode := rfl
@[simp] theorem asked_settings : s.asked.settings = s.settings := rfl
@[simp] theorem asked_reported : s.asked.reported = s.reported := rfl
@[simp] theorem asked_sent : s.asked.sent = s.sent := rfl
@[simp] theorem asked_freeDraws : s.asked.freeDraws = s.freeDraws := rfl
@[simp] theorem asked_pending : s.asked.pending = s.pending := rfl
@[simp] theorem asked_link_address : s.asked.link.address = s.link.address := rfl
@[simp] theorem asked_link_straps : s.asked.link.straps = s.link.straps := rfl
@[simp] theorem asked_link_receiver : s.asked.link.receiver = s.link.receiver := rfl
@[simp] theorem asked_link_identity : s.asked.link.identity = s.link.identity := rfl
@[simp] theorem asked_link_reports : s.asked.link.reports = s.link.reports := rfl
@[simp] theorem asked_link_overflow : s.asked.link.overflow = s.link.overflow := rfl
@[simp] theorem asked_link_attention : s.asked.link.attention = s.link.attention := rfl
@[simp] theorem asked_link_mask : s.asked.link.mask = s.link.mask := rfl
@[simp] theorem asked_link_counters : s.asked.link.counters = s.link.counters := rfl
@[simp] theorem asked_link_answering : s.asked.link.answering = true := rfl
@[simp] theorem asked_record? (n : Nat) : s.asked.record? n = s.record? n := rfl
@[simp] theorem asked_load? (n : Nat) : s.asked.load? n = s.load? n := rfl
@[simp] theorem asked_move? (n : Nat) : s.asked.move? n = s.move? n := rfl
@[simp] theorem asked_place (p : Place) : s.asked.place p = s.place p := rfl
@[simp] theorem asked_input (i : Input) : s.asked.input i = s.input i := rfl
@[simp] theorem asked_setting (k : Setting) : s.asked.setting k = s.setting k := rfl
@[simp] theorem asked_wrapper (w : Side) : s.asked.wrapper w = s.wrapper w := rfl
@[simp] theorem asked_staging (w : Side) : s.asked.staging w = s.staging w := rfl
@[simp] theorem asked_scanner (sc : Scanner) : s.asked.scanner sc = s.scanner sc := rfl
@[simp] theorem asked_slot? (r : LoadRef) : s.asked.slot? r = s.slot? r := rfl
@[simp] theorem asked_article? (n : Nat) : s.asked.article? n = s.article? n := rfl
@[simp] theorem asked_boundLoad (l : Lane) : s.asked.boundLoad l = s.boundLoad l := rfl
@[simp] theorem asked_stageOf (n : Nat) : s.asked.stageOf n = s.stageOf n := rfl
@[simp] theorem asked_refOf (n : Nat) : s.asked.refOf n = s.refOf n := rfl

end Sys2Proof.Machine
end

