-- ==== Sys2Proof/Tests/Slice0.lean ====
section
/-! SUPPORT. Tests: the spec's worked examples on small states, ill-formed commands, and for every statement with hypotheses a
concrete state that meets them. -/

set_option maxRecDepth 100000

namespace Sys2Proof.Tests

open Sys2Proof.Machine

/-! ### Small states -/

/-- A request at the station address, whole. -/
def me : Req := ⟨false, true⟩

/-- A broadcast request, whole. -/
def everyone : Req := ⟨true, true⟩

/-- Sixteen digits, not all zeros. -/
def tagA : Text := [49#8, 50#8, 51#8, 52#8, 53#8, 54#8, 55#8, 56#8, 57#8, 48#8, 49#8, 50#8, 51#8, 52#8, 53#8, 54#8]

/-- Other sixteen digits. -/
def tagB : Text := List.replicate 16 57#8

/-- Sixteen characters. -/
def name16 : Text := List.replicate 16 65#8

/-- Ten characters. -/
def date : Text := List.replicate 10 48#8

/-- A line in RUN with its identity and a zero taken. -/
def line : State :=
  { State.reset with
    link := { State.reset.link with identity := some name16 }
    mode := ⟨.run, none, none⟩
    mass := ⟨none, 0, .done, true, none, none⟩ }

/-- The state with a record more, standing at its location. -/
def withRecord (s : State) (r : Record) : State :=
  (s.modTrack fun t => { t with records := t.records ++ [r] }).modPlace r.location fun e =>
    { e with occupants := e.occupants ++ [r.number] }

/-- The state with a move more, its room held. -/
def withMove (s : State) (m : Move) : State :=
  ((s.modField fun u => { u with moves := u.moves ++ [m] }).modRecord m.track fun r => { r with movingTo := some m.dest }).modPlace
    m.dest fun e => { e with incoming := e.incoming ++ [m.track] }

/-- The state with a load more. -/
def withLoad (s : State) (l : Load) : State := s.modPlan fun p => { p with loads := p.loads ++ [l] }

/-- The state with the filtered level of an input set. -/
def withInput (s : State) (i : Input) (b : Bool) : State := s.modField fun u => { u with filtered := tset u.filtered i.idx b }

/-- The state with an input's raw level set and its filter run out. -/
def withFilter (s : State) (i : Input) (b : Bool) : State :=
  s.modField fun u => { u with raw := tset u.raw i.idx b, timing := tset u.timing i.idx (some 0) }

/-- The state in another mode. -/
def withMode (s : State) (m : LineMode) : State := s.modMode fun u => { u with mode := m }

/-- A slot of one article line, 10 units of 1,000 g on base 0. -/
def slotA (st : SlotState) : Slot :=
  ⟨tagA, 0, 3, [⟨7, 10⟩], [], 34000, 10000, st, if st == .expected then none else some 17, 0⟩

/-- Load 3318, of one slot, bound to lane 1. -/
def loadA (st : SlotState) : Load := ⟨3318, 1, 2000, date, .bound, some 0, [slotA st]⟩

/-- Record 17 of slot 3318 / 1. -/
def pallet (st : Stage) (p : Place) : Record :=
  { newRecord 17 .a 0 with
    tag := some tagA, ref := some ⟨3318, 1⟩, stage := st, location := p
    height := some 1840, overhang := some ⟨false, false, false, false⟩, mass := some 791320 }

/-- The line with load 3318 and record 17 of its slot. -/
def lineWith (slot : SlotState) (st : Stage) (p : Place) : State := withRecord (withLoad line (loadA slot)) (pallet st p)

/-- A move of record 17. -/
def moving (a b : Place) (z : Zone) (st : MoveState) : Move := ⟨17, a, b, z, st, if st == .inFlight then 5 else 0, 2000, false⟩

/-- A move of record 17 whose travel limit has run out. -/
def spent (a b : Place) (z : Zone) : Move := ⟨17, a, b, z, .inFlight, 0, 2000, false⟩

/-- The check of record 17 on the check station. -/
def checking (mass profile tag : Part) : Check := ⟨17, 0, ⟨0, 0⟩, ⟨0, 0⟩, mass, profile, tag, true⟩

/-- The line with record 17 in WEIGHING. -/
def weighing (mass profile tag : Part) : State :=
  (lineWith .claimed .checking .check).modCheck fun c => { c with condition := .weighing, current := some (checking mass profile tag) }

/-- A capture of four readings. -/
def capture (why : CaptureFor) (w : List Int) (on : Bool) : Capture := ⟨why, w, 4, 40, 20, on⟩

/-- The state with an open capture. -/
def withCapture (s : State) (c : Capture) : State := s.modMass fun m => { m with capture := some c }

/-- The recipe of the worked case of chapter 6. -/
def recipe3 : Recipe := ⟨3, 2, 50, 200, true, 7⟩

/-- The order of the worked case of chapter 6. -/
def order57 (sent : Bool) (ack wrap : Option Nat) : Order := ⟨some 57, recipe3, 1840, sent, ack, wrap⟩

/-- The line with record 17 on wrapper 1. -/
def wrapping (st : WrapperStatus) (held : Option Nat) (o : Order) : State :=
  (lineWith .claimed .wrapping (.wrapper .one)).modWrapper .one fun u =>
    { u with status := st, pallet := some 17, order := some o, held }

/-- The line with record 17 on the label unit. -/
def labelling (c : LabelCondition) (jobs : List Job) : State :=
  (lineWith .claimed .labelling .label).modLabel fun u => { u with pallet := some ⟨17, false⟩, condition := c, jobs }

/-! ### The spec's worked values -/

/-- The nine digits give the check 0x29B1 (R190, R206). -/
theorem test_check_of_nine_digits : checkOf ((List.range 9).map fun i => BitVec.ofNat 8 (49 + i)) = 0x29B1#16 := by decide

/-- The film estimate and film mass of the worked case of chapter 6: 174 dm and 141 g. -/
theorem test_film_of_worked_case : filmEstimate recipe3 1840 (1200, 800) = 174 ∧ filmMass 181 780 = 141 := by decide

/-- The masses of R133 as text: 400 g, 49 g and the largest shipped gross. -/
theorem test_mass_text : massText 400 = [48#8, 46#8, 52#8] ∧ massText 49 = [48#8, 46#8, 48#8]
    ∧ massText 2329675 = [50#8, 51#8, 50#8, 57#8, 46#8, 55#8] := by decide

/-- The film of the worked case is neither short nor long, and its shipped gross is 791,641 g (section 6.9). -/
theorem test_done_of_worked_case :
    (match exec (.done .one 57 14 181) (wrapping .running (some 57) (order57 true none (some 6000))) with
      | .next t => (t.record? 17).map fun r => (r.filmLength, r.filmMass, r.shippedGross)
      | _ => none) = some (some 181, some 141, some 791641) := by decide

/-! ### Witnesses: chapters 1 to 3

Each theorem below shows concrete states and operands that meet the hypotheses of the statement it is named for, clause by
clause, at the ends of the ranges where the hypotheses give one. -/

/-- Article 7. -/
def bolts : Article := ⟨7, 1000, [65#8]⟩

/-- The line with articles 7 and 9. -/
def stocked : State := line.modPlan fun p => { p with articles := [bolts, ⟨9, 80000, []⟩] }

/-- A table of 256 articles, codes 1 to 256. -/
def full256 : State := line.modPlan fun p => { p with articles := (List.range 256).map fun k => ⟨k + 1, 1000, []⟩ }

/-- The largest and the smallest article record, a new code and a held one, in a table in order; a held and a free code; a code and
a mass out of range; a table of 256 records without the code; a slot that names a code not held, and a command that leaves it so. -/
theorem witness_ArticlesArePutAndDropped :
    (Addressed me stocked ∧ 1 ≤ 65535 ∧ 80000 ≤ 80000 ∧ (List.replicate 24 126#8 : Text).length ≤ 24
      ∧ (∀ c ∈ (List.replicate 24 126#8 : Text), 32 ≤ c.toNat ∧ c.toNat ≤ 126) ∧ stocked.plan.articles.length < 256
      ∧ stocked.plan.articles.Pairwise (fun a b => a.code < b.code))
    ∧ (stocked.article? 7).isSome = true ∧ stocked.article? 1 = none ∧ ¬ 1 ≤ 0 ∧ ¬ 80001 ≤ 80000
    ∧ (Addressed me full256 ∧ full256.article? 257 = none ∧ 256 ≤ full256.plan.articles.length)
    ∧ (let s := withLoad stocked { loadA .expected with planned := 2 }
       s.article? 8 = none ∧ s.load? 3318 = some { loadA .expected with planned := 2 } ∧ SlotInRange 2 tagB 3 15 [⟨8, 999⟩] []
        ∧ (loadA .expected).slots.length < 2 ∧ s.tagIndex tagB = none ∧ ∃ x ∈ [(⟨8, 999⟩ : ArticleLine)], x.article = 8)
    ∧ (∃ t, exec .replySent stocked = .next t ∧ stocked.article? 8 = none) := by
  unfold SlotInRange TagDigits
  exact ⟨by decide, by decide, by decide, by decide, by decide, by decide, by decide, _, rfl, by decide⟩

/-- Load ids 1 and 65,535, planned counts 1 and 36; no load; lanes 0 and 7; a STORED load with a free lane; a bound one, and
with a release to its lane; one with no slot claimed, and with one; load id 0; an id in use; a free id in a store of 12 loads. -/
theorem witness_LoadsAreCreatedBoundAndClosed :
    (Addressed me line ∧ 36 ≤ 36 ∧ date.length = 10 ∧ (∀ c ∈ date, 32 ≤ c.toNat ∧ c.toNat ≤ 126) ∧ line.load? 65535 = none
      ∧ line.plan.loads.length < 12)
    ∧ ((withLoad line { loadA .expected with status := .stored, lane := none }).load? 3318
        = some { loadA .expected with status := .stored, lane := none } ∧ laneOf 6 = some 5 ∧ 6 < 7
      ∧ (withLoad line { loadA .expected with status := .stored, lane := none }).boundLoad 5 = none)
    ∧ ((withLoad line (loadA .expected)).load? 3318 = some (loadA .expected) ∧ (loadA .expected).lane = some 0
      ∧ (loadA .expected).status ≠ .stored
      ∧ (∀ r ∈ (withLoad line (loadA .expected)).buffer.releases, r.lane ≠ 0)
      ∧ (withLoad line (loadA .expected)).buffer.task = none
      ∧ ∀ sl ∈ (loadA .expected).slots, sl.state ≠ .claimed ∧ sl.state ≠ .finished)
    ∧ (∃ r ∈ ((withLoad line (loadA .expected)).modBuffer fun b => { b with releases := [⟨17, 0⟩] }).buffer.releases, r.lane = 0)
    ∧ (∃ sl ∈ (loadA .claimed).slots, sl.state = .claimed)
    ∧ ¬ 1 ≤ 0 ∧ ((withLoad line (loadA .expected)).load? 3318).isSome = true
    ∧ (let s := line.modPlan fun p => { p with loads := (List.range 12).map fun k => { loadA .expected with id := k + 1, lane := none, slots := [] } }
       Addressed me s ∧ s.load? 13 = none ∧ 12 ≤ s.plan.loads.length) := by decide

/-- The line with articles 7 and 9 and load 3318 of one slot EXPECTED out of three planned. -/
def planning : State := withLoad stocked { loadA .expected with planned := 3 }

/-- Two DEFERRED records that carry the tag of the slot to come, the first short of the head and the second at it. -/
def offered : State :=
  let r (n : Nat) (head : Bool) : Record :=
    { newRecord n .a 0 with tag := some tagB, stage := .deferred, deferral := some ⟨90, 40⟩, headMark := head }
  withRecord (withRecord planning (r 17 false)) (r 18 true)

/-- A second slot with 10 units of article 7; the first slot EXPECTED to be skipped, and one that is CLAIMED; for each check of
R20 a slot that fails it and passes those before it; the one slot of a load of one, which its skip completes; a position beyond it;
two DEFERRED records with the tag of the slot offered. -/
theorem witness_SlotsAreAddedAndSkipped :
    (Addressed me planning ∧ planning.load? 3318 = some { loadA .expected with planned := 3 }
      ∧ slotFieldsInRange 2 tagB 3 15 [⟨7, 10⟩] [] = true ∧ 2 = (loadA .expected).slots.length + 1 ∧ planning.tagIndex tagB = none
      ∧ (∀ x ∈ [(⟨7, 10⟩ : ArticleLine)], (planning.article? x.article).isSome = true)
      ∧ planning.tare 3 + planning.linesMass [⟨7, 10⟩] ≤ 2000000)
    ∧ (loadA .expected).slotAt 1 = some (slotA .expected) ∧ (slotA .expected).state = .expected
    ∧ ((withLoad line (loadA .claimed)).load? 3318 = some (loadA .claimed) ∧ (loadA .claimed).slotAt 1 = some (slotA .claimed)
      ∧ (slotA .claimed).state ≠ .expected)
    ∧ planning.load? 1 = none ∧ (loadA .expected).slots.length < 2
    ∧ (∃ l', ({ loadA .expected with slots := [{ slotA .expected with state := .skipped }] } : Load) = l' ∧ l'.slots.length = l'.planned)
    ∧ (¬ SlotInRange 2 tagB 3 15 (List.replicate 9 ⟨7, 10⟩) [] ∧ SlotInRange 2 tagB 3 15 [⟨7, 10⟩, ⟨8, 999⟩] [])
    ∧ (loadA .expected).planned ≤ (loadA .expected).slots.length ∧ 3 ≠ (loadA .expected).slots.length + 1
    ∧ (planning.tagIndex tagA).isSome = true
    ∧ ((planning.article? 7).isSome = true ∧ planning.article? 8 = none)
    ∧ 2000000 < planning.tare 3 + planning.linesMass [⟨9, 999⟩]
    ∧ (RecordsInv offered ∧ QueueOpen offered ∧ (offered.deferredWith tagB).map (·.number) = [17, 18]
      ∧ ∀ r ∈ offered.deferredWith tagB, EntryReadOver offered r) := by
  unfold SlotInRange TagDigits
  refine ⟨by decide, by decide, by decide, by decide, by decide, by decide, ⟨_, rfl, by decide⟩, ⟨by decide, by decide⟩, by decide,
    by decide, by decide, by decide, by decide, ⟨by unfold RecordsInv; decide, by unfold QueueOpen; decide, by decide, fun r _ => ?_⟩⟩
  have e : offered.scanner (.entry r.infeed) = ⟨none, [], none⟩ := by cases r.infeed <;> decide
  exact ⟨fun rd left h => by simp [e] at h, fun rd h => by simp [e] at h⟩

/-- An input at its raw level, going back to its filtered level, going away from it, and with a filter time of 0; a filter
that has run out, a door's among them, and one that has not; OP2 the last input of the combination to become active, and KEY
becoming clear. -/
theorem witness_InputsAreFiltered :
    line.rawLevel .op1 = false
    ∧ ((withFilter line .op1 true).rawLevel .op1 ≠ false ∧ (withFilter line .op1 true).input .op1 = false)
    ∧ (line.rawLevel .key ≠ true ∧ line.input .key ≠ true ∧ line.setting .inputFilter = 4 + 1)
    ∧ ({ line with settings := tset line.settings Setting.inputFilter.idx 0 } : State).setting .inputFilter = 0
    ∧ tget (withFilter line (.laneDoor 5) true).field.timing (Input.laneDoor 5).idx = some 0
    ∧ tget line.field.timing (Input.laneDoor 5).idx ≠ some 0
    ∧ (let s := withFilter (withInput (withInput line .op1 true) .key true) .op2 true
       tget s.field.timing Input.op2.idx = some 0 ∧ s.field.purgeHold = none ∧ s.field.purgeSpent = false
        ∧ ∃ t, exec (.inputFilterExpiry .op2) s = .next t ∧ PurgeCombined t)
    ∧ (let s := withFilter ((withInput line .key true).modField fun u => { u with purgeHold := some 9 }) .key false
       tget s.field.timing Input.key.idx = some 0 ∧ s.field.purgeHold.isSome = true ∧ s.setting .purgeCombination ≤ 2
        ∧ ∃ t, exec (.inputFilterExpiry .key) s = .next t ∧ ¬ PurgeCombined t) := by
  unfold PurgeCombined
  exact ⟨by decide, by decide, by decide, by decide, by decide, by decide, ⟨by decide, by decide, by decide, _, rfl, by decide⟩,
    by decide, by decide, by decide, _, rfl, by decide⟩

/-- An empty line in RUN with the entry sensor of infeed C becoming covered, the counter at 255; the same in DRAIN, and in RUN
with the infeed disabled; in STOPPED; the sensor becoming clear. A number held at the counter, the next free one beyond 255; scanner A idle, with a read
outstanding, and with an ended read. -/
theorem witness_AnArrivalCreatesOneRecord :
    (let s := withFilter (line.modTrack fun t => { t with nextNumber := 255 }) (.entry .c) true
     tget s.field.timing (Input.entry .c).idx = some 0 ∧ s.rawLevel (.entry .c) = true ∧ s.mode.mode = .run
      ∧ tget s.track.enabled Infeed.c.idx = true ∧ (s.place (.infeed .c)).unknown = false
      ∧ (s.place (.infeed .c)).occupants.length < 3 ∧ s.track.records.length < 32 ∧ 1 ≤ s.track.nextNumber
      ∧ s.track.nextNumber ≤ 255)
    ∧ RefusedFor (withFilter (withMode line .drain) (.entry .c) true) .c .drain 2
    ∧ RefusedFor (withFilter (line.modTrack fun t => { t with enabled := tset t.enabled 2 false }) (.entry .c) true) .c .run 1
    ∧ ((withMode line .stopped).mode.mode ≠ .run ∧ (withFilter line (.entry .c) false).rawLevel (.entry .c) = false)
    ∧ NextFree ((withRecord line (newRecord 255 .a 0)).modTrack fun t => { t with nextNumber := 255 }) 1
    ∧ line.scanner (.entry .a) = ⟨none, [], none⟩
    ∧ (line.modScanner (.entry .a) fun e => { e with outstanding := some (⟨17, .entry⟩, 1) }).scanner (.entry .a)
        = ⟨some (⟨17, .entry⟩, 1), [], none⟩
    ∧ ((line.modScanner (.entry .a) fun e => { e with ended := some 0 }).scanner (.entry .a)).ended.isSome = true := by
  unfold RefusedFor
  exact ⟨by decide, by decide, by decide, by decide, ⟨by decide, 1, by decide, by decide, by decide⟩, by decide, by decide, by decide⟩

/-- A lamp that flashes fast and one that flashes slow, each with half a centisecond of its half period left; one with 2
centiseconds; a steady one. -/
theorem witness_TheSmallEventsChangeOneThing :
    let lit (l : LampState) : State := line.modField fun u => { u with lamps := tset u.lamps Lamp.fault.idx l }
    tget (lit ⟨.flashFast, true, 1⟩).field.lamps Lamp.fault.idx = ⟨.flashFast, true, 1⟩
      ∧ tget (lit ⟨.flashSlow, false, 0⟩).field.lamps Lamp.fault.idx = ⟨.flashSlow, false, 0⟩
      ∧ tget (lit ⟨.flashSlow, false, 4⟩).field.lamps Lamp.fault.idx = ⟨.flashSlow, false, 4⟩ ∧ 1 < 4
      ∧ tget (lit ⟨.steady, true, 0⟩).field.lamps Lamp.fault.idx = ⟨.steady, true, 0⟩ := by decide

/-- The centre zone driven by a move in flight, its window run out with 1,150 edges: the upper end of the band. -/
theorem witness_SpeedWindowsDriveTheZoneState :
    let s := ((withMove (lineWith .claimed .checking .check) (moving .check (.staging .one) .centre .inFlight)).modZone .centre
      fun e => { e with drive := true, windowLeft := 0, edges := 1150 })
    (s.zone .centre).drive = true ∧ (s.zone .centre).windowLeft = 0 ∧ s.mode.mode ≠ .halted
      ∧ 100 * (((s.zone .centre).edges : Int) - s.setting (.zonePulses .centre)).natAbs
          = s.setting .speedBand * s.setting (.zonePulses .centre) := by decide

/-- The conditions of R40, with the completing sensor as the one that its destination names. -/
theorem mayStart_of {s : State} {m : Move}
    (h : m.state = .waiting ∧ s.mode.mode = .run ∧ (s.zone m.zone).state ≠ .stalled ∧ (s.place m.source).unknown = false
      ∧ (s.place m.dest).unknown = false ∧ (m.dest.completedBy.map s.input) = some false
      ∧ (∀ k ∈ s.field.moves, k.dest = m.dest → k.state = .waiting) ∧ s.carrierFree m = true ∧ s.carWaitsFor m = false) :
    MayStart s m := by
  obtain ⟨waiting, mode, zone, source, dest, sensor, alone, carrier⟩ := h
  exact ⟨waiting, .inl mode, zone, source, dest, fun i e => by simpa [e] using sensor, alone, carrier⟩

/-- A move waiting from staging position 2 to wrapper 2, one from wrapper 1 to LABEL and one from infeed A to CHECK, each free to
start; one whose destination is UNKNOWN; a number without a move. -/
theorem witness_AWaitingMoveStartsUnderItsTravelLimit :
    let free (s : State) (m : Move) : Prop := s.move? 17 = some m ∧ (s.record? 17).isSome = true ∧ MayStart s m
    free (withMove (lineWith .claimed .staged (.staging .two)) (moving (.staging .two) (.wrapper .two) .centre .waiting))
        (moving (.staging .two) (.wrapper .two) .centre .waiting)
      ∧ free (withMove (lineWith .claimed .wrapped (.wrapper .one)) (moving (.wrapper .one) .label .centre .waiting))
        (moving (.wrapper .one) .label .centre .waiting)
      ∧ free (withMove (lineWith .claimed .ready (.infeed .a)) (moving (.infeed .a) .check (.infeed .a) .waiting))
        (moving (.infeed .a) .check (.infeed .a) .waiting)
      ∧ ¬ MayStart (line.modPlace (.wrapper .two) fun e => { e with unknown := true })
          (moving (.staging .two) (.wrapper .two) .centre .waiting)
      ∧ line.move? 17 = none :=
  ⟨⟨by decide, by decide, mayStart_of (by decide)⟩, ⟨by decide, by decide, mayStart_of (by decide)⟩,
    ⟨by decide, by decide, mayStart_of (by decide)⟩, fun ⟨_, _, _, _, dest, _⟩ => absurd dest (by decide), by decide⟩

/-- A move in flight whose limit has run out, the place it leaves covered and not, and one with 5 cs left; CHECK reporting WORKING;
LABEL left by its own pallet, the label-exit one. -/
theorem witness_AnExpiredTravelLimitLosesTheMove :
    let run (m : Move) : Prop := (withMove (lineWith .claimed .checking .check) m).move? 17 = some m
      ∧ ((withMove (lineWith .claimed .checking .check) m).record? 17).isSome = true ∧ m.state = .inFlight
    run (spent .check (.staging .one) .centre) ∧ (spent .check (.staging .one) .centre).left = 0
      ∧ run (moving .check (.staging .one) .centre .inFlight) ∧ 0 < (moving .check (.staging .one) .centre .inFlight).left
      ∧ line.mode.mode ≠ .halted ∧ line.covered .check = false ∧ (withInput line .checkExit true).covered .check = true
      ∧ (∀ k ∈ ((lineWith .claimed .checking .check).place .check).occupants, k = 17)
      ∧ ((lineWith .claimed .checking .check).place .check).incoming = [] ∧ tget line.reported Station.check.idx ≠ .faulted
      ∧ (labelling .labelled []).label.pallet.map (·.track) = some 17 := by decide

/-- The state with a move of record 17 whose completing sensor becomes covered. -/
def arriving (s : State) (m : Move) (i : Input) : State := withFilter (withMove s m) i true

/-- A sensor completes a move of record 17 into a place. -/
def Completes (p : Place) (i : Input) (s : State) (m : Move) : Prop :=
  p.completedBy = some i ∧ (∀ l, p ≠ .lane l) ∧ p ≠ .check ∧ p ≠ .shuttle ∧ Senses s i true ∧ BoundFor s p m
    ∧ moveZone m.source p = some m.zone ∧ (s.record? m.track).isSome = true

/-- Record 17 on its way to wrapper 1, its order in hand. -/
def toWrapper (st : WrapperStatus) : State :=
  (lineWith .claimed .wrapping (.staging .one)).modWrapper .one fun u =>
    { u with status := st, pallet := some 17, order := some (order57 false none none) }

/-- Record 17 on its way to LABEL. -/
def toLabel : State :=
  (lineWith .claimed .labelling (.wrapper .one)).modLabel fun u => { u with pallet := some ⟨17, false⟩, condition := .incoming }

/-- A pallet arriving in the check reject spur; in staging position 1, its move LOST; on a wrapper that is IDLE and on one that
is not; on LABEL without and with a fault; in position 4. -/
theorem witness_AMoveCompletesAtItsDestination :
    (let m := moving .check (.spur .check) .centre .inFlight
     Completes (.spur .check) (.spurEntry .check) (arriving (lineWith .expected .toReject .check) m (.spurEntry .check)) m
      ∧ m.state ≠ .lost)
    ∧ (let m := moving .check (.staging .one) .centre .lost
       Completes (.staging .one) (.staging .one) (arriving (lineWith .claimed .lost .check) m (.staging .one)) m ∧ m.state = .lost)
    ∧ (let m := moving (.staging .one) (.wrapper .one) .centre .inFlight
       Completes (.wrapper .one) (.wrapper .one) (arriving (toWrapper .idle) m (.wrapper .one)) m
        ∧ ((toWrapper .idle).wrapper .one).order = some (order57 false none none)
        ∧ ((toWrapper .faulted).wrapper .one).status ≠ .idle)
    ∧ (let m := moving (.wrapper .one) .label .centre .inFlight
       Completes .label .labelArrival (arriving toLabel m .labelArrival) m ∧ toLabel.label.fault = none
        ∧ toLabel.label.pallet = some ⟨17, false⟩
        ∧ (toLabel.modLabel fun u => { u with fault := some .printTimeout }).label.fault.isSome = true)
    ∧ (let m := moving .shuttle (.position 3) .buffer .inFlight
       Completes (.position 3) (.position 3) (arriving (lineWith .finished .toBuffer .shuttle) m (.position 3)) m) := by
  unfold Completes Senses BoundFor
  refine ⟨?_, ?_, ?_, ?_, ?_⟩ <;> decide

/-- Staging position 1 becomes covered while FREE, and position 4 clear while OCCUPIED and while clearing; the check arrival
sensor covered in a zero capture; a spur end cleared under record 17, and of an empty spur; a lane end cleared. -/
theorem witness_SensorsActOutsideMoves :
    (let s := withFilter line (.staging .one) true
     (Place.staging .one).capacity = 1 ∧ (Place.staging .one).completedBy = some (.staging .one) ∧ Senses s (.staging .one) true
      ∧ s.field.moves = [] ∧ s.placeState (.staging .one) = .free)
    ∧ (let s := withFilter (lineWith .finished .held (.position 3)) (.position 3) false
       (Place.position 3).capacity = 1 ∧ (Place.position 3).completedBy = some (.position 3) ∧ Senses s (.position 3) false
        ∧ (s.place (.position 3)).unknown = false ∧ (s.place (.position 3)).clearing = false
        ∧ (s.place (.position 3)).occupants ≠ [] ∧ s.field.moves = []
        ∧ ((s.modPlace (.position 3) fun e => { e with clearing := true }).place (.position 3)).clearing = true)
    ∧ (let s := withFilter (line.modMass fun m => { m with capture := some (capture .zero [] true), status := .running }) .checkArrival true
       Place.check.capacity = 1 ∧ Senses s .checkArrival true ∧ s.placeState .check = .free
        ∧ s.mass.capture = some (capture .zero [] true) ∧ (capture .zero [] true).purpose = .zero)
    ∧ (let s := withFilter (lineWith .expected .toReject (.spur .check)) (.spurEnd .check) false
       Senses s (.spurEnd .check) false ∧ (s.place (.spur .check)).unknown = false ∧ (s.place (.spur .check)).occupants = [17]
        ∧ s.record? 17 = some (pallet .toReject (.spur .check)) ∧ s.move? 17 = none)
    ∧ (Senses (withFilter line (.spurEnd .check) false) (.spurEnd .check) false ∧ (line.place (.spur .check)).occupants = [])
    ∧ (tget (withFilter line (.laneEnd 0) false).field.timing (Input.laneEnd 0).idx = some 0
      ∧ (withFilter line (.laneEnd 0) false).rawLevel (.laneEnd 0) = false) := by
  unfold Senses
  decide

/-- The state with a place UNKNOWN. -/
def lostPlace (s : State) (p : Place) : State := s.modPlace p fun e => { e with unknown := true }

/-- Infeed A requests the check station for record 17, the gate elsewhere and no park pending. -/
def asking : State :=
  (lineWith .claimed .ready (.infeed .a)).modMerge fun m => { m with requests := tset m.requests 0 (some ⟨0, 30⟩), parkPending := false }

/-- Place 34 FREE; UNKNOWN; UNKNOWN and covered; place 4 UNKNOWN with a record on it, and
with a grant whose record waits for it; place 35; a NORMAL, a DEGRADED and a STALLED zone. -/
theorem witness_PlacesAreClearedAndZonesRead :
    (Addressed me line ∧ placeOf 34 = some (.lane 5) ∧ placeOf 1 = some (.infeed .a)
      ∧ (line.place (.lane 5)).unknown = false
      ∧ (((lostPlace line (.lane 5)).place (.lane 5)).unknown = true ∧ (lostPlace line (.lane 5)).covered (.lane 5) = false
        ∧ (lostPlace line (.lane 5)).named (.lane 5) = false)
      ∧ ((withInput (lostPlace line (.lane 5)) (.laneEnd 5) true).covered (.lane 5) = true)
      ∧ ((lostPlace (lineWith .claimed .checking .check) .check).covered .check = false
        ∧ (lostPlace (lineWith .claimed .checking .check) .check).named .check = true))
    ∧ (let s := lostPlace (asking.modMerge fun m => { m with grant := some ⟨.a, 17⟩, gate := some .a }) .check
       placeOf 4 = some .check ∧ 34 < 35 ∧ (s.place .check).unknown = true ∧ s.covered .check = false ∧ s.named .check = false
        ∧ s.merge.grant = some ⟨.a, 17⟩ ∧ s.merge.gate = some .a ∧ s.merge.switch = none ∧ s.merge.fault = false
        ∧ s.record? 17 = some (pallet .ready (.infeed .a)) ∧ s.move? 17 = none ∧ line.merge.grant = none)
    ∧ (let s := (line.modZone .buffer fun e => { e with state := .degraded, latch := true }).modZone .lanes fun e =>
        { e with state := .stalled, latch := true }
       Addressed me s ∧ (s.zone .centre).state = .normal ∧ (s.zone .buffer).state = .degraded
        ∧ (s.zone .lanes).state = .stalled) := by decide

/-- A state with one record, a queued command that adds a record, and its step. -/
theorem witness_NoTwoRecordsShareATrackNumber :
    let s := { withFilter (lineWith .claimed .held (.position 3)) (.entry .a) true with pending := [.inputFilterExpiry (.entry .a)] }
    RecordsInv s ∧ ∃ t, step s = .next t ∧ t.track.records.length = 2 := by
  refine ⟨by unfold RecordsInv; decide, _, rfl, by decide⟩

/-- The state with an entry read of record 17 outstanding at the scanner of infeed A. -/
def reading (s : State) (left : Nat) : State := s.modScanner (.entry .a) fun _ => ⟨some (⟨17, .entry⟩, left), [], none⟩

/-- Record 17 entering, before its tag is known. -/
def entering (slot : SlotState) : State :=
  reading (withRecord (withLoad line (loadA slot)) (newRecord 17 .a 0)) 5

/-- A planned tag with its slot EXPECTED, with its slot CLAIMED, and a tag in no plan with DEFER_LIMIT above 0 and at 0; a record
short of the head and one at it. -/
theorem witness_AnEntryTagIsMatched :
    (((entering .expected).scanner (.entry .a)).outstanding = some (⟨17, .entry⟩, 5)
      ∧ (entering .expected).record? 17 = some (newRecord 17 .a 0)
      ∧ StageAfterRead (entering .expected) .a (newRecord 17 .a 0) = .entering
      ∧ StageAfterRead (entering .expected) .a { newRecord 17 .a 0 with headMark := true } = .ready
      ∧ tagA.length = 16 ∧ (∀ c ∈ tagA, 48 ≤ c.toNat ∧ c.toNat ≤ 57) ∧ (∃ c ∈ tagA, c ≠ 48#8)
      ∧ tagB.length = 16 ∧ (∀ c ∈ tagB, 48 ≤ c.toNat ∧ c.toNat ≤ 57) ∧ (∃ c ∈ tagB, c ≠ 48#8))
    ∧ ((entering .expected).tagIndex tagA = some ⟨3318, 1⟩ ∧ (entering .expected).slot? ⟨3318, 1⟩ = some (slotA .expected)
      ∧ (slotA .expected).state = .expected)
    ∧ ((entering .claimed).tagIndex tagA = some ⟨3318, 1⟩ ∧ (entering .claimed).slot? ⟨3318, 1⟩ = some (slotA .claimed)
      ∧ (slotA .claimed).state ≠ .expected)
    ∧ ((entering .expected).tagIndex tagB = none ∧ 0 < (entering .expected).setting .deferLimit)
    ∧ ({ entering .expected with settings := tset line.settings Setting.deferLimit.idx 0 } : State).setting .deferLimit = 0 := by
  decide

/-- Record 17 DEFERRED with a deadline, its tag known. -/
def deferred (left : Nat) : Record :=
  { newRecord 17 .a 0 with tag := some tagB, stage := .deferred, deferral := some ⟨3000, left⟩ }

/-- A read outstanding with its limit run out, and one with time left; fifteen digits, sixteen zeros, and a letter in place of a tag; a deferral run out, and one not; no read outstanding, with
and without an ended one. -/
theorem witness_AnUnreadPalletStaysUnmatched :
    (((reading (entering .expected) 0).scanner (.entry .a)).outstanding = some (⟨17, .entry⟩, 0)
      ∧ (entering .expected).record? 17 = some (newRecord 17 .a 0) ∧ (newRecord 17 .a 0).infeed = .a
      ∧ (entering .expected).mode.mode ≠ .halted)
    ∧ (¬ TagDigits (tagA.take 15) ∧ ¬ TagDigits (List.replicate 16 48#8) ∧ ¬ TagDigits name16)
    ∧ ((withRecord line (deferred 0)).record? 17 = some (deferred 0) ∧ (deferred 0).stage = .deferred
      ∧ (deferred 0).deferral = some ⟨3000, 0⟩ ∧ (withRecord line (deferred 0)).entryResolved (deferred 0) = true)
    ∧ ((withRecord line (deferred 1)).record? 17 = some (deferred 1)
      ∧ (withRecord line (deferred 1)).entryResolved (deferred 1) = true)
    ∧ ((line.scanner .verify).outstanding = none ∧ (line.scanner .verify).ended = none)
    ∧ (let s := line.modScanner .verify fun _ => ⟨none, [⟨17, .verify .a⟩], some 0⟩
       (s.scanner .verify).outstanding = none ∧ (s.scanner .verify).ended = some 0 ∧ s.mode.mode ≠ .halted) := by
  unfold TagDigits
  decide

/-- The entry sensor of infeed A covered, its mark clear. -/
def waiting : State := withInput line (.entry .a) true

/-- Infeeds 0 and 4 and state 2; infeed 3 disabled by 0 and left as it is by 1; infeed A covered with its mark clear in STOPPED, in HALTED with RUN saved, in
DRAIN with its limit run out and at the end of a wake hold; infeed A disabled; an arrival taken there and one refused. -/
theorem witness_InfeedsAreSetAndWatched :
    (Addressed me line ∧ 3 < 4 ∧ 1 < 2 ∧ infeedOf 3 = some .c ∧ infeedOf 1 = some .a ∧ tget line.track.enabled Infeed.c.idx = (1 == 1)
      ∧ line.input (.entry .c) = false)
    ∧ (waiting.track.records.length ≤ 29 ∧ 1 ≤ waiting.track.nextNumber ∧ waiting.track.nextNumber ≤ 255
      ∧ waiting.input (.entry .a) = true ∧ tget waiting.field.entryTaken Infeed.a.idx = false)
    ∧ (Addressed me (withMode waiting .stopped) ∧ (withMode waiting .stopped).mode.mode = .stopped
      ∧ waiting.link.identity.isSome = true)
    ∧ (let s := waiting.modMode fun m => { m with mode := .halted, saved := some .run }
       Addressed me s ∧ s.mode.mode = .halted ∧ s.field.estop = false ∧ s.mode.saved = some .run)
    ∧ ((waiting.modMode fun m => { m with mode := .drain, drain := some 0 }).mode = ⟨.drain, none, some 0⟩)
    ∧ (let s := (withMode waiting .stopped).modField fun u => { u with wakeHolds := tset u.wakeHolds 0 (some 0) }
       tget s.field.wakeHolds Infeed.a.idx = some 0 ∧ s.mode.mode = .stopped)
    ∧ tget (waiting.modTrack fun t => { t with enabled := tset t.enabled 0 false }).track.enabled Infeed.a.idx = false
    ∧ (∀ case, ¬ RefusedFor waiting .a .run case) ∧ RefusedFor (lostPlace waiting (.infeed .a)) .a .run 3 := by
  refine ⟨by decide, by decide, by decide, by decide, by decide, by decide, by decide, ?_, by unfold RefusedFor; decide⟩
  rintro case (⟨h, -⟩ | ⟨-, h, -⟩ | ⟨-, -, h, -⟩ | ⟨-, -, -, h, -⟩ | ⟨-, -, -, -, h, -⟩) <;> exact absurd h (by decide)

/-- Record 22 in the finish spur, and record 17 on LABEL with a LOST move there; the spur's end covered or not. -/
def lostToSpur (cover : Bool) : State :=
  withMove (withRecord (withInput (lineWith .expected .lost .label) (.spurEnd .finish) cover)
    { newRecord 22 .a 0 with stage := .toReject, location := .spur .finish }) (moving .label (.spur .finish) .centre .lost)

/-- A HELD record, its position covered and not (the worked case of section 3.8), one with its move in flight, one WRAPPING; one with
a LOST move to a spur that holds a pallet, covered and not; no record 1. -/
theorem witness_PalletRemoveDeletesTheRecordAndFreesItsSlot :
    (Addressed me (lineWith .finished .held (.position 15)) ∧ (lineWith .finished .held (.position 15)).inMotion 17 = false
      ∧ (lineWith .finished .held (.position 15)).record? 17 = some (pallet .held (.position 15))
      ∧ (pallet .held (.position 15)).stage ≠ .releasing ∧ (pallet .held (.position 15)).stage ≠ .wrapping
      ∧ (lineWith .finished .held (.position 15)).slot? ⟨3318, 1⟩ = some (slotA .finished))
    ∧ (let s := lineWith .finished .held (.position 3)
       17 ∈ (s.place (.position 3)).occupants ∧ (∀ k ∈ (s.place (.position 3)).occupants, k = 17)
        ∧ (s.place (.position 3)).incoming = [] ∧ s.move? 17 = none ∧ s.covered (.position 3) = false
        ∧ (withInput s (.position 3) true).covered (.position 3) = true ∧ s.record? 1 = none)
    ∧ (17 ∈ ((lineWith .claimed .checking .check).place .check).occupants ∧ (lineWith .claimed .checking .check).inMotion 17 = false)
    ∧ (withMove (lineWith .claimed .checking .check) (moving .check (.staging .one) .centre .inFlight)).inMotion 17 = true
    ∧ (lineWith .claimed .wrapping (.wrapper .one)).inMotion 17 = false
    ∧ (∀ b, (lostToSpur b).move? 17 = some (moving .label (.spur .finish) .centre .lost) ∧ (lostToSpur b).inMotion 17 = false
      ∧ (lostToSpur b).covered (.spur .finish) = b ∧ (lostToSpur b).occupancy (.spur .finish) = 1) := by decide

/-- The removal of a held pallet with its position covered, as section 3.8 works it out. -/
theorem test_removal_of_a_held_pallet_of_a_covered_position :
    (match exec (.palletRemove me 17) (withInput (lineWith .finished .held (.position 3)) (.position 3) true) with
      | .next t => some (t.placeState (.position 3),
          (t.link.reports.filter fun x => x.kind == .placeUnknown || x.kind == .removed).map fun x => (x.kind, x.detail, x.value))
      | _ => none) = some (.unknown, [(.placeUnknown, 14, some 2), (.removed, 14, some 2)]) := by decide

/-- The destination of a deleted move that holds another pallet becomes UNKNOWN, with a report, when it is covered, and stays OCCUPIED
when it is not (R44). -/
theorem test_covered_destination_of_a_deleted_move :
    (match exec (.palletRemove me 17) (lostToSpur true), exec (.palletRemove me 17) (lostToSpur false) with
      | .next t, .next u => some ((t.placeState (.spur .finish), (t.link.reports.filter (·.kind == .placeUnknown)).map (fun r => (r.detail, r.value))),
          u.placeState (.spur .finish), u.link.reports.filter (·.kind == .placeUnknown))
      | _, _ => none) = some ((.unknown, [(28, some 2)]), .occupied, []) := by decide

/-- A BLOCKED check's pallet is removed: CHECK reports WORKING, and no STATION_CHANGE is queued (R91). -/
theorem test_blocked_check_is_removed_silently :
    (match exec (.palletRemove me 17) { (lineWith .claimed .checking .check).modCheck fun c => { c with condition := .blocked } with
        reported := #v[.blocked, .working, .working, .working, .working, .working] } with
      | .next t => some (t.link.reports.filter (·.kind == .stationChange), tget t.reported Station.check.idx)
      | _ => none) = some ([], .working) := by decide

/-! ### Witnesses: chapters 4 and 5 -/

/-- One request, of an infeed whose oldest record stands on it without a move, its gate input clear and active; park pending. -/
theorem witness_TheMergeChoiceGrantsTheFirstCase :
    MayChoose asking ∧ ¬ MayChoose (asking.modMerge fun m => { m with parkPending := true })
    ∧ (∀ i, Asks asking i → ∃ r, asking.oldest i = some r ∧ r.location = .infeed i ∧ asking.move? r.number = none)
    ∧ asking.merge.gate ≠ some .a ∧ asking.input (.gateAt .a) = false
      ∧ (withInput asking (.gateAt .a) true).input (.gateAt .a) = true := by
  refine ⟨⟨by decide, ⟨.a, by unfold Asks; decide⟩, by decide, by decide, by decide, by decide, by decide, by decide, by decide, by decide⟩,
    fun ⟨_, _, _, _, _, _, park, _⟩ => absurd park (by decide), ?_, by decide⟩
  intro i
  cases i <;> unfold Asks <;> intro h
  · exact ⟨_, rfl, by decide⟩
  · exact absurd h (by decide)
  · exact absurd h (by decide)

/-- Record 17 granted on infeed A, the gate under way there. -/
def granted (left : Nat) : State :=
  asking.modMerge fun m => { m with grant := some ⟨.a, 17⟩, switch := some ⟨.a, .grant, left⟩ }

/-- Park pending with PARK_INFEED at A and the gate elsewhere; PARK_INFEED NONE; a switch with its limit run out, and one not;
the target's input active under a grant, another's, and one outside a switch. -/
theorem witness_TheGateParksFaultsAndFollows :
    (line.mode.mode = .run ∧ line.merge.switch = none ∧ line.merge.fault = false ∧ line.parkInfeed = some .a
      ∧ line.merge.parkPending = true ∧ line.input (.gateAt .a) = false)
    ∧ ({ line with settings := tset line.settings Setting.parkInfeed.idx 0 } : State).setting .parkInfeed = 0
    ∧ (withMode line .stopped).working = false
    ∧ ((line.modMerge fun m => { m with switch := some ⟨.b, .park, 0⟩ }).merge.switch = some ⟨.b, .park, 0⟩
      ∧ line.mode.mode ≠ .halted)
    ∧ (line.modMerge fun m => { m with switch := some ⟨.b, .grant, 1⟩ }).merge.switch = some ⟨.b, .grant, 1⟩
    ∧ (let s := withFilter (granted 9) (.gateAt .a) true
       Senses s (.gateAt .a) true ∧ s.merge.switch = some ⟨.a, .grant, 9⟩ ∧ s.merge.grant = some ⟨.a, 17⟩
        ∧ s.record? 17 = some (pallet .ready (.infeed .a)) ∧ s.move? 17 = none ∧ s.hasRoom .check = true)
    ∧ Senses (withFilter (granted 9) (.gateAt .c) true) (.gateAt .c) true
    ∧ Senses (withFilter line (.gateAt .a) false) (.gateAt .a) false := by
  unfold Senses
  decide

/-- Record 17 ENTERING at the head of infeed A, and CHECKING there; on its way to CHECK with CHECK working and FAULTED, its plan
mark absent and UNPLANNED. -/
theorem witness_PalletsReachTheHeadAndTheCheck :
    (let s := withFilter (lineWith .expected .entering (.infeed .a)) (.head .a) true
     Senses s (.head .a) true ∧ (s.place (.infeed .a)).occupants = [] ++ 17 :: []
      ∧ s.record? 17 = some (pallet .entering (.infeed .a)) ∧ (pallet .entering (.infeed .a)).stage ≠ .checking)
    ∧ (let s := withFilter (lineWith .claimed .checking (.infeed .a)) (.head .a) true
       Senses s (.head .a) true ∧ ∀ k ∈ (s.place (.infeed .a)).occupants, s.stageOf k = some .checking)
    ∧ (let m := moving (.infeed .a) .check (.infeed .a) .inFlight
       let s := arriving (lineWith .claimed .checking (.infeed .a)) m .checkArrival
       Senses s .checkArrival true ∧ BoundFor s .check m ∧ m.source = .infeed .a
        ∧ s.record? m.track = some { pallet .checking (.infeed .a) with movingTo := some .check } ∧ s.check.fault = false
        ∧ (s.modCheck fun c => { c with fault := true }).check.fault = true
        ∧ (pallet .checking (.infeed .a)).mark = none
        ∧ ((s.modRecord 17 fun r => { r with mark := some .unplanned }).record? 17).map (·.mark) = some (some .unplanned)) := by
  unfold Senses BoundFor
  decide

/-- A measure outstanding with the mass pending, and with every other part present; a height of 2,600 mm; no check; the deadline
run out with the tag, the mass and the profile pending in turn; a deadline with 1 cs left. -/
theorem witness_ThePartsOfACheckResolve :
    ((weighing .pending .pending .present).check.current = some (checking .pending .pending .present)
      ∧ (checking .pending .pending .present).measure = true
      ∧ ((weighing .pending .pending .present).record? 17).isSome = true ∧ 2600 ≤ 2600)
    ∧ ((weighing .present .pending .present).check.current = some (checking .present .pending .present)
      ∧ (checking .present .pending .present).mass ≠ .pending ∧ (checking .present .pending .present).tag ≠ .pending)
    ∧ line.check.current = none ∧ 2600 < 2601
    ∧ ((weighing .pending .pending .pending).check.current = some (checking .pending .pending .pending)
      ∧ (weighing .pending .pending .pending).record? 17 = some (pallet .checking .check)
      ∧ (pallet .checking .check).mark = none ∧ line.mode.mode ≠ .halted
      ∧ (checking .pending .pending .pending).settleLimit.left = 0 ∧ (checking .pending .pending .pending).tag = .pending)
    ∧ ((checking .pending .pending .present).tag = .present ∧ (checking .pending .pending .present).mass = .pending)
    ∧ ((checking .pending .pending .pending).mass = .pending ∧ (checking .present .pending .present).mass = .present ∧ (checking .present .pending .present).profile = .pending)
    ∧ ((checking .pending .present (.failed .noTag)).tag = .failed .noTag
      ∧ (checking .pending .present (.failed .duplicate)).tag ≠ .failed .noTag
      ∧ ({ pallet .checking .check with mark := some .duplicate }).mark = some .duplicate
      ∧ (checking (.failed .overload) .pending .present).mass = .failed .overload)
    ∧ 0 < ({ checking .pending .pending .pending with settleLimit := ⟨1, 1⟩ } : Check).settleLimit.left := by decide

/-- The check station BLOCKED under record 17. -/
def blocked (st : Stage) : State := (lineWith .expected st .check).modCheck fun c => { c with condition := .blocked }

/-- The check station BLOCKED under record 17, and reported so. -/
def reportedBlocked : State :=
  { blocked .toReject with reported := #v[.blocked, .working, .working, .working, .working, .working] }

/-- The state with a place clearing, so that it has no room. -/
def noRoom (s : State) (p : Place) : State := s.modPlace p fun e => { e with clearing := true }

/-- BLOCKED with room in the spur, in staging 1, in staging 2 alone, and with none; BLOCKED as it was reported. -/
theorem witness_ABlockedCheckTakesTheFirstRoom :
    (((blocked .toReject).place .check).occupants = [17] ∧ (blocked .toReject).record? 17 = some (pallet .toReject .check)
      ∧ (pallet .toReject .check).location = .check ∧ (blocked .toReject).move? 17 = none
      ∧ (blocked .toReject).check.condition = .blocked ∧ (blocked .toReject).hasRoom (.spur .check) = true)
    ∧ ((pallet .checking .check).stage ≠ .toReject ∧ (blocked .checking).hasRoom (.staging .one) = true)
    ∧ ((noRoom (blocked .checking) (.staging .one)).hasRoom (.staging .two) = true
      ∧ (noRoom (blocked .checking) (.staging .one)).hasRoom (.staging .one) = false)
    ∧ (noRoom (noRoom (blocked .checking) (.staging .one)) (.staging .two)).hasRoom (.staging .two) = false
    ∧ (noRoom (blocked .toReject) (.spur .check)).hasRoom (.spur .check) = false
    ∧ (lineWith .expected .toReject .check).check.condition ≠ .blocked
    ∧ (QueueOpen reportedBlocked ∧ tget reportedBlocked.reported Station.check.idx ≠ .working) := by
  unfold QueueOpen
  decide

/-- CHECK FAULTED with record 17 ARRIVED. -/
def arrivedAtCheck (mark : Option PlanMark) : State :=
  ((lineWith .claimed .checking .check).modRecord 17 fun r => { r with mark }).modCheck fun c =>
    { c with condition := .arrived, fault := true }

/-- SHUTTLE FAULTED with a delivery of record 17. -/
def shuttleDown : State :=
  (lineWith .finished .toBuffer .shuttle).modBuffer fun b => { b with fault := true, task := some ⟨17, .store 3, .delivery⟩ }

/-- Station 6 of a working line and the number 7; CHECK FAULTED with a pallet ARRIVED, unmarked and marked, and without one;
SHUTTLE FAULTED without a task, with its delivery LOST and with it unasked; MERGE_GATE FAULTED without a grant and with one; a FAULTED CHECK that was reported so. -/
theorem witness_StationsAreResumed :
    tget ({ arrivedAtCheck none with reported := #v[.faulted, .working, .working, .working, .working, .working] }).reported
      Station.check.idx = .faulted ∧
    (Addressed me line ∧ stationOf 6 = some .mergeGate ∧ line.stationState .mergeGate ≠ .faulted
      ∧ line.stationState .mergeGate ≠ .stalled ∧ 6 < 7)
    ∧ ((line.modCheck fun c => { c with fault := true }).check.fault = true ∧ line.check.condition ≠ .arrived)
    ∧ (let s := arrivedAtCheck none
       Addressed me s ∧ s.check.fault = true ∧ s.check.condition = .arrived ∧ (s.place .check).occupants = [17]
        ∧ s.record? 17 = some (pallet .checking .check) ∧ (pallet .checking .check).mark = none ∧ s.move? 17 = none)
    ∧ (((arrivedAtCheck (some .duplicate)).record? 17).map (·.mark) = some (some .duplicate)
      ∧ ((arrivedAtCheck (some .duplicate)).place .check).occupants = [17])
    ∧ ((line.modBuffer fun b => { b with fault := true }).buffer.fault = true ∧ line.buffer.task = none)
    ∧ (let m := moving .shuttle (.position 3) .buffer .lost
       Addressed me (withMove shuttleDown m) ∧ (withMove shuttleDown m).buffer.task = some ⟨17, .store 3, .delivery⟩
        ∧ (withMove shuttleDown m).move? 17 = some m ∧ m.state = .lost)
    ∧ (shuttleDown.buffer.fault = true ∧ shuttleDown.move? 17 = none)
    ∧ ((line.modMerge fun m => { m with fault := true }).merge.fault = true ∧ line.merge.grant = none)
    ∧ (let s := (granted 0).modMerge fun m => { m with fault := true, switch := none }
       Addressed me s ∧ s.merge.fault = true ∧ s.merge.grant = some ⟨.a, 17⟩ ∧ s.merge.switch = none
        ∧ s.record? 17 = some (pallet .ready (.infeed .a)) ∧ s.move? 17 = none ∧ s.merge.gate ≠ some .a ∧ s.mode.mode = .run
        ∧ s.hasRoom .check = true ∧ s.input (.gateAt .a) = false) := by decide

/-- The mass part pending, the window one reading short of K and 20 g wide, the slot of 34,000 g. -/
def stable : State := withCapture (weighing .pending .present .present) (capture (.check 17) [34000, 34000, 34020] true)

/-- The fourth reading fills the window and leaves its readings no more than W apart; a fifth does so by sliding a window that
was not stable; a check whose other parts have failed; a record without a load reference. -/
theorem witness_AStableWindowGivesTheVerdictOnMass :
    (stable.check.current = some (checking .pending .present .present)
      ∧ stable.mass.capture = some (capture (.check 17) [34000, 34000, 34020] true) ∧ stable.mode.mode ≠ .halted
      ∧ stable.record? 17 = some (pallet .checking .check) ∧ (pallet .checking .check).ref = some ⟨3318, 1⟩
      ∧ stable.slot? ⟨3318, 1⟩ = some (slotA .claimed) ∧ [34000, 34000, 34020].length ≤ 4 ∧ 0 < 20
      ∧ [34000, 34000, 34020] ++ [(33980 : Int)] = [] ++ [34000, 34000, 34020, 33980]
      ∧ (∀ x ∈ [34000, 34000, 34020, (33980 : Int)], ∀ y ∈ [34000, 34000, 34020, (33980 : Int)], x - y ≤ 40))
    ∧ ((withCapture stable (capture (.check 17) [33000, 34000, 34000, 34020] true)).mass.capture
        = some (capture (.check 17) [33000, 34000, 34000, 34020] true) ∧ [33000, 34000, 34000, 34020].length ≤ 4
      ∧ [33000, 34000, 34000, 34020] ++ [(33980 : Int)] = [33000] ++ [34000, 34000, 34020, 33980])
    ∧ (let k := checking .pending (.failed .profileMissing) (.failed .noTag)
       k.profile ≠ .pending ∧ k.tag ≠ .pending
        ∧ (weighing .pending (.failed .profileMissing) (.failed .noTag)).check.current = some k)
    ∧ BandUsed stable.plan.bands (slotA .claimed).net ⟨100000, 400, 0⟩
    ∧ (let r := { pallet .checking .check with tag := none, ref := none }
       (withRecord (withLoad line (loadA .expected)) r).record? 17 = some r ∧ r.ref = none)
    ∧ WindowMass stable (capture (.check 17) [34000, 34000, 34020] true) 33980 34000 :=
  ⟨by decide, by decide, by decide, ⟨[], [⟨400000, 600, 2⟩, ⟨1000000, 800, 3⟩, ⟨2000001, 1500, 3⟩], by decide⟩, by decide,
    1700, [], [34000, 34000, 34020, 33980], by decide⟩

/-- A zero capture of four readings. -/
def zeroing (w : List Int) (on : Bool) (left : Nat) : State :=
  line.modMass fun m => { m with
    capture := some (capture .zero w on), status := .running, settleEnd := some ⟨50, left⟩, limit := some ⟨600, left⟩ }

/-- A check whose delay has run out, and a halt; a zero capture whose settle end has come, and one with 1 cs left; no capture;
a window short of K; K readings more than W apart; the overload marker, and a stable window, with the tag part pending. -/
theorem witness_ReadingsAreCollected :
    (let s := withCapture (weighing .pending .pending .pending) (capture (.check 17) [] false)
     s.mass.capture = some (capture (.check 17) [] false) ∧ s.check.current = some (checking .pending .pending .pending)
      ∧ (checking .pending .pending .pending).settleEnd.left = 0 ∧ s.mode.mode ≠ .halted ∧ (withMode s .halted).mode.mode = .halted)
    ∧ ((zeroing [] false 0).mass.settleEnd = some ⟨50, 0⟩ ∧ (zeroing [] false 1).mass.settleEnd = some ⟨50, 1⟩)
    ∧ line.mass.capture = none
    ∧ ((zeroing [0] true 0).mass.capture = some (capture .zero [0] true) ∧ [(0 : Int)].length + 1 < 4)
    ∧ ((40 : Nat) : Int) < (41 : Int) - 0 ∧ (0 : Int) ∈ [(7 : Int), 0, 0, 0].drop 1 ++ [41]
    ∧ (41 : Int) ∈ [(7 : Int), 0, 0, 0].drop 1 ++ [41] ∧ ((-40001 : Int) < -40000)
    ∧ (checking .pending .present .pending).tag = .pending
    ∧ (let s := withCapture (weighing .pending .present .pending) (capture (.check 17) [34000, 34000, 34020] true)
       s.check.current = some (checking .pending .present .pending) ∧ s.record? 17 = some (pallet .checking .check)
        ∧ WindowMass s (capture (.check 17) [34000, 34000, 34020] true) 33980 34000) :=
  ⟨by decide, by decide, by decide, by decide, by decide, by decide, by decide, by decide, by decide, by decide, by decide,
    1700, [], [34000, 34000, 34020, 33980], by decide⟩

/-- HALTED; zero status RUNNING; an empty check station with no grant; a full and a sliding window with a mean of 40,000 g and
one above; the overload marker; the limit run out, while collecting and before. -/
theorem witness_AZeroCaptureStartsAndEndsOnce :
    (Addressed me line ∧ (withMode line .halted).mode.mode = .halted ∧ (zeroing [] false 1).mass.status = .running
      ∧ (line.mode.mode ≠ .halted ∧ line.mass.status ≠ .running ∧ line.placeState .check = .free ∧ line.movesTo .check = false
        ∧ line.merge.grant = none))
    ∧ (let s := zeroing [40000, 40000, 40000] true 0
       s.mass.capture = some (capture .zero [40000, 40000, 40000] true) ∧ s.mode.mode ≠ .halted
        ∧ [40000, 40000, 40000] ++ [(40020 : Int)] = [] ++ [40000, 40000, 40000, 40020]
        ∧ [-5, 40000, 40000, 40000] ++ [(40020 : Int)] = [-5] ++ [40000, 40000, 40000, 40020]
        ∧ (∀ x ∈ [40000, 40000, 40000, (40020 : Int)], ∀ y ∈ [40000, 40000, 40000, (40020 : Int)], x - y ≤ 40)
        ∧ (2000 : Int) * 80 ≤ ([40000, 40000, 40000, 40020] : List Int).sum + 80 / 2
        ∧ ([40000, 40000, 40000, 40020] : List Int).sum + 80 / 2 < (2000 + 1) * (80 : Int) ∧ (2000 : Int) * 20 ≤ 40000
        ∧ (2001 : Int) * 80 ≤ ([40000, 40000, 40000, 40040] : List Int).sum + 80 / 2 ∧ (40000 : Int) < 2001 * 20
        ∧ s.mass.limit = some ⟨600, 0⟩)
    ∧ ((zeroing [] false 0).mass.capture = some (capture .zero [] false) ∧ (zeroing [] false 0).mass.limit = some ⟨600, 0⟩) := by decide

/-! ### Witnesses: chapters 6 and 7 -/

/-- Record 17 staged at position 2 with both wrappers free. -/
def staged2 : State := (lineWith .claimed .staged (.staging .two)).modWrap fun u => { u with staging := tset u.staging 1 (some ⟨17, 0⟩) }

/-- The pallet staged at position 2, whose recipe has a top sheet, is chosen for wrapper 1; nothing is chosen on an empty line. -/
theorem wrapper_chosen :
    (staged2.mode.mode = .run ∧ staged2.staging .two = some ⟨17, 0⟩
      ∧ staged2.record? 17 = some (pallet .staged (.staging .two)) ∧ (pallet .staged (.staging .two)).location = .staging .two
      ∧ WrapChosen staged2 .two .one recipe3)
    ∧ (∀ k w rc, ¬ WrapChosen line k w rc) ∧ (withMode line .drain).mode.mode ≠ .run ∧ (withMode line .stopped).mode.mode ≠ .drain := by
  refine ⟨⟨by decide, by decide, by decide, by decide, ⟨by decide, ⟨17, 0⟩, by decide⟩, by decide, .inl ⟨?_, ⟨⟨17, 0⟩, by decide, ?_⟩, rfl⟩⟩,
    ?_, by decide⟩
  · intro v; cases v <;> decide
  · intro j d hj hd
    cases j
    · exact absurd hd (by simp only [show staged2.staging .one = none by decide]; exact fun h => nomatch h)
    · exact absurd rfl hj
  · rintro k w rc ⟨⟨-, e, he, -⟩, -⟩
    cases k <;> exact nomatch he

/-- Record 17 staged in position 2, whose place has become UNKNOWN. -/
def unknownStaging : State := staged2.modPlace (.staging .two) fun e => { e with unknown := true }

/-- The pallet of an UNKNOWN staging place is not chosen (R36). -/
theorem unknown_not_chosen : unknownStaging.staging .two = some ⟨17, 0⟩ ∧ ∀ k w rc, ¬ WrapChosen unknownStaging k w rc := by
  refine ⟨by decide, ?_⟩
  rintro k w rc ⟨⟨known, e, he, -⟩, -⟩
  cases k
  · exact nomatch he
  · exact absurd known (by decide)

/-- A pallet to choose, none, and one in an UNKNOWN place; an unsent order, a sent one held under number 57, and a stopped line. -/
theorem witness_WrappersAreChosenAndOrdered :
    (WrapChosen staged2 .two .one recipe3 ∧ staged2.staging .two = some ⟨17, 0⟩ ∧ (∀ k w rc, ¬ WrapChosen line k w rc)
      ∧ unknownStaging.staging .two = some ⟨17, 0⟩ ∧ (∀ k w rc, ¬ WrapChosen unknownStaging k w rc))
    ∧ (((wrapping .ordered none (order57 false none none)).wrapper .one).order = some (order57 false none none)
      ∧ ((wrapping .ordered none (order57 false none none)).wrapper .one).status = .ordered ∧ (order57 false none none).sent = false
      ∧ line.mode.mode = .run)
    ∧ (((wrapping .ordered (some 57) (order57 true (some 5) none)).wrapper .one).held = some 57 ∧ 1 ≤ 57 ∧ 57 ≤ 255
      ∧ (order57 true (some 5) none).sent = true)
    ∧ (withMode line .stopped).working = false ∧ ((wrapping .running (some 57) (order57 true none (some 6000))).wrapper .one).status ≠ .ordered := by
  refine ⟨⟨wrapper_chosen.1.2.2.2.2, by decide, wrapper_chosen.2.1, unknown_not_chosen⟩, by decide⟩

/-- Wrapper 1 running order 57 on record 17, of a base of 1,200 by 800 mm; the estimate is 174 dm, so that 130 dm is short, 131
dm is not, and 262 dm is long. -/
theorem witness_AWrapEndsWithDone :
    (let s := wrapping .running (some 57) (order57 true none (some 6000))
     (s.wrapper .one).order = some (order57 true none (some 6000)) ∧ (s.wrapper .one).pallet = some 17
      ∧ (s.wrapper .one).held = some 57 ∧ 57 ≤ 255 ∧ 999 ≤ 999 ∧ (s.wrapper .one).status = .running
      ∧ s.record? 17 = some (pallet .wrapping (.wrapper .one)) ∧ (pallet .wrapping (.wrapper .one)).ref = some ⟨3318, 1⟩
      ∧ s.slot? ⟨3318, 1⟩ = some (slotA .claimed) ∧ (0 : Fin 4).val = (slotA .claimed).base
      ∧ tget s.plan.bases 0 = ⟨24000, 1200, 800⟩ ∧ recipe3.overlap ≤ 70)
    ∧ FilmEstimate recipe3 1840 1200 800 174
    ∧ 4 * 130 < 3 * 174 ∧ ¬ (4 * 131 < 3 * 174) ∧ 3 * 174 < 2 * 262 ∧ ¬ (3 * 174 < 2 * 261) :=
  ⟨by decide, ⟨250, 8, by decide, by decide, fun k hk => by omega, by decide, fun k hk => by simp only [recipe3] at hk; omega⟩, by decide⟩

/-- Order 57 sent and its acknowledge limit run out; the wrap running; an order number not held; a number out of range. -/
theorem witness_AWrapperFaultOrAStrayAnswer :
    (let s := wrapping .ordered (some 57) (order57 true (some 0) none)
     (s.wrapper .one).order = some (order57 true (some 0) none) ∧ (s.wrapper .one).pallet = some 17
      ∧ s.record? 17 = some (pallet .wrapping (.wrapper .one)) ∧ (s.wrapper .one).held = some 57
      ∧ (s.wrapper .one).status = .ordered ∧ (order57 true (some 0) none).sent = true
      ∧ (order57 true (some 0) none).ack = some 0 ∧ s.mode.mode ≠ .halted)
    ∧ ((wrapping .running (some 57) (order57 true none (some 1))).wrapper .one).status = .running
    ∧ (order57 true (some 1) none).ack = some (0 + 1)
    ∧ (line.wrapper .two).held ≠ some 255 ∧ 255 < 256 ∧ 999 < 1000 ∧ 65535 < 65536 := by decide

/-- Wrapper 1 running with its wrap limit run out, with 1 cs left, and STALLED with order 57 held. -/
theorem witness_TheWrapLimitStallsTheWrapper :
    (let s := wrapping .running (some 57) (order57 true none (some 0))
     (s.wrapper .one).order = some (order57 true none (some 0)) ∧ (s.wrapper .one).pallet = some 17
      ∧ s.record? 17 = some (pallet .wrapping (.wrapper .one)) ∧ (s.wrapper .one).status = .running
      ∧ (order57 true none (some 0)).wrap = some 0 ∧ s.mode.mode ≠ .halted ∧ s.slot? ⟨3318, 1⟩ = some (slotA .claimed))
    ∧ (order57 true none (some 1)).wrap = some (0 + 1)
    ∧ (let s := wrapping .stalled (some 57) (order57 true none none)
       (s.wrapper .one).status = .stalled ∧ (s.wrapper .one).held = some 57 ∧ 1 ≤ 57 ∧ 57 ≤ 255) := by decide

/-- Wrapper 1 FAULTED with record 17, for a cause; `attempts` orders failed. -/
def wrapperDown (c : WrapperCause) (st : Stage) (attempts : Nat) : State :=
  ((lineWith .claimed st (.wrapper .one)).modRecord 17 fun r => { r with wrapAttempts := attempts }).modWrapper .one fun u =>
    { u with status := .faulted, pallet := some 17, order := some (order57 true none none), cause := some c }

/-- The label unit FAULTED with record 17, for a cause. -/
def labelDown (cause : LabelCause) (c : LabelCondition) (attempts : Nat) : State :=
  ((labelling c []).modLabel fun u => { u with fault := some cause }).modRecord 17 fun r => { r with labelAttempts := attempts }

/-- A wrapper STALLED; FAULTED without a record; for FILM_BREAK while WRAPPING with an attempt left and with none, and WRAPPED;
for a lost move with the pallet on it. The label unit FAULTED with PRINT_TIMEOUT in PRINT_WAIT and ARRIVED, and with APPLY_TIMEOUT
with an attempt left and with none. -/
theorem witness_WrappersAndTheLabelUnitAreResumed :
    (Addressed me (wrapping .stalled (some 57) (order57 true none none))
      ∧ ((wrapping .stalled (some 57) (order57 true none none)).wrapper .one).status = .stalled ∧ Side.one.number + 1 = 2)
    ∧ (let s := line.modWrapper .one fun u => { u with status := .faulted }
       (s.wrapper .one).status = .faulted ∧ (s.wrapper .one).pallet.bind s.record? = none)
    ∧ (let s := wrapperDown (.code .filmBreak) .wrapping 1
       Addressed me s ∧ (s.wrapper .one).status = .faulted ∧ (s.wrapper .one).pallet = some 17
        ∧ s.record? 17 = some { pallet .wrapping (.wrapper .one) with wrapAttempts := 1 }
        ∧ (s.wrapper .one).order = some (order57 true none none) ∧ (s.wrapper .one).cause = some (.code .filmBreak)
        ∧ 1 < s.setting .wrapAttempts ∧ s.setting .wrapAttempts ≤ 2)
    ∧ ((wrapperDown (.code .filmShort) .wrapped 1).stageOf 17 ≠ some .wrapping)
    ∧ (((wrapperDown .move .wrapping 0).wrapper .one).cause = some .move
      ∧ 17 ∈ ((wrapperDown .move .wrapping 0).place (.wrapper .one)).occupants
      ∧ 17 ∉ ((wrapperDown .move .wrapping 0).place (.wrapper .two)).occupants)
    ∧ (Addressed me (labelDown .printTimeout .printWait 0) ∧ (labelDown .printTimeout .printWait 0).label.fault = some .printTimeout
      ∧ (labelDown .printTimeout .printWait 0).label.condition ≠ .arrived)
    ∧ (let s := labelDown .printTimeout .arrived 0
       s.label.pallet = some ⟨17, false⟩ ∧ s.label.condition = .arrived ∧ (s.record? 17).isSome = true ∧ s.move? 17 = none)
    ∧ (let s := labelDown .applyTimeout .applying 2
       s.label.fault = some .applyTimeout ∧ s.label.pallet = some ⟨17, false⟩ ∧ s.label.condition ≠ .arrived
        ∧ (s.record? 17).map (·.labelAttempts) = some 2 ∧ s.setting .labelRetries < 2 ∧ 1 ≤ s.setting .labelRetries
        ∧ s.move? 17 = none) := by decide

/-- Record 17 wrapped, first in the label order. -/
def ordered (w : WrapperStatus) : State :=
  (lineWith .claimed .wrapped (.wrapper .one)).modWrap fun u => { u with
    wrappers := tset u.wrappers 0 { tget u.wrappers 0 with status := w, pallet := some 17 }
    labelOrder := [⟨17, .one, false⟩] }

/-- The head's wrapper DONE_OCCUPIED with the label unit free, and FAULTED; an empty list; the label unit BLOCKED with room in
the spur and with none. -/
theorem witness_PalletsMoveInAndOutOfTheLabelUnit :
    (let s := ordered .doneOccupied
     s.wrap.labelOrder = [⟨17, .one, false⟩] ∧ s.record? 17 = some (pallet .wrapped (.wrapper .one))
      ∧ s.move? 17 = none ∧ (s.wrapper .one).status = .doneOccupied ∧ s.hasRoom .label = true ∧ s.label.condition = .empty
      ∧ s.label.fault = none ∧ s.input .labelExit = false)
    ∧ ((ordered .faulted).wrapper .one).status ≠ .doneOccupied ∧ line.wrap.labelOrder = []
    ∧ (let s := labelling .blocked []
       s.label.pallet = some ⟨17, false⟩ ∧ s.record? 17 = some (pallet .labelling .label) ∧ s.move? 17 = none
        ∧ s.label.condition = .blocked ∧ s.hasRoom (.spur .finish) = true
        ∧ (noRoom s (.spur .finish)).hasRoom (.spur .finish) = false) := by decide

/-- Record 17 arrived on the label unit without a job; an empty line; the printer full at depth 4. -/
theorem job_due :
    (let s := labelling .arrived []
     s.mode.mode = .run ∧ s.label.fault = none ∧ s.label.purge = .none ∧ (∀ j ∈ s.label.jobs, j.state ≠ .sent)
      ∧ s.label.jobs.length < s.setting .printerDepth ∧ s.record? 17 = some (pallet .labelling .label)
      ∧ s.load? 3318 = some (loadA .claimed) ∧ s.slot? ⟨3318, 1⟩ = some (slotA .claimed) ∧ (slotA .claimed).net ≤ 2000000)
    ∧ JobDue (labelling .arrived []) 17
    ∧ (∀ n, ¬ JobDue line n)
    ∧ (labelling .arrived (List.replicate 4 ⟨1, 9, .taken⟩)).setting .printerDepth
        ≤ (labelling .arrived (List.replicate 4 ⟨1, 9, .taken⟩)).label.jobs.length := by
  refine ⟨by decide, .inl (by decide), ?_, by decide⟩
  rintro n (⟨h, -⟩ | ⟨-, before, e, after, h, -⟩)
  · exact nomatch h
  · cases before <;> exact nomatch h

/-- Job 255 SENT, TAKEN and PRINTED; a number not in the list; a purge RUNNING; a purge PENDING with the unit not FAULTED. -/
theorem witness_ThePrinterAnswersAndIsPurged :
    ((labelling .printWait [⟨255, 17, .sent⟩]).label.jobs.find? (fun k => k.number == 255) = some ⟨255, 17, .sent⟩
      ∧ (labelling .printWait [⟨255, 17, .taken⟩]).label.jobs.find? (fun k => k.number == 255) = some ⟨255, 17, .taken⟩
      ∧ (labelling .printWait [⟨255, 17, .printed⟩]).label.jobs.find? (fun k => k.number == 255) = some ⟨255, 17, .printed⟩)
    ∧ (∀ j ∈ (labelling .printWait [⟨255, 17, .sent⟩]).label.jobs, j.number ≠ 1)
    ∧ (line.modLabel fun u => { u with purge := .running }).label.purge = .running ∧ line.label.purge ≠ .running
    ∧ (let s := line.modLabel fun u => { u with purge := .pending }
       s.label.purge = .pending ∧ s.mode.mode = .run ∧ s.label.fault = none ∧ s.label.condition ≠ .applying) := by decide

/-- A job due, and none; the pallet's job PRINTED in PRINT_WAIT, and in APPLYING with scanner 5 idle. -/
theorem witness_JobsAreSentAndApplied :
    (JobDue (labelling .arrived []) 17 ∧ (∀ n, ¬ JobDue line n) ∧ (labelling .arrived []).mode.mode = .run
      ∧ (labelling .arrived []).label.jobs.length < (labelling .arrived []).setting .printerDepth)
    ∧ (let s := labelling .printWait [⟨255, 17, .printed⟩]
     s.label.pallet = some ⟨17, false⟩ ∧ s.label.jobs.find? (fun k => k.track == 17) = some ⟨255, 17, .printed⟩
      ∧ s.record? 17 = some (pallet .labelling .label) ∧ s.label.condition = .printWait ∧ s.mode.mode = .run
      ∧ s.label.fault = none ∧ s.label.purge = .none)
    ∧ (let s := labelling .applying [⟨255, 17, .printed⟩]
       s.label.condition = .applying ∧ s.scanner .verify = ⟨none, [], none⟩)
    ∧ (labelling .blocked [⟨255, 17, .printed⟩]).label.condition ≠ .applying := by
  refine ⟨⟨job_due.2.1, job_due.2.2.1, by decide, by decide⟩, by decide⟩

/-- Record 17 verifying with the read of face B outstanding; `attempts` labels applied. -/
def verifying (a : FaceResult) (attempts : Nat) : State :=
  (((labelling .verifying []).modLabel fun u => { u with faceA := a }).modScanner .verify fun _ => ⟨some (⟨17, .verify .b⟩, 5), [], none⟩).modRecord
    17 fun r => { r with labelAttempts := attempts }

/-- Face A good and face B the record's tag; another tag with one attempt, and with two, one more than LABEL_RETRIES; a
text that is no tag; an answer limit run out. -/
theorem witness_TheVerifyDecidesTheLabel :
    (let s := verifying .ok 1
     s.label.pallet = some ⟨17, false⟩ ∧ s.label.condition = .verifying
      ∧ (s.scanner .verify).outstanding = some (⟨17, .verify .b⟩, 5) ∧ s.label.faceA = .ok
      ∧ s.record? 17 = some { pallet .labelling .label with labelAttempts := 1 } ∧ s.slot? ⟨3318, 1⟩ = some (slotA .claimed)
      ∧ tagA.length = 16 ∧ (∀ c ∈ tagA, 48 ≤ c.toNat ∧ c.toNat ≤ 57) ∧ (∃ c ∈ tagA, c ≠ 48#8)
      ∧ (pallet .labelling .label).tag = some tagA)
    ∧ (tagB.length = 16 ∧ (∀ c ∈ tagB, 48 ≤ c.toNat ∧ c.toNat ≤ 57) ∧ (pallet .labelling .label).tag ≠ some tagB)
    ∧ 1 ≤ line.setting .labelRetries
    ∧ ¬ TagDigits [49#8] ∧ (((verifying .ok 1).modScanner .verify fun e => { e with outstanding := some (⟨17, .verify .b⟩, 0) }).scanner .verify).outstanding
        = some (⟨17, .verify .b⟩, 0)
    ∧ ((verifying .noRead 2).record? 17 = some { pallet .labelling .label with labelAttempts := 2 }
      ∧ line.setting .labelRetries < 2 ∧ (verifying .noRead 2).label.faceA ≠ .pending ∧ (verifying .noRead 2).move? 17 = none) := by
  unfold TagDigits
  decide

/-- Each of the four limits run out, the print limit with 1 cs left. -/
theorem witness_TheLimitsOfTheLabelUnitFaultIt :
    (let s := (labelling .printWait [⟨5, 17, .sent⟩]).modLabel fun u => { u with ack := some 0 }
     s.record? 17 = some (pallet .labelling .label) ∧ s.mode.mode ≠ .halted
      ∧ s.label.jobs.find? (fun j => j.state == .sent) = some ⟨5, 17, .sent⟩ ∧ s.label.purge ≠ .running ∧ s.label.ack = some 0)
    ∧ (let s := (labelling .printWait []).modLabel fun u => { u with ack := some 0, purge := .running }
       s.label.purge = .running ∧ (s.label.pallet.map (·.track)) = some 17 ∧ s.label.ack = some 0)
    ∧ ((labelling .printWait []).modLabel fun u => { u with print := some 1 }).label.print = some 1
    ∧ ((labelling .applying []).modLabel fun u => { u with apply := some 0 }).label.apply = some 0 := by decide

/-- Record 17 in WEIGHING without a tag, its check read outstanding; `left` of the answer limit. -/
def checkRead (m : Part) (slot : SlotState) (left : Nat) : State :=
  let s := (lineWith slot .checking .check).modCheck fun c => { c with condition := .weighing, current := some (checking m .present .pending) }
  (s.modRecord 17 fun r => { r with tag := none, ref := none }).modScanner .check fun _ => ⟨some (⟨17, .check⟩, left), [], none⟩

/-- The check read outstanding with the mass pending and not, its slot EXPECTED and CLAIMED, a tag in no plan and a text that is no
tag, the limit run out and not; the read of face A outstanding with face B's waiting. -/
theorem witness_ReadsOfTheCheckAndOfFaceAAreTaken :
    (let s := checkRead .pending .expected 0
     (s.scanner .check).outstanding = some (⟨17, .check⟩, 0) ∧ s.check.current = some (checking .pending .present .pending)
      ∧ (checking .pending .present .pending).tag = .pending
      ∧ s.record? 17 = some { pallet .checking .check with tag := none, ref := none } ∧ s.mode.mode ≠ .halted
      ∧ TagDigits tagA ∧ s.tagIndex tagA = some ⟨3318, 1⟩ ∧ s.slot? ⟨3318, 1⟩ = some (slotA .expected)
      ∧ TagDigits tagB ∧ s.tagIndex tagB = none ∧ ¬ TagDigits [49#8])
    ∧ ((checkRead .present .claimed 1).check.current = some (checking .present .present .pending)
      ∧ (checkRead .present .claimed 1).slot? ⟨3318, 1⟩ = some (slotA .claimed)
      ∧ ((checkRead .present .claimed 1).scanner .check).outstanding = some (⟨17, .check⟩, 1))
    ∧ (let s := (labelling .verifying []).modScanner .verify fun _ => ⟨some (⟨17, .verify .a⟩, 0), [⟨17, .verify .b⟩], none⟩
       s.label.condition = .verifying ∧ s.label.faceB = .pending ∧ (s.scanner .verify).outstanding = some (⟨17, .verify .a⟩, 0)
        ∧ s.record? 17 = some (pallet .labelling .label) ∧ (pallet .labelling .label).tag = some tagA
        ∧ (s.scanner .verify).waiting = [⟨17, .verify .b⟩]) := by
  unfold TagDigits
  refine ⟨?_, ?_, ?_⟩ <;> decide

/-! ### Witnesses: chapters 8 and 9 -/

/-- Record 17 finished on LABEL, the label-exit pallet. -/
def atExit : State :=
  (lineWith .finished .toBuffer .label).modBuffer fun b => { b with exitPallet := some 17 }

/-- The record of `atExit`. -/
def exitRecord : Record := pallet .toBuffer .label

/-- No pallet of `atExit` is releasable: the door of lane 1 is shut. -/
theorem cannotRelease (r : Record) (l : Lane) : ¬ CanRelease atExit r l := by
  rintro ⟨ref, ld, -, -, h, -⟩
  revert h
  revert l
  decide

/-- The label-exit pallet is taken to position 1; on an empty line no case applies. -/
theorem witness_TheShuttleTakesTheFirstCase :
    (atExit.mode.mode = .run ∧ atExit.buffer.task = none ∧ atExit.buffer.fault = false ∧ atExit.placeState .shuttle = .free
      ∧ (atExit.plan.loads.filterMap (·.lane)).Nodup)
    ∧ ShuttleChosen atExit exitRecord (.store 0)
    ∧ (∀ r g, ShuttleChosen atExit r g → atExit.record? r.number = some r ∧ atExit.move? r.number = none
        ∧ (r.location = .label ∨ ∃ p, r.location = .position p))
    ∧ (∀ r g, ¬ ShuttleChosen line r g) := by
  refine ⟨by decide, .inr ⟨?_, rfl, rfl, rfl, .inr ⟨0, rfl, cannotRelease _, .inr ⟨?_, ⟨⟨by decide, rfl⟩, by decide⟩, ?_⟩⟩⟩, ?_, ?_⟩
  · rintro k h ⟨-, -, hr, -⟩
    exact cannotRelease _ _ hr
  · rintro q ⟨-, ref, ld, l, -, h⟩
    revert h
    revert q l
    decide
  · intro q _
    exact Fin.zero_le q
  · rintro r g (⟨l, -, h, -⟩ | ⟨-, h, h', -⟩)
    · exact absurd h.2.2.1 (cannotRelease _ _)
    · have : r.number = 17 := by injection h with h; exact h.symm
      rw [this] at h' ⊢
      have : r = exitRecord := by injection h' with h'; exact h'.symm
      subst this
      decide
  · rintro r g (⟨l, -, ⟨h, -⟩, -⟩ | ⟨-, h, -⟩)
    · exact nomatch h
    · exact nomatch h

/-- The shuttle CARRYING record 17 with the task given, the door of lane 1 open or shut, the place of position 4 FREE or not. -/
def carrying (g : TaskFor) (door : Bool) (reserved : Bool) : State :=
  withInput ((lineWith .finished .toBuffer .shuttle).modBuffer fun b => { b with
    task := some ⟨17, g, .delivery⟩, reserved := if reserved then tset b.reserved 3 (some 17) else b.reserved }) (.laneDoor 0) door

/-- A RELEASE with room in lane 1 and with none; a STORE of a pallet now releasable; one with its position reserved and FREE;
one that has lost it and takes position 1; no task; a pickup from LABEL, and one from a position, completing. -/
theorem witness_TheDeliveryIsDecided :
    (let s := carrying (.release 0) true false
     s.buffer.task = some ⟨17, .release 0, .delivery⟩ ∧ s.buffer.fault = false ∧ s.move? 17 = none
      ∧ s.record? 17 = some (pallet .toBuffer .shuttle) ∧ (pallet .toBuffer .shuttle).location = .shuttle
      ∧ s.hasRoom (.lane 0) = true ∧ (noRoom s (.lane 0)).hasRoom (.lane 0) = false)
    ∧ CanRelease ((carrying (.store 3) true true).modLane 0 fun e => { e with status := .ready }) (pallet .toBuffer .shuttle) 0
    ∧ ((∀ l, ¬ CanRelease (carrying (.store 3) false true) (pallet .toBuffer .shuttle) l)
      ∧ tget (carrying (.store 3) false true).buffer.reserved 3 = some 17
      ∧ (carrying (.store 3) false true).placeState (.position 3) = .free)
    ∧ ((∀ l, ¬ CanRelease (carrying (.store 3) false false) (pallet .toBuffer .shuttle) l)
      ∧ tget (carrying (.store 3) false false).buffer.reserved 3 ≠ some 17)
    ∧ line.buffer.task = none
    ∧ (let m := moving .label .shuttle .buffer .inFlight
       let s := arriving (atExit.modBuffer fun b => { b with task := some ⟨17, .store 3, .pickup⟩, reserved := tset b.reserved 3 (some 17) })
        m .shuttleLoaded
       Senses s .shuttleLoaded true ∧ BoundFor s .shuttle m ∧ m.source = .label
        ∧ s.record? 17 = some { exitRecord with movingTo := some .shuttle } ∧ s.buffer.task = some ⟨17, .store 3, .pickup⟩
        ∧ s.buffer.fault = false ∧ tget s.buffer.reserved 3 = some 17 ∧ s.placeState (.position 3) = .free)
    ∧ (let m := moving (.position 3) .shuttle .buffer .inFlight
       let s := arriving ((lineWith .finished .releasing (.position 3)).modBuffer fun b => { b with task := some ⟨17, .release 0, .pickup⟩ })
        m .shuttleLoaded
       Senses s .shuttleLoaded true ∧ BoundFor s .shuttle m ∧ m.source = .position 3 ∧ (s.record? 17).isSome = true
        ∧ s.buffer.task = some ⟨17, .release 0, .pickup⟩ ∧ s.buffer.fault = false) := by
  refine ⟨by decide, ⟨⟨3318, 1⟩, _, ⟨rfl, rfl, rfl⟩, .inl ⟨by decide, ?_, .inl ⟨_, rfl, by decide⟩⟩, by decide⟩, ⟨?_, by decide⟩,
    ⟨?_, by decide⟩, rfl, by unfold Senses BoundFor; decide, by unfold Senses BoundFor; decide⟩
  · intro j sl hj hs
    have : j = 0 := by simp only at hj; omega
    subst this
    exact nomatch hs
  · rintro l ⟨ref, ld, -, -, h, -⟩
    revert h
    revert l
    decide
  · rintro l ⟨ref, ld, -, -, h, -⟩
    revert h
    revert l
    decide

/-- Record 17 in flight to lane 1 as the entry sensor of the lane becomes covered. -/
theorem witness_ADeliveryIntoALaneIsADispatch :
    let m := moving .shuttle (.lane 0) .lanes .inFlight
    let s := withFilter (withMove (lineWith .finished .releasing .shuttle) m) (.laneEntry 0) true
    tget s.field.timing (Input.laneEntry 0).idx = some 0 ∧ s.rawLevel (.laneEntry 0) = true
      ∧ s.field.moves.find? (fun k => k.dest == .lane 0 && k.state != .waiting) = some m
      ∧ m.source = .shuttle ∧ s.record? m.track = some { pallet .releasing .shuttle with movingTo := some (.lane 0) }
      ∧ (pallet .releasing .shuttle).ref = some ⟨3318, 1⟩ ∧ s.load? 3318 = some (loadA .finished)
      ∧ s.slot? ⟨3318, 1⟩ = some (slotA .finished) ∧ (slotA .finished).state = .finished ∧ (loadA .finished).status = .bound := by
  decide

/-- No record 1; a record not HELD; a HELD one of an unbound load; a HELD one of a load bound to lane 1; lanes 1 and 6, and 7. -/
theorem witness_LanesAreForcedHaltedAndResumed :
    (Addressed me line ∧ line.record? 1 = none)
    ∧ ((lineWith .claimed .staged (.staging .one)).record? 17 = some (pallet .staged (.staging .one))
      ∧ (pallet .staged (.staging .one)).stage ≠ .held)
    ∧ (let s := withRecord line (pallet .held (.position 0))
       s.record? 17 = some (pallet .held (.position 0)) ∧ (pallet .held (.position 0)).stage = .held
        ∧ ∀ ref ld l, ¬ LaneOf s (pallet .held (.position 0)) ref ld l)
    ∧ LaneOf (lineWith .finished .held (.position 0)) (pallet .held (.position 0)) ⟨3318, 1⟩ (loadA .finished) 0
    ∧ (1 = (0 : Lane).val + 1 ∧ 6 = (5 : Lane).val + 1 ∧ 6 < 7)
    ∧ (∃ ld ∈ (lineWith .finished .held (.position 0)).plan.loads, ld.lane = some 0)
    ∧ (∀ ld ∈ (lineWith .finished .held (.position 0)).plan.loads, ld.lane ≠ some 5) := by
  refine ⟨by decide, by decide, ⟨rfl, rfl, ?_⟩, ⟨rfl, rfl, rfl⟩, by decide, by decide, by decide⟩
  rintro ref ld l ⟨-, h, -⟩
  exact nomatch h

/-! ### Witnesses: chapters 10 and 11 -/

/-- Each mode with the identity present, and the mode STOPPED without. -/
theorem witness_SetModeRunsDrainsAndStops :
    Addressed me line ∧ line.mode.mode = .run ∧ (withMode line .stopped).mode.mode = .stopped
      ∧ (withMode line .drain).mode.mode = .drain ∧ line.link.identity.isSome = true
      ∧ State.reset.mode.mode = .stopped ∧ State.reset.link.identity = none ∧ Addressed me State.reset
      ∧ (withMode line .halted).mode.mode ≠ .stopped ∧ (withMode line .halted).mode.mode ≠ .drain := by decide

/-- An empty line is quiet. -/
theorem line_quiet (m : LineMode) : Quiet (withMode line m) := by
  refine ⟨fun k hk => (nomatch hk), rfl, fun h => (nomatch h), fun h => (nomatch h), ?_, fun j hj => (nomatch hj), fun h => (nomatch h),
    fun h => (nomatch h), fun h => (nomatch h)⟩
  intro w
  cases w <;> exact ⟨fun h => (nomatch h), fun h => (nomatch h)⟩

/-- A line worked off in DRAIN; a quiet one in STOPPING; a drain limit run out; a wake hold run out in STOPPED. -/
theorem witness_DrainsStopsAndWakesEnd :
    ((withMode line .drain).mode.mode = .drain ∧ WorkedOff (withMode line .drain))
    ∧ ((withMode line .stopping).mode.mode = .stopping ∧ Quiet (withMode line .stopping))
    ∧ (line.modMode fun m => { m with mode := .drain, drain := some 0 }).mode = ⟨.drain, none, some 0⟩
    ∧ (let s := (withMode line .stopped).modField fun u => { u with wakeHolds := tset u.wakeHolds 0 (some 0) }
       tget s.field.wakeHolds Infeed.a.idx = some 0 ∧ s.mode.mode = .stopped ∧ s.link.identity.isSome = true)
    ∧ line.mode.mode ≠ .drain ∧ line.mode.mode ≠ .stopping ∧ line.mode.mode ≠ .stopped := by
  exact ⟨⟨rfl, fun r hr => (nomatch hr), fun m hm => (nomatch hm), line_quiet _⟩, ⟨rfl, line_quiet _⟩, rfl, by decide, by decide⟩

/-- RUN with ESTOP inactive; active; HALTED with RUN, and with DRAIN, saved. -/
theorem witness_EstopHaltsAndResumeRestores :
    (line.field.estop = false ∧ line.mode.mode ≠ .halted)
    ∧ (line.modField fun u => { u with estop := true }).field.estop = true
    ∧ (let s := line.modMode fun m => { m with mode := .halted, saved := some .run }
       Addressed me s ∧ s.mode.mode = .halted ∧ s.field.estop = false ∧ s.mode.saved = some .run)
    ∧ (line.modMode fun m => { m with mode := .halted, saved := some .drain, drain := some 9 }).mode.saved = some .drain := by decide

/-- A purge hold run out; an addressed RESET LINE, with room for its reports; with a place covered and ESTOP active. -/
theorem witness_ALineResetEmptiesTheLine :
    (line.modField fun u => { u with purgeHold := some 0 }).field.purgeHold = some 0 ∧ Addressed me line
      ∧ line.link.mask = Vector.replicate 26 true ∧ line.link.reports.length + (allPlaces.filter line.covered).length ≤ 62
      ∧ (let s := (waiting.modField fun u => { u with estop := true }).modLink fun u => { u with
            reports := List.replicate 61 ⟨.late, 0, none, none, none, 1, none⟩ }
         Addressed me s ∧ s.field.estop = true ∧ s.link.reports.length + (allPlaces.filter s.covered).length ≤ 62) := by decide

/-- RESET FULL of a line with every raw input and ESTOP inactive and the straps at 0; with an input and ESTOP active. -/
theorem witness_AFullResetReturnsToPowerOn :
    Addressed me line ∧ line.mode.mode ≠ .halted ∧ line.field.raw = Vector.replicate 59 false ∧ line.field.estop = false
      ∧ line.link.straps = 0 ∧ Addressed me ((withFilter line (.laneEnd 5) true).modField fun u => { u with estop := true }) := by decide

/-! ### Witnesses: chapter 12 -/

/-- The first and the last setting, table and lane, numbers beyond each; a held article and the next above 7; a held load,
slot and record; none; a lane with a bound load and one without. -/
theorem witness_TheReadingRequestsOnlyAnswer :
    Addressed me line
    ∧ (1 = Setting.inputFilter.idx.val + 1 ∧ 33 = Setting.broadcastOff.idx.val + 1 ∧ 33 < 34 ∧ 5 < 6)
    ∧ stocked.plan.articles.find? (fun a => a.code == 7) = some bolts
    ∧ stocked.plan.articles.find? (fun a => 7 < a.code) = some ⟨9, 80000, []⟩
    ∧ (∀ a ∈ stocked.plan.articles, a.code ≠ 8) ∧ (∀ a ∈ stocked.plan.articles, a.code ≤ 9)
    ∧ (line.load? 1 = none ∧ (withLoad line (loadA .expected)).load? 3318 = some (loadA .expected)
      ∧ (loadA .expected).slotAt 1 = some (slotA .expected))
    ∧ (lineWith .finished .held (.position 0)).record? 17 = some (pallet .held (.position 0)) ∧ line.record? 17 = none
    ∧ (13 ≤ 13 ∧ 31 ≤ 31 ∧ 13 < 14) ∧ (1 = (0 : Lane).val + 1 ∧ 6 = (5 : Lane).val + 1)
    ∧ ((withLoad line (loadA .claimed)).plan.loads.find? (·.lane == some 0) = some (loadA .claimed)
      ∧ (withLoad line (loadA .claimed)).plan.loads.find? (·.lane == some 5) = none) := by decide

/-- SETTLE_LIMIT below, in and above its range; number 34; DIVISION between two of its
values and above them; STOPPED and not. -/
theorem witness_SettingsAreSetAndReset :
    Addressed me line ∧ 1 = Setting.inputFilter.idx.val + 1
      ∧ Setting.inputFilter.allows 0 ∧ (-1 : Int) < (Setting.inputFilter.ends.1 : Int)
      ∧ ((Setting.inputFilter.ends.2 : Int) < Setting.inputFilter.ends.2 + 1) ∧ 33 < 34
      ∧ ¬ Setting.division.allows 11 ∧ ¬ Setting.printerDepth.allows 3
      ∧ (withMode line .stopped).mode.mode = .stopped ∧ Addressed me (withMode line .stopped) ∧ line.mode.mode ≠ .stopped := by
  unfold Setting.allows
  decide

/-- Tables that are taken: one band at the ends of its range, the default bases and recipes, windows that meet at 8 and 9, a mask. -/
theorem witness_SetTableReplacesOneTableWhole :
    Addressed me line
    ∧ (1 ≤ [(⟨2000001, 100000, 50⟩ : Band)].length ∧ [(⟨2000001, 100000, 50⟩ : Band)].Pairwise (fun a b => a.edge < b.edge)
      ∧ ∀ b ∈ [(⟨2000001, 100000, 50⟩ : Band)], 1 ≤ b.edge ∧ b.edge ≤ 2000001 ∧ b.fixed ≤ 100000 ∧ b.perMille ≤ 50)
    ∧ (∀ b ∈ defaultBases.toList, 1000 ≤ b.tare ∧ b.tare ≤ 100000 ∧ 400 ≤ b.length ∧ b.length ≤ 1600 ∧ 400 ≤ b.width ∧ b.width ≤ 1600)
    ∧ (∀ r ∈ defaultRecipes.toList, r.bottom ≤ 6 ∧ r.top ≤ 6 ∧ 10 ≤ r.overlap ∧ r.overlap ≤ 70 ∧ r.prestretch ≤ 300
        ∧ 1 ≤ r.tension ∧ r.tension ≤ 9)
    ∧ (∀ w ∈ ([⟨1, 8⟩, ⟨9, 8⟩, ⟨1, 0⟩, ⟨16, 0⟩, ⟨1, 0⟩, ⟨1, 0⟩] : List Window), 1 ≤ w.base ∧ w.base ≤ 16 ∧ w.size ≤ 8
        ∧ (0 < w.size → w.base + w.size ≤ 9 ∨ (9 ≤ w.base ∧ w.base + w.size ≤ 17)))
    ∧ (List.replicate 26 1).length = 26 := by decide

/-- The line with its outputs and reported states in force. -/
def settled : State := line.settle

/-- Every place of `settled` is empty and known. -/
theorem settled_place (p : Place) : settled.place p = ⟨false, false, [], []⟩ := by
  show tget (Vector.replicate 34 _) p.idx = _
  exact Vector.getElem_replicate ..

/-- Every lamp of `settled` is lit as its pattern asks. -/
theorem settled_lamps (i : Fin 12) : LampLit (tget settled.field.lamps i) := by
  unfold LampLit
  revert i
  decide

/-- The outputs of `settled` follow its state. -/
theorem settled_signals : SignalsInv settled := by
  have hz : ∀ z, (settled.zone z).drive = false := by
    rintro (i | _ | _ | _)
    · cases i <;> decide
    all_goals decide
  refine ⟨?_, by decide, ⟨fun _ h => (nomatch h), fun _ _ _ _ hm => (nomatch hm)⟩,
    ⟨fun _ h => (nomatch h), fun _ _ _ _ hm => (nomatch hm)⟩, ?_, ?_, by decide, ?_, ?_, fun _ h => (nomatch h), ?_⟩
  · intro z
    rw [hz z]
    refine ⟨fun h => (nomatch h), ?_⟩
    rintro ⟨-, -, ⟨m, hm, -⟩ | ⟨i, -, -, -, -, h, -⟩⟩
    · exact nomatch hm
    · cases i <;> exact absurd rfl h
  · intro l
    refine ⟨?_, settled_lamps _⟩
    rcases l with (l | i | p | _)
    · exact .inl ⟨rfl, by revert l; decide⟩
    · refine .inr ⟨?_, by cases i <;> decide⟩
      unfold Not
      cases i <;> decide
    · exact .inr (.inr (.inr ⟨by cases p <;> decide, by cases p <;> decide, by cases p <;> decide⟩))
    · refine .inr (.inr ⟨by decide, ?_, by decide⟩)
      rintro (⟨st, h⟩ | ⟨z, h⟩ | ⟨q, h⟩ | ⟨r, h, -⟩)
      · rcases st with (_ | w | _ | _ | _)
        · revert h; decide
        · cases w <;> revert h <;> decide
        all_goals revert h; decide
      · rcases z with (i | _ | _ | _)
        · cases i <;> revert h <;> decide
        all_goals revert h; decide
      · revert h
        rw [settled_place]
        exact fun h => nomatch h
      · exact nomatch h
  · rintro (_ | w | _ | _ | _)
    · decide
    · cases w <;> decide
    all_goals decide
  · refine ⟨fun h => (nomatch h), ?_⟩
    rintro ⟨-, ⟨n, r, h, -⟩, -⟩
    exact nomatch h
  · intro i
    refine ⟨fun h => absurd h (by cases i <;> decide), ?_⟩
    rintro ⟨⟨n, rest, r, h, -⟩, -⟩
    rw [settled_place] at h
    exact nomatch h
  · exact ⟨fun h => (nomatch h), fun h => (nomatch h.1)⟩

/-- An addressed request in a state with its outputs in force, its queue of reports empty. Flags 0, 1 and 2. A kind masked and one
not; 63 reports queued, and 64; a scanner with no read outstanding and none ended. -/
theorem witness_ReportsAndCountersAreCollected :
    Addressed me settled ∧ SignalsInv settled ∧ (1 ≤ 1 ∧ 1 < 2)
      ∧ tget (settled.modLink fun u => { u with mask := tset u.mask ReportKind.late.idx false }).link.mask ReportKind.late.idx = false
      ∧ tget settled.link.mask ReportKind.late.idx = true
      ∧ (let queued (n : Nat) := settled.modLink fun u => { u with reports := List.replicate n ⟨.late, 0, none, none, none, 1, none⟩ }
         (queued 63).link.reports.length < 64 ∧ 64 ≤ (queued 64).link.reports.length)
      ∧ (settled.scanner .verify).outstanding = none ∧ (settled.scanner .verify).ended = none :=
  ⟨by decide, settled_signals, by decide, by decide, by decide, by decide, by decide, by decide⟩

/-- An absent identity and a present one, addressed and broadcast; fifteen characters, and one above the tilde. -/
theorem witness_TheIdentityIsSetOnce :
    (Addressed me State.reset ∧ name16.length = 16 ∧ (∀ c ∈ name16, 32 ≤ c.toNat ∧ c.toNat ≤ 126)
      ∧ State.reset.link.identity = none)
    ∧ line.link.identity.isSome = true ∧ (List.replicate 15 65#8).length ≠ 16 ∧ (∃ c ∈ List.replicate 16 127#8, 126 < c.toNat)
    ∧ (everyone.broadcast = true ∧ everyone.whole = true ∧ State.reset.link.answering = false
      ∧ State.reset.setting .broadcastOff ≠ 1)
    ∧ (∃ t, exec .replySent line = .next t ∧ line.link.identity = some name16) := by
  refine ⟨by decide, by decide, by decide, by decide, by decide, _, rfl, by decide⟩

/-- A request and an unknown kind: while answering, broken, broadcast with BROADCAST_OFF off and on; a broadcast request that changes
the part, and one that would be refused. -/
theorem witness_RequestsAreLostBrokenOrBroadcast :
    requestOf (.identify me) = some (me, 0x01) ∧ (Instr.unknownKind me 0x7F = .unknownKind me 0x7F)
    ∧ (me.broadcast = false ∧ line.asked.link.answering = true) ∧ (⟨false, false⟩ : Req).whole = false
    ∧ (everyone.broadcast = true ∧ line.setting .broadcastOff ≠ 1 ∧ line.link.answering = false ∧ 0x01 ∈ replyOnly)
    ∧ ({ line with settings := tset line.settings Setting.broadcastOff.idx 1 } : State).setting .broadcastOff = 1
    ∧ (Addressed me line ∧ 65535 < 65536)
    ∧ (requestOf (.laneHalt everyone 1) = some (everyone, 0x39) ∧ everyone.broadcast = true ∧ 0x39 ∉ replyOnly
      ∧ exec (sentAs ⟨false, true⟩ (.laneHalt everyone 7)) line = .next (line.answers 0x39 .badArgument .nothing)) := by
  refine ⟨by decide, by decide, by decide, by decide, by decide, by decide, by decide, by decide, by decide, by decide, rfl⟩

/-- The part receiving the octets of a frame, with time left of its gap limit. -/
def receiving (f : List Octet) (gap : Nat) : State := line.modLink fun u => { u with receiver := .receiving f gap }

/-- No command is a request of kind 0x7F. -/
theorem unknown_kind (c : Instr) (q : Req) : requestOf c ≠ some (q, 0x7F) := by cases c <;> simp [requestOf]

/-- Hunting; four octets with a length of 480 and of 481; frames of TAKE_REPORTS and LANE_HALT that lack their last octet, for
address 0 and for address 15; a payload of another length; a kind of no request, and kind 128; another address; a gap limit run
out, and one not. Mode 4, reset 0, form 2; tables 0 and 6 and half a window; an ARTICLE_PUT short of its name, and a SLOT_ADD of its
fixed octets alone. -/
theorem witness_TheReceiverFramesOctets :
    line.link.receiver = .hunting
    ∧ (receiving [195#8, 0#8, 7#8, 1#8] 0).link.receiver = .receiving [195#8, 0#8, 7#8, 1#8] 0
    ∧ (256 * ([195#8, 0#8, 7#8, 1#8].getD 3 0).toNat + (224#8).toNat = 480 ∧ 480 < 256 * ([195#8, 0#8, 7#8, 1#8].getD 3 0).toNat + (225#8).toNat)
    ∧ (let c := checkOf [0#8, 0x07#8, 0#8, 0#8]
       c = BitVec.extractLsb' 8 8 c ++ BitVec.extractLsb' 0 8 c ∧ (0#8).toNat = line.link.address.toNat
        ∧ requestOf (.takeReports me) = some (⟨false, true⟩, (0x07#8).toNat) ∧ Fits (.takeReports me)
        ∧ payloadOf (.takeReports me) = [])
    ∧ (let c := checkOf [15#8, 0x39#8, 0#8, 1#8, 1#8]
       c = BitVec.extractLsb' 8 8 c ++ BitVec.extractLsb' 0 8 c
        ∧ requestOf (.laneHalt everyone 1) = some (⟨true, true⟩, (0x39#8).toNat) ∧ Fits (.laneHalt everyone 1)
        ∧ payloadOf (.laneHalt everyone 1) = [1#8])
    ∧ ((0x39, 1) ∈ payloadLengths ∧ ([] : List Octet).length ≠ 1 ∧ line.link.answering = false)
    ∧ ((0x7F#8).toNat < 128 ∧ (∀ c q, requestOf c ≠ some (q, (0x7F#8).toNat)) ∧ 128 ≤ (0x80#8).toNat)
    ∧ ((1#8).toNat ≠ 15 ∧ (1#8).toNat ≠ line.link.address.toNat)
    ∧ (checkOf [0#8, 0x07#8, 0#8, 0#8] ≠ 0#8 ++ 0#8 ∧ 0 < 1)
    ∧ (3 < (4#8).toNat ∧ (0#8).toNat = 0 ∧ 1 < (2#8).toNat)
    ∧ (BrokenTable [0#8] ∧ BrokenTable [6#8, 1#8] ∧ BrokenTable [4#8, 1#8])
    ∧ ([0#8, 7#8, 0#8, 0#8, 3#8, 232#8, 2#8, 65#8].length ≠ 7 + ([0#8, 7#8, 0#8, 0#8, 3#8, 232#8, 2#8, 65#8].getD 6 (0#8)).toNat)
    ∧ ¬ SlotPayload (List.replicate 21 49#8) := by
  unfold Fits
  refine ⟨rfl, rfl, by decide, by decide, by decide, by decide, ⟨by decide, unknown_kind, by decide⟩, by decide, by decide, by decide,
    ⟨.inr ⟨_, _, rfl, .inl rfl⟩, .inr ⟨_, _, rfl, .inr (.inl (by decide))⟩, .inr ⟨_, _, rfl, .inr (.inr ⟨4, 2, by decide, rfl, by decide⟩)⟩⟩,
    by decide, ?_⟩
  rintro ⟨head, lines, n, m, texts, h, hh, -⟩
  have := congrArg List.length h
  simp [hh] at this

/-- The least and the largest value; one report taken; a record with its tag; tables that fit; a request answered by one reply. -/
theorem witness_RepliesAreFramed :
    ((-2147483648 : Int) ≤ -2147483648 ∧ (2147483647 : Int) < 2147483648)
    ∧ [(⟨.late, 0, none, none, none, 1, none⟩ : Report)][0]? = some ⟨.late, 0, none, none, none, 1, none⟩
    ∧ (∀ d, (pallet .held (.position 0)).tag = some d → d.length = 16)
    ∧ Fits (.setTableBands me defaultBands) ∧ Fits (.setTableBases me defaultBases.toList)
    ∧ Fits (.setTableRecipes me defaultRecipes.toList) ∧ Fits (.setTableWindows me defaultWindows.toList)
    ∧ (∃ t, exec (.getSetting me 1) line = .next t ∧ ∃ body, Replied line t 0x04 .ok body) := by
  refine ⟨by decide, rfl, ?_, ?_, ?_, ?_, ?_, _, rfl, _, rfl, rfl⟩
  · intro d h
    injection h with h
    subst h
    rfl
  all_goals unfold Fits; decide

/-- A line with articles, load 3318 and a command to run. -/
theorem witness_TheTablesStayInRange :
    let s := { planning with pending := [.articleDrop me 9] }
    LinkInv s ∧ SettingsInv s ∧ ArticlesInv s ∧ LoadsInv s ∧ ZeroInv s ∧ ModeInv s
      ∧ ∃ t, step s = .next t ∧ t.plan.articles.length = 1 := by
  refine ⟨by unfold LinkInv; decide, ?_, by unfold ArticlesInv; decide, by unfold LoadsInv; decide, by unfold ZeroInv; decide,
    by unfold ModeInv; decide, _, rfl, by decide⟩
  intro k
  unfold Setting.allows
  cases k <;> first | decide | (rename_i z; rcases z with (i | _ | _ | _) <;> first | decide | (cases i <;> decide))

/-- The settled line with a command to run; a line whose requests begin, whose grant is over, and whose print limit starts. -/
theorem witness_TheOutputsFollowTheState :
    (SignalsInv { settled with pending := [.estop] } ∧ ∃ t, step { settled with pending := [.estop] } = .next t ∧ t.mode.mode = .halted)
    ∧ WantsCheck (lineWith .claimed .ready (.infeed .a)) .a ∧ GrantOver line ⟨.a, 17⟩
    ∧ PrintWaits (labelling .printWait [⟨255, 17, .taken⟩]) := by
  refine ⟨⟨settled_signals, _, rfl, by decide⟩, ?_, .inl rfl, by decide, by decide, _, _, rfl, rfl, rfl⟩
  exact ⟨⟨17, [], pallet .ready (.infeed .a), by decide, by decide, rfl⟩, by decide, by decide⟩

/-- An empty queue in RUN and in HALTED; a frame in reception. -/
theorem witness_AnEmptyQueueLetsTimePass :
    line.pending = [] ∧ line.mode.mode ≠ .halted ∧ (withMode line .halted).mode.mode = .halted
      ∧ (receiving [195#8] 2).link.receiver = .receiving [195#8] 2 := by decide

/-- A command that changes neither an input nor a strap, and takes no report from the queue, with every kind of report enabled and room
for one more; a lane that changes its state at it; CHECK reported BLOCKED, and WORKING again with no record deleted. -/
theorem witness_EveryCommandAnswersAndLeavesTheQueue :
    ((∀ i b, Instr.laneHalt me 1 ≠ .inputChange i b) ∧ ∀ p, Instr.laneHalt me 1 ≠ .strapChange p)
    ∧ (¬ TakesFromQueue (.laneHalt me 1) planning ∧ Instr.laneHalt me 1 ≠ .purgeHoldExpiry ∧ (∀ q, Instr.laneHalt me 1 ≠ .resetLine q)
      ∧ planning.link.mask = Vector.replicate 26 true)
    ∧ ∃ t, exec (.laneHalt me 1) planning = .next t ∧ t.link.mask = Vector.replicate 26 true ∧ t.link.reports.length < 64
      ∧ (tget t.lanes 0).status ≠ (tget planning.lanes 0).status
      ∧ ∃ u, exec .checkRouteRetry reportedBlocked = .next u ∧ tget u.reported Station.check.idx ≠ .blocked
        ∧ ∀ r ∈ reportedBlocked.track.records, (u.record? r.number).isSome = true := by
  refine ⟨⟨fun _ _ h => (nomatch h), fun _ h => (nomatch h)⟩, ⟨?_, fun h => (nomatch h), fun _ h => (nomatch h), by decide⟩, _, rfl,
    by decide, by decide, by decide, _, rfl, by decide, by decide⟩
  rintro (⟨_, h, -⟩ | (h | h | ⟨_, h, -⟩) | ⟨_, _, _, h, -⟩) <;> exact nomatch h

/-! ### More worked values of the spec -/

/-- The next state of a command. -/
def run (c : Instr) (s : State) : State :=
  match exec c s with
  | .next t => t
  | _ => s

/-- A mean of four readings at a division of 20 g. -/
def meanOf (g : Int) : Int := (capture .zero [g, g, g, g] true).mean

/-- The means of section 5.9: a half-way average rounds up, at negative readings too. -/
theorem test_means_round_half_up :
    meanOf 100010 = 100020 ∧ meanOf (-10) = 0 ∧ meanOf (-20) = -20 ∧ meanOf (-30) = -20 ∧ meanOf (-40) = -40 := by decide

/-- The tolerances and verdicts of section 5.9 and 11.3. -/
theorem test_tolerance_and_verdicts :
    tolerance defaultBands 766600 50000 = 3099 ∧ tolerance defaultBands 720000 50000 = 2960
      ∧ tolerance defaultBands 1900000 50000 = 7200 ∧ tolerance defaultBands 1900000 5000 = 5000
      ∧ tolerance [⟨500000, 500, 1⟩, ⟨1000000, 900, 2⟩] 1200000 50000 = 3300
      ∧ massVerdict 1549 3099 = .pass ∧ massVerdict 1550 3099 = .passMarginal ∧ massVerdict 3099 3099 = .passMarginal
      ∧ massVerdict 3100 3099 = .over ∧ massVerdict (-3099) 3099 = .passMarginal ∧ massVerdict (-3100) 3099 = .under := by decide

/-- A zone whose window ends with a count. -/
def windowEnds (st : ZoneState) (run : Nat) (edges : Nat) : State :=
  line.modZone .centre fun e => { e with drive := true, state := st, goodRun := run, edges }

/-- The zone after its window has ended. -/
def zoneAfter (st : ZoneState) (good : Nat) (edges : Nat) : ZoneState × Nat :=
  let e := (run (.speedWindowEnd .centre) (windowEnds st good edges)).zone .centre
  (e.state, e.goodRun)

/-- The six windows of the zone that slows and stops (section 2.10). -/
theorem test_zone_slows_and_stops :
    zoneAfter .normal 0 1030 = (.normal, 0) ∧ zoneAfter .normal 0 820 = (.degraded, 0) ∧ zoneAfter .degraded 0 0 = (.stalled, 0)
      ∧ zoneAfter .stalled 0 1010 = (.degraded, 1) ∧ zoneAfter .degraded 1 990 = (.degraded, 2)
      ∧ zoneAfter .degraded 2 1005 = (.normal, 0) := by decide

/-- A SLOT_ADD frame with nine lines is refused by the checks of R20 in their order: UNKNOWN_LOAD first, then BAD_ARGUMENT. -/
theorem test_slot_add_checks_in_order :
    let sends (id : Nat) (s : State) : Option Message :=
      match runRequest false 0x14 (octets2 id ++ octets1 2 ++ tagB ++ [0#8, 3#8] ++ octetsList ArticleLine.octets (List.replicate 9 ⟨7, 10⟩)
          ++ octetsList octetsText []) s with
      | .next t => t.sent.getLast?
      | _ => none
    sends 1 planning = some (.reply 0 0x94 .unknownLoad .nothing) ∧ sends 3318 planning = some (.reply 0 0x94 .badArgument .nothing) := by
  decide

/-- SLOT_ADD for the deferred pallet of section 3.8: the slot is claimed and MATCH carries occasion 3. -/
theorem test_deferral_met_by_its_slot :
    let s := { planning with track := (withRecord line { deferred 657 with headMark := true }).track,
                             field := (withRecord line { deferred 657 with headMark := true }).field }
    let t := run (.slotAdd me 3318 2 tagB 0 3 [⟨7, 10⟩] []) s
    t.stageOf 17 = some .ready ∧ t.refOf 17 = some ⟨3318, 2⟩
      ∧ (t.link.reports.filter (·.kind == .matched)).map (fun r => (r.detail, r.value)) = [(1, some 3)] := by decide

/-- The late completion of section 2.10: record 17 lost on its way to SHUTTLE comes back to TO_BUFFER, with LATE. -/
theorem test_late_completion :
    let m : Move := ⟨17, .label, .shuttle, .buffer, .lost, 0, 2000, false⟩
    let s := withFilter (withMove (lineWith .finished .toBuffer .label) m) .shuttleLoaded true
    let s := s.modRecord 17 fun r => { r with stage := .lost, preLost := some .toBuffer }
    let s := s.modBuffer fun b => { b with task := some ⟨17, .store 3, .pickup⟩, fault := true }
    let t := run (.inputFilterExpiry .shuttleLoaded) s
    t.stageOf 17 = some .toBuffer ∧ (t.record? 17).map (·.location) = some .shuttle ∧ t.move? 17 = none
      ∧ (t.link.reports.filter (·.kind == .late)).map (fun r => (r.track, r.detail)) = [(some 17, 10)] := by decide

/-- The windows of section 8.9, with positions 1 to 7 OCCUPIED. -/
def racks : State :=
  (List.range 7).foldl (fun s i => s.modPlace (.position (Fin.ofNat 16 i)) fun e => { e with occupants := [100 + i] })
    ((withLoad line { loadA .finished with lane := some 1 }).modBuffer fun b => { b with
      windows := #v[⟨1, 0⟩, ⟨1, 8⟩, ⟨1, 0⟩, ⟨9, 4⟩, ⟨1, 0⟩, ⟨1, 0⟩] })

/-- The choice of positions of section 8.9: in the window, beside a full window, and of an unbound load. -/
theorem test_choice_of_positions :
    racks.choosePosition exitRecord = some 7
      ∧ (racks.modPlace (.position 7) fun e => { e with occupants := [50] }).choosePosition exitRecord = some 12
      ∧ ((racks.modPlan fun p => { p with loads := [{ loadA .finished with lane := some 3 }] }).choosePosition exitRecord) = some 8
      ∧ ((racks.modPlan fun p => { p with loads := [{ loadA .finished with lane := none }] }).choosePosition exitRecord) = some 12 := by
  decide

/-- TAKE_REPORTS of a full queue with the overflow flag set leaves 52 reports and the flag clear (section 10.10). -/
theorem test_take_reports :
    let t := run (.takeReports me) (settled.modLink fun u => { u with reports := List.replicate 64 ⟨.late, 0, none, none, none, 1, none⟩, overflow := true })
    t.link.reports.length = 52 ∧ t.link.overflow = false ∧ t.link.answering = true := by decide

/-- The link errors counter reaches its half (section 10.10): COUNTER_HALF with detail 11 and value 32,768, once. -/
theorem test_counter_half :
    let s := line.asked.modLink fun u => { u with counters := tset u.counters 10 ⟨32767, true⟩ }
    let t := run (.identify me) s
    tget t.link.counters 10 = ⟨32768, false⟩
      ∧ t.link.reports.map (fun r => (r.kind, r.detail, r.value)) = [(.counterHalf, 11, some 32768)]
      ∧ (run (.identify me) t).link.reports.length = 1 := by decide

/-- DIVISION takes one of its four values, a value between going to one of them (R110). -/
theorem test_division_is_clamped :
    (run (.setSetting me 22 20) line).setting .division = 20 ∧ (run (.setSetting me 22 9) line).setting .division = 10
      ∧ (run (.setSetting me 22 101) line).setting .division = 100 := by decide

/-- With WRAP_BYPASS off wrapper 2 waits for the oldest staged pallet, which needs a top sheet; with it on it takes the other
(section 6.9), unless that one's staging place is UNKNOWN (R36). -/
theorem test_wrap_bypass :
    let other : Record := { newRecord 22 .a 0 with tag := some tagB, ref := some ⟨3318, 2⟩, stage := .staged, location := .staging .one }
    let s := withRecord (withLoad line { loadA .claimed with slots := [slotA .claimed, { slotA .claimed with tag := tagB, recipe := 1 }] })
      (pallet .staged (.staging .two))
    let s := (withRecord s other).modWrap fun u => { u with staging := #v[some ⟨22, 300⟩, some ⟨17, 0⟩] }
    let s := ({ s with lineTime := 500 } : State).modWrapper .one fun u => { u with status := .running }
    let bypass : State := { s with settings := tset s.settings Setting.wrapBypass.idx 1 }
    s.wrapChoice = none ∧ bypass.wrapChoice = some (.one, .two)
      ∧ (bypass.modPlace (.staging .one) fun e => { e with unknown := true }).wrapChoice = none := by decide

/-! ### Ill-formed commands, one for each check of `WellFormed` -/

/-- A whole request with fields in range is well-formed, and one that is not whole is, whatever stands in its fields. -/
theorem test_well_formed :
    (Instr.setSetting me 255 (-2147483648)).wellFormed = true ∧ (Instr.setSetting ⟨false, false⟩ 256 0).wellFormed = true
      ∧ (Instr.travelLimitExpiry 255).wellFormed = true ∧ Instr.mergeChoice.wellFormed = true := by decide

/-- Track numbers 0 and 256, and a kind of two octets. -/
theorem test_refuses_track_numbers :
    (Instr.travelLimitExpiry 0).wellFormed = false ∧ (Instr.deferralDeadlineExpiry 256).wellFormed = false
      ∧ (Instr.moveStart 256).wellFormed = false ∧ (Instr.unknownKind me 256).wellFormed = false := by decide

/-- Numbers too wide for their octets. -/
theorem test_refuses_wide_numbers :
    [Instr.setSetting me 256 0, .setSetting me 1 2147483648, .setSetting me 1 (-2147483649), .getSetting me 256, .getTable me 256,
      .readCounters me 256, .articlePut me 65536 1 [], .articlePut me 1 4294967296 [], .articleDrop me 65536,
      .articleGet me 65536 .exact, .loadCreate me 65536 1 2000 date, .loadCreate me 1 256 2000 date,
      .loadCreate me 1 1 65536 date, .slotSkip me 65536 1, .slotSkip me 1 256, .loadBind me 65536 1, .loadBind me 1 256,
      .loadUnbind me 65536, .loadClose me 65536, .readLoad me 65536 0 0, .readLoad me 1 256 0, .readLoad me 1 1 256,
      .placeClear me 256, .infeedSet me 256 1, .infeedSet me 1 256, .readPallet me 256, .listPallets me 256 0,
      .listPallets me 0 256, .palletRemove me 256, .stationResume me 256, .forceRelease me 256, .laneHalt me 256,
      .laneResume me 256, .readLane me 256].all (fun c => !c.wellFormed) = true := by decide

/-- Texts of a wrong length, and slot fields out of their octets. -/
theorem test_refuses_texts_and_slots :
    [Instr.setIdentity me [65#8], .articlePut me 1 1 (List.replicate 256 65#8), .loadCreate me 1 1 2000 [],
      .slotAdd me 65536 1 tagA 0 0 [] [], .slotAdd me 1 256 tagA 0 0 [] [], .slotAdd me 1 1 [] 0 0 [] [],
      .slotAdd me 1 1 tagA 256 0 [] [], .slotAdd me 1 1 tagA 0 256 [] [], .slotAdd me 1 1 tagA 0 0 (List.replicate 115 ⟨1, 1⟩) [],
      .slotAdd me 1 1 tagA 0 0 [⟨65536, 1⟩] [], .slotAdd me 1 1 tagA 0 0 [⟨1, 65536⟩] [],
      .slotAdd me 1 1 tagA 0 0 [] (List.replicate 256 []), .slotAdd me 1 1 tagA 0 0 [] [List.replicate 256 65#8]].all
        (fun c => !c.wellFormed) = true := by decide

/-- Table entries that do not fit their octets, and tables too long for a frame. -/
theorem test_refuses_tables :
    [Instr.setTableBands me [⟨4294967296, 0, 0⟩], .setTableBands me [⟨0, 4294967296, 0⟩], .setTableBands me [⟨0, 0, 256⟩],
      .setTableBands me (List.replicate 54 ⟨0, 0, 0⟩), .setTableBases me [⟨4294967296, 0, 0⟩], .setTableBases me [⟨0, 65536, 0⟩],
      .setTableBases me [⟨0, 0, 65536⟩], .setTableBases me (List.replicate 60 ⟨0, 0, 0⟩),
      .setTableRecipes me [⟨256, 0, 0, 0, false, 0⟩], .setTableRecipes me [⟨0, 256, 0, 0, false, 0⟩],
      .setTableRecipes me [⟨0, 0, 256, 0, false, 0⟩], .setTableRecipes me [⟨0, 0, 0, 65536, false, 0⟩],
      .setTableRecipes me [⟨0, 0, 0, 0, false, 256⟩], .setTableRecipes me (List.replicate 69 ⟨0, 0, 0, 0, false, 0⟩),
      .setTableWindows me [⟨256, 0⟩], .setTableWindows me [⟨0, 256⟩], .setTableWindows me (List.replicate 240 ⟨1, 0⟩),
      .setTableReportMask me [256], .setTableReportMask me (List.replicate 480 0)].all (fun c => !c.wellFormed) = true := by decide

end Sys2Proof.Tests
end

section
/-! SUPPORT. What no operation of the line does to the tables: articles, settings and mode stay, and the report queue, counters,
loads and zero offset stay within their bounds. Each lemma is named after the operation it follows, so that a proof about a chain
of operations reads as the chain. -/

namespace Sys2Proof.Machine

open State

variable {r s t u : State}

/-- From one state to another the article table, the settings and the mode are the same, and the bounds of the report queue and
the counters, of the loads and of the zero offset are kept. -/
structure TablesHold (r s : State) : Prop where
  articles : s.plan.articles = r.plan.articles
  settings : s.settings = r.settings
  mode : s.mode = r.mode
  link : LinkInv r → LinkInv s
  loads : LoadsInv r → LoadsInv s
  zero : ZeroInv r → ZeroInv s

/-- The parts of the state that no bound of the tables speaks of. -/
def offTables : List Block :=
  [.lineTime, .address, .straps, .receiver, .answering, .identity, .mask, .bases, .recipes, .bands, .raw, .filtered, .timing,
   .estop, .entryTaken, .diverter, .purgeHold, .wakeHolds, .zones, .outputs, .places, .moves, .records, .nextNumber, .enabled,
   .scanners, .grant, .merge, .check, .wrap, .label, .printLimit, .buffer, .deadlock, .windows, .lanes, .laneStates, .reported,
   .sent, .freeDraws, .pending]

namespace TablesHold

theorem refl (s : State) : TablesHold s s := ⟨rfl, rfl, rfl, id, id, id⟩

theorem trans (h : TablesHold r s) (k : TablesHold s t) : TablesHold r t :=
  ⟨k.articles.trans h.articles, k.settings.trans h.settings, k.mode.trans h.mode, k.link ∘ h.link, k.loads ∘ h.loads,
    k.zero ∘ h.zero⟩

/-- A change outside the tables keeps them. -/
theorem keeps (h : TablesHold r s) (k : KeepsAllBut offTables s t) : TablesHold r t := by
  obtain ⟨hr, -, ha⟩ := k .queue (by decide)
  have hc : t.link.counters = s.link.counters := k .counters (by decide)
  have hl : t.plan.loads = s.plan.loads := k .loads (by decide)
  have hm : t.mass = s.mass := k .mass (by decide)
  refine h.trans ⟨k .articles (by decide), k .settings (by decide), k .mode (by decide), fun i => ?_, fun i => ?_, fun i => ?_⟩
  · simpa [LinkInv, hr, ha, hc] using i
  · simpa [LoadsInv, hl] using i
  · simpa [ZeroInv, hm] using i

/-! ### Changes of one block -/

theorem modLink {f : LinkUnit → LinkUnit} (h : TablesHold r s) (hf : LinkInv s → LinkInv (s.modLink f)) :
    TablesHold r (s.modLink f) := ⟨h.articles, h.settings, h.mode, hf ∘ h.link, h.loads, h.zero⟩

theorem modField {f : FieldUnit → FieldUnit} (h : TablesHold r s) : TablesHold r (s.modField f) :=
  ⟨h.articles, h.settings, h.mode, h.link, h.loads, h.zero⟩

theorem modTrack {f : TrackTable → TrackTable} (h : TablesHold r s) : TablesHold r (s.modTrack f) :=
  ⟨h.articles, h.settings, h.mode, h.link, h.loads, h.zero⟩

theorem modMerge {f : MergeArbiter → MergeArbiter} (h : TablesHold r s) : TablesHold r (s.modMerge f) :=
  ⟨h.articles, h.settings, h.mode, h.link, h.loads, h.zero⟩

theorem modCheck {f : CheckStation → CheckStation} (h : TablesHold r s) : TablesHold r (s.modCheck f) :=
  ⟨h.articles, h.settings, h.mode, h.link, h.loads, h.zero⟩

theorem modWrap {f : WrapController → WrapController} (h : TablesHold r s) : TablesHold r (s.modWrap f) :=
  ⟨h.articles, h.settings, h.mode, h.link, h.loads, h.zero⟩

theorem modLabel {f : LabelController → LabelController} (h : TablesHold r s) : TablesHold r (s.modLabel f) :=
  ⟨h.articles, h.settings, h.mode, h.link, h.loads, h.zero⟩

theorem modBuffer {f : BufferController → BufferController} (h : TablesHold r s) : TablesHold r (s.modBuffer f) :=
  ⟨h.articles, h.settings, h.mode, h.link, h.loads, h.zero⟩

theorem modLane {l : Lane} {f : LaneEntry → LaneEntry} (h : TablesHold r s) : TablesHold r (s.modLane l f) :=
  ⟨h.articles, h.settings, h.mode, h.link, h.loads, h.zero⟩

theorem send {m : Message} (h : TablesHold r s) : TablesHold r (s.send m) :=
  ⟨h.articles, h.settings, h.mode, h.link, h.loads, h.zero⟩

theorem setReported {v : Vector StationState 6} (h : TablesHold r s) : TablesHold r { s with reported := v } :=
  ⟨h.articles, h.settings, h.mode, h.link, h.loads, h.zero⟩

/-- A change of the Mass Unit that leaves the zero offset. -/
theorem modMass {f : MassUnit → MassUnit} (h : TablesHold r s) (hf : (f s.mass).offset = s.mass.offset := by rfl) :
    TablesHold r (s.modMass f) :=
  ⟨h.articles, h.settings, h.mode, h.link, h.loads, fun i => by simpa [ZeroInv, hf] using h.zero i⟩

/-- A change of the reference tables. -/
theorem modPlan {f : PlanStore → PlanStore} (h : TablesHold r s) (ha : (f s.plan).articles = s.plan.articles)
    (hl : LoadsInv s → LoadsInv (s.modPlan f)) : TablesHold r (s.modPlan f) :=
  ⟨ha.trans h.articles, h.settings, h.mode, h.link, hl ∘ h.loads, h.zero⟩

theorem modPlace {p : Place} {f : PlaceEntry → PlaceEntry} (h : TablesHold r s) : TablesHold r (s.modPlace p f) := h.modField
theorem modZone {z : Zone} {f : ZoneEntry → ZoneEntry} (h : TablesHold r s) : TablesHold r (s.modZone z f) := h.modField
theorem modScanner {c : Scanner} {f : ScannerState → ScannerState} (h : TablesHold r s) : TablesHold r (s.modScanner c f) :=
  h.modTrack
theorem modWrapper {w : Side} {f : WrapperState → WrapperState} (h : TablesHold r s) : TablesHold r (s.modWrapper w f) :=
  h.modWrap
theorem setStaging {k : Side} {e : Option StagingEntry} (h : TablesHold r s) : TablesHold r (s.setStaging k e) := h.modWrap
theorem modRecord {n : Nat} {f : Record → Record} (h : TablesHold r s) : TablesHold r (s.modRecord n f) := h.modTrack
theorem setStage {n : Nat} {g : Stage} (h : TablesHold r s) : TablesHold r (s.setStage n g) := h.modRecord
theorem modMove {n : Nat} {f : Move → Move} (h : TablesHold r s) : TablesHold r (s.modMove n f) := h.modField
theorem removeMove {n : Nat} (h : TablesHold r s) : TablesHold r (s.removeMove n) := h.modField
theorem enterFault {n : Nat} {c : Code} (h : TablesHold r s) : TablesHold r (s.enterFault n c) := h.modRecord
theorem modCurrent {f : Check → Check} (h : TablesHold r s) : TablesHold r (s.modCurrent f) := h.modCheck

/-- A fold whose every step keeps the tables. -/
theorem foldl {α : Type} {f : State → α → State} (h : TablesHold r s)
    (hf : ∀ (u : State) (x : α), TablesHold r u → TablesHold r (f u x)) (l : List α) : TablesHold r (l.foldl f s) := by
  induction l generalizing s with
  | nil => exact h
  | cons x l ih => exact ih (hf _ x h)

/-- An optional result that keeps the tables, with the state itself when there is none. -/
theorem getD {o : Option State} (h : TablesHold r s) (ho : ∀ v, o = some v → TablesHold r v) : TablesHold r (o.getD s) := by
  cases o with
  | none => exact h
  | some v => exact ho v rfl

/-! ### Reports and counters (R197, R199) -/

theorem raise {k : ReportKind} {n : Note} (h : TablesHold r s) : TablesHold r (s.raise k n) := by
  have e : ∃ rs ov att, s.raise k n = s.modLink fun u => { u with reports := rs, overflow := ov, attention := att } :=
    s.raise_eq k n
  have hl : LinkInv s → LinkInv (s.raise k n) := fun ⟨hn, ha, hc⟩ =>
    ⟨s.raise_length k n hn, s.raise_attention k n ha, by obtain ⟨_, _, _, e⟩ := e; rw [e]; exact hc⟩
  obtain ⟨rs, ov, att, e⟩ := e
  rw [e] at hl ⊢
  exact h.modLink hl

theorem count {c : Counter} (h : TablesHold r s) : TablesHold r (s.count c) := by
  unfold State.count
  dsimp only
  have counted (b : Bool) (hc : (tget s.link.counters c.idx).count < 65535) : TablesHold r (s.modLink fun u =>
      { u with counters := tset u.counters c.idx ⟨(tget s.link.counters c.idx).count + 1, b⟩ }) :=
    h.modLink fun ⟨hn, ha, hi⟩ => ⟨hn, ha, fun i => by
      simp only [modLink_link, tget_tset]
      split
      · exact hc
      · exact hi i⟩
  split
  · split
    · exact (counted _ ‹_›).raise
    · exact counted _ ‹_›
  · exact h

/-! ### Loads and slots (chapter 1) -/

end TablesHold

/-- A change of a load that keeps its bounds: its id, planned count, height limit and tags stay, its slots keep their masses,
base kinds and recipes, and its lane stays, present when it is BOUND and absent when it is STORED. -/
structure LoadKept (l l' : Load) : Prop where
  id : l'.id = l.id
  planned : l'.planned = l.planned
  height : l'.heightLimit = l.heightLimit
  lane : l'.lane = l.lane
  status : l'.status = l.status ∨ l'.status = .complete
  tags : l'.slots.map (·.tag) = l.slots.map (·.tag)
  slots : ∀ x ∈ l'.slots, ∃ y ∈ l.slots, x.gross = y.gross ∧ x.base = y.base ∧ x.recipe = y.recipe

theorem LoadKept.refl (l : Load) : LoadKept l l := ⟨rfl, rfl, rfl, rfl, .inl rfl, rfl, fun x hx => ⟨x, hx, rfl, rfl, rfl⟩⟩

/-- The bounds of the loads are kept by a change of every load that keeps its bounds. -/
theorem loadsInv_map {f : Load → Load} (hf : ∀ l, LoadKept l (f l)) (h : LoadsInv s)
    (e : t.plan.loads = s.plan.loads.map f) : LoadsInv t := by
  obtain ⟨hn, hi, hl, ht, hb⟩ := h
  have hid : (fun l : Load => l.id) ∘ f = fun l => l.id := funext fun l => (hf l).id
  refine ⟨by simpa [e] using hn, by simpa [e, hid] using hi, by simpa [e, List.filterMap_map, Function.comp_def, (hf _).lane] using hl,
    by simpa [e, List.flatMap_map, Function.comp_def, (hf _).tags] using ht, ?_⟩
  intro l' hl'
  rw [e] at hl'
  obtain ⟨l, hm, rfl⟩ := List.mem_map.mp hl'
  obtain ⟨h1, h2, h3, h4, h5, h6, h7, h8, h9, h10⟩ := hb l hm
  have k := hf l
  have hlen : (f l).slots.length = l.slots.length := by simpa using congrArg List.length k.tags
  refine ⟨by simpa [k.id] using h1, by simpa [k.id] using h2, by simpa [k.planned] using h3, by simpa [k.planned] using h4,
    by simpa [hlen, k.planned] using h5, by simpa [k.height] using h6, by simpa [k.height] using h7, ?_, ?_, ?_⟩
  · rw [k.lane]
    rcases k.status with e | e <;> rw [e]
    · exact h8
    · simp
  · rw [k.lane]
    rcases k.status with e | e <;> rw [e]
    · exact h9
    · simp
  · intro x hx
    obtain ⟨y, hy, e1, e2, e3⟩ := k.slots x hx
    rw [e1, e2, e3]
    exact h10 y hy

/-- A change of a slot that touches neither its tag, its masses, its base kind nor its recipe. -/
def SlotKept (f : Slot → Slot) : Prop :=
  ∀ x, (f x).tag = x.tag ∧ (f x).gross = x.gross ∧ (f x).base = x.base ∧ (f x).recipe = x.recipe

theorem loadKept_modify {f : Slot → Slot} (hf : SlotKept f) (l : Load) (i : Nat) :
    LoadKept l { l with slots := l.slots.modify i f } := by
  refine ⟨rfl, rfl, rfl, rfl, .inl rfl, ?_, ?_⟩
  · apply List.ext_getElem (by simp)
    intro j _ _
    simp only [List.getElem_map, List.getElem_modify]
    split
    · exact (hf _).1
    · rfl
  · intro x hx
    obtain ⟨j, hj, rfl⟩ := List.mem_iff_getElem.mp hx
    have hj' : j < l.slots.length := by simpa using hj
    refine ⟨l.slots[j], List.getElem_mem hj', ?_⟩
    simp only [List.getElem_modify]
    split
    · exact (hf _).2
    · exact ⟨rfl, rfl, rfl⟩

namespace TablesHold

/-- A change of one load that keeps its bounds. -/
theorem modLoad {id : Nat} {f : Load → Load} (h : TablesHold r s) (hf : ∀ l, LoadKept l (f l)) :
    TablesHold r (s.modLoad id f) := by
  refine h.modPlan rfl fun i => loadsInv_map (f := fun l => if l.id == id then f l else l) ?_ i rfl
  intro l
  split
  · exact hf l
  · exact .refl l

theorem modSlot {ref : LoadRef} {f : Slot → Slot} (h : TablesHold r s)
    (hf : SlotKept f := by exact fun _ => ⟨rfl, rfl, rfl, rfl⟩) : TablesHold r (s.modSlot ref f) := by
  refine h.modLoad fun l => ?_
  split
  · exact .refl l
  · exact loadKept_modify hf l _

theorem testComplete {id : Nat} (h : TablesHold r s) : TablesHold r (s.testComplete id) := by
  unfold State.testComplete
  split
  · split
    · exact (h.modLoad (f := fun l => { l with status := .complete }) fun l =>
        ⟨rfl, rfl, rfl, rfl, .inr rfl, rfl, fun x hx => ⟨x, hx, rfl, rfl, rfl⟩⟩).raise
    · exact h
  · exact h

theorem claim {d : Text} {n : Nat} (h : TablesHold r s) : TablesHold r (s.claim d n).1 := by
  obtain ⟨_, _, -, -, -, e⟩ | ⟨_, _, -, -, -, e⟩ | ⟨-, e⟩ := s.claim_cases d n <;> rw [e]
  · exact h.modSlot
  · exact h
  · exact h

theorem reject {n : Nat} {c : Code} (h : TablesHold r s) : TablesHold r (s.reject n c) := by
  unfold State.reject
  split
  · exact (h.modSlot.modRecord).raise
  · exact h.raise

/-! ### Captures, places and reads -/

theorem closeCapture (h : TablesHold r s) : TablesHold r s.closeCapture := by
  unfold State.closeCapture
  split
  · exact (h.modMass).send
  · exact h

theorem failZero {d : Nat} {v : Option Int} (h : TablesHold r s) : TablesHold r (s.failZero d v) :=
  (h.closeCapture.modMass).raise

theorem markUnknown {p : Place} {v : Int} (h : TablesHold r s) : TablesHold r (s.markUnknown p v) := by
  unfold State.markUnknown
  dsimp only
  split
  · exact h.modPlace.raise.failZero
  · exact h.modPlace.raise

theorem vacate {p : Place} {v : Int} (h : TablesHold r s) : TablesHold r (s.vacate p v) := by
  unfold State.vacate
  split
  · exact h.markUnknown
  · exact h.modPlace

theorem leaveOccupants {p : Place} {n : Nat} (h : TablesHold r s) : TablesHold r (s.leaveOccupants p n) := h.modPlace
theorem leaveIncoming {p : Place} {n : Nat} (h : TablesHold r s) : TablesHold r (s.leaveIncoming p n) := h.modPlace
theorem checkLeft (h : TablesHold r s) : TablesHold r s.checkLeft := h.modCheck

theorem askMove {n : Nat} {p : Place} (h : TablesHold r s) (e : s.askMove n p = some t) : TablesHold r t :=
  h.keeps ((keeps_askMove (by decide) e).mpr keeps_refl)

theorem sendRead {c : Scanner} (h : TablesHold r s) : TablesHold r (s.sendRead c) :=
  h.keeps ((keeps_sendRead (by decide)).mpr keeps_refl)

theorem askRead {c : Scanner} {rd : Read} (h : TablesHold r s) : TablesHold r (s.askRead c rd) := h.modScanner.sendRead
theorem endReads {c : Scanner} {n : Nat} (h : TablesHold r s) : TablesHold r (s.endReads c n) := h.modScanner

end TablesHold

end Sys2Proof.Machine
end

section
/-! SUPPORT. The operations of the blocks, in the order of their chapters, each of which keeps the tables. -/

namespace Sys2Proof.Machine

open State

variable {r s t : State}

namespace TablesHold

/-! ### Derived signals -/

theorem settleStation {st : Station} (h : TablesHold r s) : TablesHold r (s.settleStation st) := by
  unfold State.settleStation
  dsimp only
  split
  · exact h
  · exact h.setReported.raise

theorem settleStations (h : TablesHold r s) : TablesHold r s.settleStations := h.foldl (fun _ _ k => k.settleStation) _

theorem settleLane {l : Lane} (h : TablesHold r s) : TablesHold r (s.settleLane l) := by
  unfold State.settleLane
  dsimp only
  split
  · exact h
  · exact h.modLane.raise

theorem settleDeadlock (h : TablesHold r s) : TablesHold r s.settleDeadlock := by
  unfold State.settleDeadlock
  split
  · split
    · exact h
    · exact h.modBuffer.raise
  · split
    · exact h.modBuffer
    · exact h

theorem settleOutputs (h : TablesHold r s) : TablesHold r s.settleOutputs :=
  h.keeps ((keeps_settleOutputs (by decide)).mpr keeps_refl)

theorem settle (h : TablesHold r s) : TablesHold r s.settle := by
  have hs : TablesHold r s.settleGrant.settleRequests :=
    h.keeps ((keeps_settleRequests (by decide)).mpr ((keeps_settleGrant (by decide)).mpr keeps_refl))
  have hl : TablesHold r s.settleGrant.settleRequests.settleStations.settleLanes :=
    hs.settleStations.foldl (fun _ _ k => k.settleLane) _
  exact (hl.settleDeadlock.keeps ((keeps_settlePrint (by decide)).mpr keeps_refl)).settleOutputs

theorem settleSilently (h : TablesHold r s) : TablesHold r s.settleSilently :=
  h.keeps ((keeps_settleSilently (by decide)).mpr keeps_refl)

/-! ### Matching (R59 to R63) -/

theorem reportMatch {n o c : Nat} (h : TablesHold r s) : TablesHold r (s.reportMatch n o c) := h.raise
theorem markUnplanned {n o : Nat} (h : TablesHold r s) : TablesHold r (s.markUnplanned n o) := h.modRecord.reportMatch

theorem matchTag {n o : Nat} {d : Text} (h : TablesHold r s) : TablesHold r (s.matchTag n d o).1 := by
  have hc := h.claim (d := d) (n := n)
  unfold State.matchTag
  split <;> rename_i e <;> rw [e] at hc
  · exact hc.modRecord.reportMatch
  · exact hc.modRecord.reportMatch
  · exact hc

theorem testReady {n : Nat} (h : TablesHold r s) : TablesHold r (s.testReady n) :=
  h.keeps ((keeps_testReady (by decide)).mpr keeps_refl)

theorem endDeferral {n : Nat} (h : TablesHold r s) : TablesHold r (s.endDeferral n) := h.modRecord.testReady

theorem offer {d : Text} (h : TablesHold r s) : TablesHold r (s.offer d) := h.foldl (fun _ _ k => k.matchTag.endDeferral) _

/-! ### Mass and check (chapters 4 and 5) -/

theorem openCapture {p : CaptureFor} (h : TablesHold r s) : TablesHold r (s.openCapture p) := h.modMass.send

/-- The zero offset that a zero capture takes lies within its bounds (R107). -/
theorem zeroMean {m : Int} (h : TablesHold r s) : TablesHold r (s.zeroMean m) := by
  unfold State.zeroMean
  split
  · rename_i hm
    have k := h.closeCapture
    exact raise ⟨k.articles, k.settings, k.mode, k.link, k.loads, fun _ => hm⟩
  · exact h.failZero

theorem askOut {n : Nat} {b : Bool} (h : TablesHold r s) (e : s.askOut n b = some t) : TablesHold r t :=
  h.keeps ((keeps_askOut (by decide) e).mpr keeps_refl)

theorem route {n : Nat} {b : Bool} (h : TablesHold r s) : TablesHold r (s.route n b) :=
  h.keeps ((keeps_route (by decide)).mpr keeps_refl)

theorem failCheck {n : Nat} {c : Code} (h : TablesHold r s) : TablesHold r (s.failCheck n c) := h.setStage.reject.route

theorem countVerdict {c : Check} {mv : Option (Code × Int × Nat)} (h : TablesHold r s) :
    TablesHold r (s.countVerdict c mv) := by
  have unstable {u : State} (k : TablesHold r u) :
      TablesHold r (if c.mass == .failed .unstable then u.count .unstable else u) := by
    split
    · exact k.count
    · exact k
  unfold State.countVerdict
  split
  · exact unstable h.count
  · exact unstable h.count
  · exact unstable h.count
  · exact unstable h

theorem conclude {n : Nat} {l : List Code} {c : Code} {d : Option Int} (h : TablesHold r s) :
    TablesHold r (s.conclude n l c d) := by
  unfold State.conclude
  dsimp only
  split
  · exact h.modRecord.raise.route
  · exact h.modRecord.raise.failCheck

theorem giveVerdict (h : TablesHold r s) : TablesHold r s.giveVerdict := by
  unfold State.giveVerdict
  split
  · exact h
  · dsimp only
    split
    · exact h.closeCapture.endReads.checkLeft
    · exact h.closeCapture.endReads.modRecord.countVerdict.conclude

theorem testVerdict (h : TablesHold r s) : TablesHold r s.testVerdict := by
  unfold State.testVerdict
  split
  · exact h
  · split
    · exact h.giveVerdict
    · exact h

theorem beginCheck {k : Record} (h : TablesHold r s) : TablesHold r (s.beginCheck k) := by
  unfold State.beginCheck
  dsimp only
  split
  · exact h.modCheck.openCapture.send.askRead
  · exact h.modCheck.openCapture.send

theorem startCheck {n : Nat} (h : TablesHold r s) : TablesHold r (s.startCheck n) := by
  unfold State.startCheck
  split
  · exact h
  · split
    · exact h.conclude
    · exact h.conclude
    · exact h.beginCheck

theorem reachCheck {n : Nat} (h : TablesHold r s) : TablesHold r (s.reachCheck n) := by
  unfold State.reachCheck
  split
  · exact h.modCheck
  · exact h.startCheck

theorem abandonCheck {n : Nat} (h : TablesHold r s) : TablesHold r (s.abandonCheck n) := by
  unfold State.abandonCheck
  dsimp only
  split
  · split
    · exact h.closeCapture.modCheck.endReads.modCheck.setReported
    · exact h.endReads.modCheck.setReported
  · exact h.endReads.modCheck.setReported

theorem checkTag {n : Nat} {d : Option Text} (h : TablesHold r s) : TablesHold r (s.checkTag n d) := by
  unfold State.checkTag
  split
  · exact h
  · split
    · exact h
    · split
      · exact h.modCurrent.testVerdict
      · rename_i d
        have k := (h.modRecord (n := n) (f := fun r => { r with tag := some d })).matchTag (n := n) (d := d) (o := 2)
        split <;> rename_i e <;> rw [e] at k
        · exact k.modCurrent.testVerdict
        · exact k.modCurrent.testVerdict
        · exact k.markUnplanned.modCurrent.testVerdict

theorem checkMean {n : Nat} {m : Int} (h : TablesHold r s) : TablesHold r (s.checkMean n m) :=
  h.closeCapture.modRecord.modCurrent.testVerdict

theorem overload {c : Capture} (h : TablesHold r s) : TablesHold r (s.overload c) := by
  unfold State.overload
  split
  · exact h.failZero
  · exact h.closeCapture.modCurrent.testVerdict

theorem enterReading {c : Capture} {g : Int} (h : TablesHold r s) : TablesHold r (s.enterReading c g) := by
  unfold State.enterReading
  dsimp only
  split
  · split
    · exact h.zeroMean
    · exact h.checkMean
  · exact h.modMass

/-! ### The merge -/

theorem commandSwitch {i : Infeed} {p : SwitchPurpose} (h : TablesHold r s) : TablesHold r (s.commandSwitch i p) :=
  h.keeps ((keeps_commandSwitch (by decide)).mpr keeps_refl)

theorem pursueGrant (h : TablesHold r s) : TablesHold r s.pursueGrant := h.keeps ((keeps_pursueGrant (by decide)).mpr keeps_refl)

theorem gateInput {i : Infeed} {b : Bool} (h : TablesHold r s) : TablesHold r (s.gateInput i b) :=
  h.keeps ((keeps_gateInput (by decide)).mpr keeps_refl)

/-! ### Wrapping (chapter 6) -/

theorem enterStaging {n : Nat} {k : Side} (h : TablesHold r s) : TablesHold r (s.enterStaging n k) := h.setStage.setStaging.raise

theorem assign {n : Nat} {w : Side} {rc : Recipe} (h : TablesHold r s) : TablesHold r (s.assign n w rc) :=
  h.keeps ((keeps_assign (by decide)).mpr keeps_refl)

theorem sendOrder {w : Side} (h : TablesHold r s) : TablesHold r (s.sendOrder w) :=
  h.keeps ((keeps_sendOrder (by decide)).mpr keeps_refl)

theorem orderWrapper {w : Side} (h : TablesHold r s) : TablesHold r (s.orderWrapper w) :=
  h.keeps ((keeps_orderWrapper (by decide)).mpr keeps_refl)

theorem reachWrapper {w : Side} (h : TablesHold r s) : TablesHold r (s.reachWrapper w) :=
  h.keeps ((keeps_reachWrapper (by decide)).mpr keeps_refl)

theorem joinLabelOrder {n : Nat} {w : Side} {b : Bool} (h : TablesHold r s) : TablesHold r (s.joinLabelOrder n w b) :=
  h.modWrap.setStage

theorem failWrap {n : Nat} {w : Side} {c : Option Code} (h : TablesHold r s) : TablesHold r (s.failWrap n w c) := by
  unfold State.failWrap
  cases c with
  | none => exact h.modRecord.reject.joinLabelOrder
  | some c => exact h.modRecord.enterFault.reject.count.joinLabelOrder

theorem endWrap {w : Side} {n : Nat} {o : Order} {f : Nat} (h : TablesHold r s) : TablesHold r (s.endWrap w n o f) := by
  have k : TablesHold r (s.footprint n).1 := h.keeps ((keeps_footprint (by decide)).mpr keeps_refl)
  unfold State.endWrap
  split
  rename_i e
  rw [e] at k
  dsimp only
  split
  · exact k.modRecord.failWrap.raise.modWrapper
  · exact k.modRecord.raise.modWrapper.joinLabelOrder

theorem faultWrapper {w : Side} {n : Nat} {c : Code} (h : TablesHold r s) : TablesHold r (s.faultWrapper w n c) :=
  h.modWrapper.modRecord.enterFault.count.raise

theorem lateOrder {w : Side} {n : Nat} (h : TablesHold r s) : TablesHold r (s.lateOrder w n) := h.raise
theorem lateWrap {w : Side} {n : Nat} {v : Option Int} (h : TablesHold r s) : TablesHold r (s.lateWrap w n v) := h.raise
theorem leaveWrapper {w : Side} (h : TablesHold r s) : TablesHold r (s.leaveWrapper w) := h.modWrapper
theorem idleWrapper {w : Side} (h : TablesHold r s) : TablesHold r (s.idleWrapper w) := h.modWrapper
theorem occupyWrapper {w : Side} (h : TablesHold r s) : TablesHold r (s.occupyWrapper w) := h.modWrapper

theorem resumeWrapper {w : Side} (h : TablesHold r s) : TablesHold r (s.resumeWrapper w) := by
  unfold State.resumeWrapper
  dsimp only
  split
  · exact h.occupyWrapper.send
  · split
    · exact h.idleWrapper
    · split
      · split
        · exact h.occupyWrapper
        · split
          · exact h.orderWrapper
          · exact h.occupyWrapper.settleStations.failWrap
      · split
        · exact h.orderWrapper
        · exact h.idleWrapper
  · exact h

theorem dropFromWrap {n : Nat} (h : TablesHold r s) : TablesHold r (s.dropFromWrap n) :=
  h.keeps ((keeps_dropFromWrap (by decide)).mpr keeps_refl)

/-! ### Labelling (chapter 7) -/

theorem makePurgePending (h : TablesHold r s) : TablesHold r s.makePurgePending := h.modLabel
theorem setJob {j : Job} {st : JobState} (h : TablesHold r s) : TablesHold r (s.setJob j st) := h.modLabel
theorem sendJob {k : Record} (h : TablesHold r s) : TablesHold r (s.sendJob k) := h.modRecord.modLabel.send
theorem waitForPrint (h : TablesHold r s) : TablesHold r s.waitForPrint := h.modLabel

theorem passOn {n : Nat} (h : TablesHold r s) : TablesHold r (s.passOn n) :=
  h.keeps ((keeps_passOn (by decide)).mpr keeps_refl)

theorem beginLabelWork (h : TablesHold r s) : TablesHold r s.beginLabelWork := by
  unfold State.beginLabelWork
  split
  · exact h
  · split
    · exact h.setStage.raise.passOn
    · exact h.waitForPrint

theorem reachLabel (h : TablesHold r s) : TablesHold r s.reachLabel := by
  unfold State.reachLabel
  split
  · exact h.modLabel
  · exact h.beginLabelWork

theorem labelOk {n : Nat} (h : TablesHold r s) : TablesHold r (s.labelOk n) := by
  unfold State.labelOk
  dsimp only
  split
  · exact h.modSlot.setStage.modLabel.raise.modBuffer
  · exact h.setStage.modLabel.raise.modBuffer

theorem failLabel {n : Nat} (h : TablesHold r s) : TablesHold r (s.failLabel n) := h.modRecord.reject.count.setStage.passOn

theorem leaveLabel {n : Nat} (h : TablesHold r s) : TablesHold r (s.leaveLabel n) :=
  h.keeps ((keeps_leaveLabel (by decide)).mpr keeps_refl)

theorem endVerify {n : Nat} (h : TablesHold r s) : TablesHold r (s.endVerify n) := by
  unfold State.endVerify
  split
  · exact h.labelOk
  · rename_i c rest _
    have k := h.foldl (f := fun s c => s.enterFault n c) (fun _ _ k => k.enterFault) (c :: rest)
    dsimp only
    split
    · exact k.raise.waitForPrint.makePurgePending
    · exact k.raise.failLabel

theorem faceAnswer {n : Nat} {f : Face} {x : FaceResult} (h : TablesHold r s) : TablesHold r (s.faceAnswer n f x) := by
  have ended {u : State} (k : TablesHold r u) : TablesHold r
      (if u.label.condition == .verifying && u.label.faceA != .pending && u.label.faceB != .pending then u.endVerify n else u) := by
    split
    · exact k.endVerify
    · exact k
  exact ended h.modLabel

theorem faultLabel {c : LabelCause} {n : Option Nat} (h : TablesHold r s) : TablesHold r (s.faultLabel c n) := by
  unfold State.faultLabel
  dsimp only
  split
  · exact h.modLabel.enterFault.settleStations.raise
  · exact h.modLabel.settleStations.raise

theorem lateJob {n : Nat} (h : TablesHold r s) : TablesHold r (s.lateJob n) := h.raise

theorem resumeLabelWork {c : LabelCause} (h : TablesHold r s) : TablesHold r (s.resumeLabelWork c) := by
  unfold State.resumeLabelWork
  split
  · exact h.makePurgePending
  · dsimp only
    split
    · exact h.makePurgePending
    · split
      · exact h.makePurgePending.waitForPrint
      · exact h.makePurgePending.failLabel
  · exact h

theorem resumeLabel (h : TablesHold r s) : TablesHold r s.resumeLabel := by
  unfold State.resumeLabel
  split
  · exact h
  · dsimp only
    split
    · exact h.modLabel.settleStations.resumeLabelWork.beginLabelWork
    · exact h.modLabel.settleStations.resumeLabelWork

theorem dropFromLabel {n : Nat} (h : TablesHold r s) : TablesHold r (s.dropFromLabel n) :=
  h.keeps ((keeps_dropFromLabel (by decide)).mpr keeps_refl)

/-! ### The buffer and the shuttle (chapter 8) -/

theorem giveTask {n : Nat} {f : TaskFor} (h : TablesHold r s) : TablesHold r (s.giveTask n f) :=
  h.keeps ((keeps_giveTask (by decide)).mpr keeps_refl)

theorem decideDelivery (h : TablesHold r s) : TablesHold r s.decideDelivery :=
  h.keeps ((keeps_decideDelivery (by decide)).mpr keeps_refl)

theorem pickedUp {n : Nat} (h : TablesHold r s) : TablesHold r (s.pickedUp n) :=
  h.keeps ((keeps_pickedUp (by decide)).mpr keeps_refl)

theorem storeCompleted {n : Nat} {p : Position} (h : TablesHold r s) : TablesHold r (s.storeCompleted n p) :=
  h.modBuffer.setStage.raise

theorem dropFromBuffer {n : Nat} (h : TablesHold r s) : TablesHold r (s.dropFromBuffer n) := h.modBuffer

theorem resumeShuttle (h : TablesHold r s) : TablesHold r s.resumeShuttle :=
  h.keeps ((keeps_resumeShuttle (by decide)).mpr keeps_refl)

/-! ### Records (chapter 3) -/

theorem tellSlot {ref : LoadRef} {d : Deletion} (h : TablesHold r s) : TablesHold r (s.tellSlot ref d) := by
  cases d with
  | dispatched => exact h.modSlot.testComplete
  | spurEnd => exact h
  | removed => exact h.modSlot

theorem dropMove {n : Nat} (h : TablesHold r s) : TablesHold r (s.dropMove n) := by
  unfold State.dropMove
  split
  · exact h
  · dsimp only
    split
    · exact h.removeMove.leaveIncoming.vacate
    · exact h.removeMove.leaveIncoming

theorem leaveLocation {n : Nat} {p : Place} (h : TablesHold r s) : TablesHold r (s.leaveLocation n p) := by
  unfold State.leaveLocation
  split
  · dsimp only
    split
    · exact h.leaveOccupants
    · split
      · exact h.leaveOccupants.vacate
      · exact h.leaveOccupants
  · exact h

theorem deleteRecord {n : Nat} {d : Deletion} (h : TablesHold r s) : TablesHold r (s.deleteRecord n d) := by
  have dropped {u : State} (k : TablesHold r u) : TablesHold r ((allScanners.foldl (fun s sc => s.endReads sc n)
      (((u.dropFromWrap n).dropFromLabel n).dropFromBuffer n)).modTrack fun t =>
        { t with records := t.records.filter fun r => r.number != n }) :=
    (k.dropFromWrap.dropFromLabel.dropFromBuffer.foldl (fun _ _ k => k.endReads) _).modTrack
  unfold State.deleteRecord
  split
  · exact h
  · rename_i k _
    have told : TablesHold r (match k.ref with | some ref => s.tellSlot ref d | none => s) := by
      split
      · exact h.tellSlot
      · exact h
    dsimp only
    split
    · exact dropped told.dropMove.leaveLocation.abandonCheck
    · exact dropped told.dropMove.leaveLocation

theorem createRecord {i : Infeed} (h : TablesHold r s) : TablesHold r (s.createRecord i) := by
  unfold State.createRecord State.setTaken
  exact h.modTrack.modField.modPlace.raise.askRead

theorem arrive {i : Infeed} (h : TablesHold r s) : TablesHold r (s.arrive i) := by
  unfold State.arrive
  split
  · split
    · exact h.raise
    · exact h.createRecord
  · exact h

theorem watch {i : Infeed} (h : TablesHold r s) : TablesHold r (s.watch i) := by
  unfold State.watch
  split
  · exact h.arrive
  · exact h

theorem watchAll (h : TablesHold r s) : TablesHold r s.watchAll := h.foldl (fun _ _ k => k.watch) _

theorem reachHead {i : Infeed} (h : TablesHold r s) : TablesHold r (s.reachHead i) :=
  h.keeps ((keeps_reachHead (by decide)).mpr keeps_refl)

theorem startWake {i : Infeed} (h : TablesHold r s) : TablesHold r (s.startWake i) :=
  h.keeps ((keeps_startWake (by decide)).mpr keeps_refl)

theorem startWakes (h : TablesHold r s) : TablesHold r s.startWakes := h.foldl (fun _ _ k => k.startWake) _
theorem stopWake {i : Infeed} (h : TablesHold r s) : TablesHold r (s.stopWake i) := h.modField
theorem stopWakes (h : TablesHold r s) : TablesHold r s.stopWakes := h.modField

theorem beginDeferral {n : Nat} (h : TablesHold r s) : TablesHold r (s.beginDeferral n) := by
  unfold State.beginDeferral
  dsimp only
  split
  · exact h.modRecord.raise
  · exact h

theorem entryAnswer {n : Nat} {d : Option Text} (h : TablesHold r s) : TablesHold r (s.entryAnswer n d) := by
  unfold State.entryAnswer
  split
  · dsimp only
    split
    · exact h.count.reportMatch.testReady
    · exact h.reportMatch.testReady
  · rename_i d
    have k := (h.modRecord (n := n) (f := fun r => { r with tag := some d })).matchTag (n := n) (d := d) (o := 1)
    split <;> rename_i e <;> rw [e] at k
    · split
      · exact k.markUnplanned.testReady
      · exact k.beginDeferral
    · exact k.testReady

theorem applyRead {rd : Read} {d : Option Text} (h : TablesHold r s) : TablesHold r (s.applyRead rd d) := by
  unfold State.applyRead
  split
  · exact h.entryAnswer
  · exact h.checkTag
  · exact h.faceAnswer

theorem endRead {c : Scanner} {rd : Read} {d : Option Text} (h : TablesHold r s) : TablesHold r (s.endRead c rd d) :=
  h.modScanner.applyRead.sendRead

theorem closeEnded {c : Scanner} (h : TablesHold r s) : TablesHold r (s.closeEnded c) := h.modScanner.sendRead

theorem lateAnswer {c : Scanner} (h : TablesHold r s) : TablesHold r (s.lateAnswer c) := by
  unfold State.lateAnswer
  dsimp only
  split
  · exact h.raise.closeEnded
  · exact h.raise

theorem setEnabled {i : Infeed} {b : Bool} (h : TablesHold r s) : TablesHold r (s.setEnabled i b) := by
  unfold State.setEnabled
  split
  · exact h
  · dsimp only
    split
    · exact h.modTrack.watch.startWake
    · exact h.modTrack.stopWake

/-! ### Moves, inputs and zones (chapter 2) -/

theorem leftPlace {n : Nat} {p : Place} (h : TablesHold r s) : TablesHold r (s.leftPlace n p) :=
  h.keeps ((keeps_leftPlace (by decide)).mpr keeps_refl)

theorem dispatch {n : Nat} {l : Lane} (h : TablesHold r s) : TablesHold r (s.dispatch n l) := h.modLane.deleteRecord.raise

theorem reachedPlace {n : Nat} {p : Place} (h : TablesHold r s) : TablesHold r (s.reachedPlace n p) := by
  cases p with
  | infeed i => exact h
  | check => exact h.reachCheck
  | staging k => exact h.enterStaging
  | wrapper w => exact h.reachWrapper
  | label => exact h.reachLabel
  | shuttle => exact h.pickedUp
  | position p => exact h.storeCompleted
  | spur sp => exact h
  | lane l => exact h.dispatch

theorem joinDest {m : Move} (h : TablesHold r s) : TablesHold r (s.joinDest m) := h.modRecord.modPlace.removeMove

theorem leaveSource {m : Move} (h : TablesHold r s) : TablesHold r (s.leaveSource m) :=
  h.keeps ((keeps_leaveSource (by decide)).mpr keeps_refl)

theorem completeMove {m : Move} (h : TablesHold r s) : TablesHold r (s.completeMove m) :=
  h.leaveSource.joinDest.leftPlace.reachedPlace

theorem completeLate {m : Move} (h : TablesHold r s) : TablesHold r (s.completeLate m) := h.modRecord.joinDest.reachedPlace.raise

theorem completion {p : Place} (h : TablesHold r s) (e : s.completion p = some t) : TablesHold r t := by
  unfold State.completion at e
  split at e
  · injection e with e
    subst e
    split
    · exact h.completeMove
    · exact h.completeLate
  · cases e

theorem coverWatch {p : Place} (h : TablesHold r s) : TablesHold r (s.coverWatch p) := by
  unfold State.coverWatch
  split
  · exact h.markUnknown
  · exact h

theorem clearWatch {p : Place} (h : TablesHold r s) : TablesHold r (s.clearWatch p) := by
  unfold State.clearWatch
  dsimp only
  split
  · exact h
  · split
    · exact h.modPlace
    · split
      · exact h.markUnknown
      · exact h

theorem arrivalSensor {p : Place} {b : Bool} (h : TablesHold r s) : TablesHold r (s.arrivalSensor p b) := by
  unfold State.arrivalSensor
  split
  · exact h.coverWatch.getD fun _ e => h.completion e
  · exact h.clearWatch

theorem exitSensor {p : Place} {b : Bool} (h : TablesHold r s) : TablesHold r (s.exitSensor p b) := by
  unfold State.exitSensor
  split
  · exact h.coverWatch
  · exact h.clearWatch

theorem spurRemoval {sp : Spur} (h : TablesHold r s) : TablesHold r (s.spurRemoval sp) := by
  unfold State.spurRemoval
  split
  · exact h.deleteRecord.raise
  · exact h

theorem laneRemoval {l : Lane} (h : TablesHold r s) : TablesHold r (s.laneRemoval l) :=
  h.keeps ((keeps_laneRemoval (by decide)).mpr keeps_refl)

theorem purgeWatch (h : TablesHold r s) : TablesHold r s.purgeWatch := h.keeps ((keeps_purgeWatch (by decide)).mpr keeps_refl)

theorem setTaken {i : Infeed} {b : Bool} (h : TablesHold r s) : TablesHold r (s.setTaken i b) := h.modField

theorem entrySensor {i : Infeed} {b : Bool} (h : TablesHold r s) : TablesHold r (s.entrySensor i b) := by
  unfold State.entrySensor
  split
  · exact h.arrive.startWake
  · exact h.setTaken.stopWake

/-- The sensor that completes moves into a spur or a lane changes. -/
theorem completed {p : Place} {b : Bool} (h : TablesHold r s) : TablesHold r (if b then (s.completion p).getD s else s) := by
  split
  · exact h.getD fun _ e => h.completion e
  · exact h

theorem handOn {i : Input} {b : Bool} (h : TablesHold r s) : TablesHold r (s.handOn i b) := by
  cases i with
  | entry i => exact h.entrySensor
  | head i => simp only [State.handOn]; split; exacts [h.reachHead, h]
  | gateAt i => exact h.gateInput
  | checkArrival => exact h.arrivalSensor
  | checkExit => exact h.exitSensor
  | staging k => exact h.arrivalSensor
  | wrapper k => exact h.arrivalSensor
  | labelArrival => exact h.arrivalSensor
  | labelExit => exact h.exitSensor
  | shuttleLoaded => exact h.arrivalSensor
  | position p => exact h.arrivalSensor
  | spurEntry sp => exact h.completed
  | spurEnd sp => simp only [State.handOn]; split; exacts [h, h.spurRemoval]
  | laneEntry l => exact h.completed
  | laneEnd l => simp only [State.handOn]; split; exacts [h, h.laneRemoval]
  | laneDoor l => exact h
  | op1 => exact h.purgeWatch
  | op2 => exact h.purgeWatch
  | key => exact h.purgeWatch

theorem setTiming {i : Input} {x : Option Nat} (h : TablesHold r s) : TablesHold r (s.setTiming i x) := h.modField
theorem filtered {i : Input} {b : Bool} (h : TablesHold r s) : TablesHold r (s.filtered i b) := h.setTiming.modField.handOn

theorem startedMove {n : Nat} {p p' : Place} (h : TablesHold r s) : TablesHold r (s.startedMove n p p') := by
  unfold State.startedMove
  split
  · exact h.modRecord
  · exact h.setStage.setStaging.raise
  · exact h.setStage.modWrap.modLabel.raise
  · split
    · split
      · exact h.setStage
      · exact h
    · exact h
  · exact h

theorem startMove {m : Move} (h : TablesHold r s) : TablesHold r (s.startMove m) := by
  have k (b : Bool) (l : Nat) : TablesHold r
      ((s.modMove m.track fun k => { k with state := .inFlight, left := l, limit := l, doubled := b }).setDiverter m) := by
    unfold State.setDiverter
    split
    · exact h.modMove.modField
    · exact h.modMove
  exact (k _ _).startedMove

theorem faultStation {m : Move} (h : TablesHold r s) : TablesHold r (s.faultStation m) :=
  h.keeps ((keeps_faultStation (by decide)).mpr keeps_refl)

theorem loseSource {m : Move} (h : TablesHold r s) : TablesHold r (s.loseSource m) := by
  unfold State.loseSource
  dsimp only
  split
  · exact h.leaveOccupants.vacate
  · exact h.leaveOccupants

theorem loseMove {m : Move} (h : TablesHold r s) : TablesHold r (s.loseMove m) := by
  unfold State.loseMove
  exact h.modMove.modRecord.loseSource.leftPlace.faultStation.settleStations.raise.count

theorem setZone {z : Zone} {g : ZoneState} {n : Nat} {v : Option Int} (h : TablesHold r s) : TablesHold r (s.setZone z g n v) := by
  unfold State.setZone
  dsimp only
  split
  · exact h.modZone
  · split
    · exact raise (modField h.modZone)
    · exact h.modZone.raise

theorem readZone {b : Bool} {z : Zone} (h : TablesHold r s) : TablesHold r (s.readZone b z) := by
  have k : TablesHold r (if (s.zone z).state == .normal then s.modZone z fun e => { e with latch := false } else s) := by
    split
    · exact h.modZone
    · exact h
  have released {u : State} (k : TablesHold r u) :
      TablesHold r (if b && (u.zone z).state == .stalled then u.setZone z .degraded 0 none else u) := by
    split
    · exact k.setZone
    · exact k
  exact released k

/-! ### Halts, resets and stations (chapters 4 and 9) -/

theorem sendAll {m : Port → Message} (h : TablesHold r s) : TablesHold r (s.sendAll m) := h.send.send.send
theorem emptyWindow (h : TablesHold r s) : TablesHold r s.emptyWindow := h.modMass
theorem anchorTimes (h : TablesHold r s) : TablesHold r s.anchorTimes := by
  unfold State.anchorTimes
  exact modMerge (modTrack (h.modCheck.modMass))

theorem sendResets (h : TablesHold r s) : TablesHold r s.sendResets :=
  ⟨h.articles, h.settings, h.mode, h.link, h.loads, h.zero⟩

theorem resetPlace {p : Place} (h : TablesHold r s) : TablesHold r (s.resetPlace p) := by
  unfold State.resetPlace
  dsimp only
  split
  · exact h.modPlace.raise
  · exact h.modPlace

theorem resetPlaces (h : TablesHold r s) : TablesHold r s.resetPlaces := h.foldl (fun _ _ k => k.resetPlace) _

theorem resumeCheck (h : TablesHold r s) : TablesHold r s.resumeCheck := by
  unfold State.resumeCheck
  split
  · dsimp only
    split
    · exact h.modCheck.settleStations.startCheck
    · exact h.modCheck.settleStations
  · exact h

theorem resumeGate (h : TablesHold r s) : TablesHold r s.resumeGate := by
  unfold State.resumeGate
  split
  · exact h.modMerge.settleStations.pursueGrant
  · exact h

theorem resumeStation {st : Station} (h : TablesHold r s) : TablesHold r (s.resumeStation st) := by
  cases st with
  | check => exact h.resumeCheck
  | wrapper w => exact h.resumeWrapper
  | label => exact h.resumeLabel
  | shuttle => exact h.resumeShuttle
  | mergeGate => exact h.resumeGate

end TablesHold

end Sys2Proof.Machine
end

section
/-! SUPPORT. The requests that keep the tables: what each does to the loads, to the link and to the line (R15 to R25, R69 to R72,
R92, R152, R169 to R172, R194 to R203). -/

namespace Sys2Proof.Machine

open State

variable {r s t : State}

/-! ### Finding loads and slots -/

theorem load?_some {id : Nat} {l : Load} (h : s.load? id = some l) : l ∈ s.plan.loads ∧ l.id = id :=
  ⟨List.mem_of_find?_eq_some h, by simpa using List.find?_some h⟩

theorem load?_none {id : Nat} (h : s.load? id = none) : ∀ l ∈ s.plan.loads, l.id ≠ id := by
  simpa [State.load?] using h

theorem boundLoad_none {ln : Lane} (h : s.boundLoad ln = none) : ∀ l ∈ s.plan.loads, l.lane ≠ some ln := by
  simpa [State.boundLoad] using h

/-- A tag that the tag index does not hold is on no slot (R9). -/
theorem tagIndex_none {d : Text} (h : s.tagIndex d = none) : ∀ l ∈ s.plan.loads, ∀ x ∈ l.slots, x.tag ≠ d := by
  simpa [State.tagIndex, List.findIdx?_eq_none_iff] using h

/-- A property of every load is kept by a change of the load of one id that has it. -/
theorem forall_modLoads {p : Load → Prop} {f : Load → Load} {id : Nat} {ls : List Load}
    (h : ∀ l ∈ ls, p l) (hf : ∀ l ∈ ls, l.id = id → p (f l)) : ∀ l ∈ ls.map (fun l => if l.id == id then f l else l), p l := by
  intro l' hl'
  obtain ⟨l, hl, rfl⟩ := List.mem_map.mp hl'
  split
  · rename_i e
    exact hf l hl (by simpa using e)
  · exact h l hl

/-- The load of one id, and the loads beside it: two loads of distinct ids. -/
theorem loads_split {id : Nat} {l : Load} (hn : (s.plan.loads.map (·.id)).Nodup) (h : s.load? id = some l) :
    ∃ as bs, s.plan.loads = as ++ l :: bs ∧ (∀ k ∈ as, k.id ≠ id) ∧ ∀ k ∈ bs, k.id ≠ id := by
  obtain ⟨hm, hid⟩ := load?_some h
  obtain ⟨as, bs, e⟩ := List.append_of_mem hm
  rw [e, List.map_append, List.map_cons, List.nodup_append] at hn
  obtain ⟨-, hb, hd⟩ := hn
  refine ⟨as, bs, e, fun k hk hc => ?_, fun k hk hc => ?_⟩
  · exact hd k.id (List.mem_map_of_mem hk) l.id (by simp) (hc.trans hid.symm)
  · exact (List.nodup_cons.mp hb).1 (List.mem_map.mpr ⟨k, hk, hc.trans hid.symm⟩)

/-- The list of loads after a change of the one of an id. -/
theorem map_loads_split {id : Nat} {l : Load} {f : Load → Load} {as bs : List Load} (hl : l.id = id)
    (ha : ∀ k ∈ as, k.id ≠ id) (hb : ∀ k ∈ bs, k.id ≠ id) :
    (as ++ l :: bs).map (fun l => if l.id == id then f l else l) = as ++ f l :: bs := by
  have same (ks : List Load) (h : ∀ k ∈ ks, k.id ≠ id) : ks.map (fun l => if l.id == id then f l else l) = ks :=
    (List.map_congr_left fun k hk => by simp [h k hk]).trans (List.map_id' ks)
  rw [List.map_append, List.map_cons, same as ha, same bs hb]
  simp [hl]

/-! ### Running a request -/

/-- Whatever a change that keeps the tables keeps, a request keeps when its operation does (R191 to R193). -/
theorem serve_keeps {P : State → Prop} {kind : Nat} {how : Manner} {op : Service} {q : Req}
    (hc : ∀ {u v : State}, TablesHold u v → P u → P v) (ho : ∀ u, P u → P (op u).1) (h : P s) : P (serve kind how op q s) := by
  have asked (u : State) : TablesHold u u.asked := (TablesHold.refl u).modLink id
  have run (u : State) (hu : P u) (b : Bool) : P (if b then (op u).1.settle else u) := by
    split
    · exact hc (TablesHold.refl _).settle (ho u hu)
    · exact hu
  unfold serve
  split
  · split
    · exact h
    · split
      · exact hc (TablesHold.refl s).count h
      · split
        · exact h
        · exact run s h _
  · split
    · exact hc (TablesHold.refl s).count h
    · have ha : P s.asked := hc (asked s) h
      dsimp only
      refine hc (TablesHold.refl _).send ?_
      rw [asked_eq]
      split
      · split
        · exact hc (TablesHold.refl _).settle (ho _ ha)
        · split
          · exact ho _ ha
          · exact ha
      · exact ha

namespace TablesHold

theorem serve {kind : Nat} {how : Manner} {op : Service} {q : Req} (h : TablesHold r s) (ho : ∀ u, TablesHold u (op u).1) :
    TablesHold r (serve kind how op q s) :=
  serve_keeps (fun k g => g.trans k) (fun u g => g.trans (ho u)) h

/-! ### Loads (R19 to R25) -/

/-- A change of the loads alone. -/
theorem setLoads {ls : List Load} (hl : LoadsInv s → LoadsInv (s.modPlan fun p => { p with loads := ls })) :
    TablesHold s (s.modPlan fun p => { p with loads := ls }) := (refl s).modPlan rfl hl

theorem createLoad (id planned limit : Nat) (date : Text) (s : State) : TablesHold s (createLoad id planned limit date s).1 := by
  unfold Machine.createLoad
  split
  · exact refl s
  rename_i hr
  split
  · exact refl s
  rename_i hi
  split
  · exact refl s
  rename_i hc
  simp only [Config.loadCapacity, not_le] at hc
  have hnone := load?_none (by simpa using hi)
  simp only [within, Bool.or_eq_true, Bool.not_eq_true', decide_eq_false_iff_not, not_or, not_not] at hr
  have key := setLoads (s := s) (ls := s.plan.loads ++ [⟨id, planned, max 1000 (min 2700 limit), date, .stored, none, []⟩])
    fun ⟨h1, h2, h3, h4, h5⟩ => by
      refine ⟨by simp; omega, ?_, by simpa using h3, by simpa using h4, ?_⟩
      · simpa [List.nodup_append, h2] using hnone
      · simp only [modPlan_plan, List.mem_append, List.mem_singleton]
        rintro l (hl | rfl)
        · exact h5 l hl
        · refine ⟨hr.1.1.1.1, hr.1.1.1.2, hr.1.1.2.1, hr.1.1.2.2, by simp, ?_, ?_, by simp, by simp, by simp⟩ <;> simp
  dsimp only
  split
  · exact key
  · exact key

/-- A new slot within its bounds, whose tag no slot carries, added to a load with room (R20). -/
theorem addNewSlot {id : Nat} {l : Load} {x : Slot} (hl : s.load? id = some l) (hroom : l.slots.length < l.planned)
    (hd : s.tagIndex x.tag = none) (hx : x.gross ≤ 2000000 ∧ x.base ≤ 3 ∧ x.recipe ≤ 15) :
    TablesHold s (s.modLoad id fun l => { l with slots := l.slots ++ [x] }) := by
  refine setLoads fun ⟨h1, h2, h3, h4, h5⟩ => ?_
  obtain ⟨as, bs, e, ha, hb⟩ := loads_split h2 hl
  obtain ⟨hm, hid⟩ := load?_some hl
  have hmap := map_loads_split (f := fun l => { l with slots := l.slots ++ [x] }) hid ha hb
  have hfresh := tagIndex_none hd
  rw [e] at h1 h2 h3 h4 h5 hfresh
  refine ⟨?_, ?_, ?_, ?_, ?_⟩ <;> simp only [modPlan_plan, e, hmap]
  · simpa using h1
  · simpa using h2
  · simpa [List.filterMap_cons] using h3
  · have perm : (as ++ { l with slots := l.slots ++ [x] } :: bs).flatMap (fun l => l.slots.map (·.tag))
        |>.Perm (x.tag :: (as ++ l :: bs).flatMap fun l => l.slots.map (·.tag)) := by
      simp only [List.flatMap_append, List.flatMap_cons, List.map_append, List.map_cons, List.map_nil, List.append_assoc,
        List.singleton_append]
      rw [← List.append_assoc, ← List.append_assoc]
      exact List.perm_middle
    refine perm.nodup_iff.mpr (List.nodup_cons.mpr ⟨?_, h4⟩)
    intro hmem
    obtain ⟨k, hk, hx⟩ := List.mem_flatMap.mp hmem
    obtain ⟨y, hy, hyx⟩ := List.mem_map.mp hx
    exact hfresh k hk y hy hyx
  · intro k hk
    simp only [List.mem_append, List.mem_cons] at hk h5
    rcases hk with hk | rfl | hk
    · exact h5 k (.inl hk)
    · obtain ⟨g1, g2, g3, g4, g5, g6, g7, g8, g9, g10⟩ := h5 l (.inr (.inl rfl))
      refine ⟨g1, g2, g3, g4, by simpa using hroom, g6, g7, g8, g9, ?_⟩
      intro y hy
      rcases List.mem_append.mp hy with hy | hy
      · exact g10 y hy
      · rw [List.mem_singleton.mp hy]; exact hx
    · exact h5 k (.inr (.inr hk))

theorem addSlot (id pos : Nat) (d : Text) (base recipe : Nat) (lines : List ArticleLine) (texts : List Text) (s : State) :
    TablesHold s (addSlot id pos d base recipe lines texts s).1 := by
  unfold Machine.addSlot
  split
  · exact refl s
  rename_i l hl
  split
  · exact refl s
  rename_i hf
  split
  · exact refl s
  rename_i hroom
  split
  · exact refl s
  split
  · exact refl s
  rename_i hd
  split
  · exact refl s
  dsimp only
  split
  · exact refl s
  rename_i hg
  simp only [slotFieldsInRange, within, Bool.not_eq_true', Bool.not_eq_false, Bool.and_eq_true, decide_eq_true_eq] at hf
  exact (addNewSlot hl (by omega) (by simpa using hd)
    ⟨by simpa [Config.scaleCapacity] using hg, hf.1.1.1.1.1.2.2, hf.1.1.1.1.2.2⟩).offer

theorem skipSlot (id pos : Nat) (s : State) : TablesHold s (skipSlot id pos s).1 := by
  unfold Machine.skipSlot
  split
  · exact refl s
  split
  · exact refl s
  split
  · exact refl s
  · exact (refl s).modSlot.testComplete

/-- A load taken to a lane that no load names (R22). -/
theorem bindLoad (id lane : Nat) (s : State) : TablesHold s (bindLoad id lane s).1 := by
  unfold Machine.bindLoad
  split
  · exact refl s
  rename_i l hl
  split
  · exact refl s
  rename_i ln _
  split
  · exact refl s
  rename_i hs
  simp only [Bool.or_eq_true, bne_iff_ne, ne_eq, not_or, not_not, Bool.not_eq_true, Option.isSome_eq_false_iff,
    Option.isNone_iff_eq_none] at hs
  obtain ⟨-, hfree⟩ := hs
  refine setLoads fun ⟨h1, h2, h3, h4, h5⟩ => ?_
  obtain ⟨as, bs, e, ha, hb⟩ := loads_split h2 hl
  obtain ⟨hm, hid⟩ := load?_some hl
  have hmap := map_loads_split (f := fun l => { l with status := .bound, lane := some ln }) hid ha hb
  have hfresh := boundLoad_none hfree
  rw [e] at h1 h2 h3 h4 h5 hfresh
  refine ⟨?_, ?_, ?_, ?_, ?_⟩ <;> simp only [modPlan_plan, e, hmap]
  · simpa using h1
  · simpa using h2
  · have sub : (as ++ bs).filterMap (·.lane) |>.Nodup := by
      refine List.Nodup.sublist ?_ h3
      exact ((List.Sublist.refl as).append (List.sublist_cons_self l bs)).filterMap _
    have perm : (as ++ { l with status := .bound, lane := some ln } :: bs).filterMap (·.lane)
        |>.Perm (ln :: (as ++ bs).filterMap (·.lane)) := by
      simp only [List.filterMap_append, List.filterMap_cons]
      exact List.perm_middle
    refine perm.nodup_iff.mpr (List.nodup_cons.mpr ⟨?_, sub⟩)
    intro hmem
    obtain ⟨k, hk, hx⟩ := List.mem_filterMap.mp hmem
    exact hfresh k (by simp only [List.mem_append, List.mem_cons] at hk ⊢; tauto) hx
  · simpa using h4
  · intro k hk
    simp only [List.mem_append, List.mem_cons] at hk h5
    rcases hk with hk | rfl | hk
    · exact h5 k (.inl hk)
    · obtain ⟨g1, g2, g3, g4, g5, g6, g7, -, -, g10⟩ := h5 l (.inr (.inl rfl))
      exact ⟨g1, g2, g3, g4, g5, g6, g7, by simp, by simp, g10⟩
    · exact h5 k (.inr (.inr hk))

/-- A load given up by its lane (R23). -/
theorem unbind {id : Nat} (h : TablesHold r s) : TablesHold r (s.unbind id) := by
  refine modBuffer (h.trans (setLoads fun ⟨h1, h2, h3, h4, h5⟩ => ?_))
  refine ⟨by simpa using h1, ?_, ?_, ?_, forall_modLoads h5 ?_⟩
  · simpa [Function.comp_def, apply_ite Load.id] using h2
  · refine List.Nodup.sublist ?_ h3
    simp only [modPlan_plan, List.filterMap_map]
    clear h1 h2 h3 h4 h5 h
    induction s.plan.loads with
    | nil => simp
    | cons l ls ih =>
      simp only [List.filterMap_cons, Function.comp_apply]
      by_cases hl : (l.id == id) = true
      · simp only [hl, if_true]
        split
        · exact ih
        · exact ih.cons _
      · simp only [hl]
        cases hk : l.lane with
        | none => simpa [hk] using ih
        | some ln => simpa [hk] using ih
  · simpa [List.flatMap_map, Function.comp_def, apply_ite Load.slots] using h4
  · intro l hl _
    obtain ⟨g1, g2, g3, g4, g5, g6, g7, -, -, g10⟩ := h5 l hl
    refine ⟨g1, g2, g3, g4, g5, g6, g7, ?_, fun _ => rfl, g10⟩
    dsimp only
    split
    · simp
    · rename_i hb; intro e; simp [e] at hb

theorem unbindLoad (id : Nat) (s : State) : TablesHold s (unbindLoad id s).1 := by
  unfold Machine.unbindLoad
  split
  · exact refl s
  split
  · exact refl s
  · split <;> (split; exacts [refl s, (refl s).unbind])

theorem closeLoad (id : Nat) (s : State) : TablesHold s (closeLoad id s).1 := by
  have closed (u : State) : TablesHold u (u.modPlan fun p => { p with loads := p.loads.filter fun l => l.id != id }) :=
    setLoads fun ⟨h1, h2, h3, h4, h5⟩ => by
      have sub : (u.plan.loads.filter fun l => l.id != id).Sublist u.plan.loads := List.filter_sublist
      exact ⟨sub.length_le.trans h1, h2.sublist (sub.map _), h3.sublist (sub.filterMap _), h4.sublist (sub.flatMap _),
        fun l hl => h5 l (sub.subset hl)⟩
  unfold Machine.closeLoad
  split
  · exact refl s
  split
  · exact refl s
  dsimp only
  split
  · exact (refl s).unbind.trans (closed _)
  · exact closed s

/-! ### The line -/

theorem setInfeed (i n : Nat) (s : State) : TablesHold s (setInfeed i n s).1 := by
  unfold Machine.setInfeed
  split
  · exact refl s
  split
  · exact refl s
  · exact (refl s).setEnabled

theorem removePallet (n : Nat) (s : State) : TablesHold s (removePallet n s).1 := by
  unfold Machine.removePallet
  split
  · exact refl s
  split
  · exact refl s
  split
  · exact refl s
  · exact (refl s).deleteRecord.raise

theorem readZonesOp (b : Bool) (s : State) : TablesHold s (readZonesOp b s).1 := (refl s).foldl (fun _ _ k => k.readZone) _

theorem zeroScaleOp (s : State) : TablesHold s (zeroScaleOp s).1 := by
  unfold Machine.zeroScaleOp
  split
  · exact refl s
  split
  · exact refl s
  split
  · exact refl s
  split
  · exact refl s
  split
  · exact refl s
  · exact (refl s).modMass.openCapture

theorem resumeStationOp (n : Nat) (s : State) : TablesHold s (resumeStationOp n s).1 := by
  unfold Machine.resumeStationOp
  split
  · exact refl s
  · exact (refl s).resumeStation

/-! ### The link -/

/-- TAKE_REPORTS leaves the attention line asserted exactly while reports are left (R198). -/
theorem takeReportsOp (s : State) : TablesHold s (takeReportsOp s).1 := by
  unfold Machine.takeReportsOp
  dsimp only
  refine (refl s).modLink ?_
  rintro ⟨h1, -, h3⟩
  exact ⟨by simp; omega, by simp, h3⟩

theorem readCountersOp (n : Nat) (s : State) : TablesHold s (readCountersOp n s).1 := by
  unfold Machine.readCountersOp
  split
  · exact refl s
  · dsimp only
    split
    · exact (refl s).modLink fun ⟨h1, h2, _⟩ => ⟨h1, h2, fun i => by simp⟩
    · exact refl s

end TablesHold

end Sys2Proof.Machine
end

section
/-! SUPPORT. The commands that keep the tables, one case for each row, and the request that a frame carries. -/

namespace Sys2Proof.Machine

open State

variable {r s t : State} {P : State → Prop}

/-- An answer, when it is a next state, is one with a property. -/
def Leads (P : State → Prop) (a : Answer) : Prop := ∀ t, a = .next t → P t

theorem leads_next (h : P t) : Leads P (.next t) := by
  intro _ e
  injection e with e
  exact e ▸ h

theorem leads_ite {c : Prop} [Decidable c] {a b : Answer} (ha : c → Leads P a) (hb : ¬ c → Leads P b) :
    Leads P (if c then a else b) := by
  split
  · exact ha ‹_›
  · exact hb ‹_›

/-- A command that leaves the state when its conditions do not hold. -/
theorem leads_when {c : Prop} [Decidable c] (ht : c → P t) (hs : P s) : Leads P (if c then .next t else .next s) :=
  leads_ite (fun h => leads_next (ht h)) fun _ => leads_next hs

/-- The rows that write the article table, the settings or the mode anew, or may do so. -/
def Instr.rewrites : Instr → Bool
  | .powerOn | .resetPin | .estop | .purgeHoldExpiry | .wakeHoldExpiry _ | .drainLimitExpiry | .drainCompleted | .stopCompleted
  | .linkOctet _ | .setSetting _ _ _ | .articlePut _ _ _ _ | .articleDrop _ _ | .setModeRun _ | .setModeDrain _ | .setModeStop _
  | .resume _ | .resetFull _ | .resetLine _ | .resetSettings _ => true
  | _ => false

namespace TablesHold

theorem reads {kind : Nat} {how : Manner} {op : Service} {q : Req} (ho : ∀ u, KeepsAllBut offTables u (op u).1) :
    TablesHold s (Machine.serve kind how op q s) := (refl s).serve fun u => (refl u).keeps (ho u)

/-! ### The expiries and the events -/

theorem execInputChange (i : Input) (b : Bool) (s : State) : Leads (TablesHold s) (execInputChange i b s) := by
  unfold Machine.execInputChange
  refine leads_ite (fun _ => leads_next (refl s)) fun _ => leads_ite (fun _ => leads_next ?_) fun _ =>
    leads_when (fun _ => ?_) ?_
  · exact setTiming (refl s).modField
  · exact settle (filtered (refl s).modField)
  · exact setTiming (refl s).modField

theorem execAnswerLimitExpiry (c : Scanner) (s : State) : Leads (TablesHold s) (execAnswerLimitExpiry c s) := by
  unfold Machine.execAnswerLimitExpiry
  split
  · exact leads_when (fun _ => (refl s).endRead.settle) (refl s)
  · exact leads_when (fun _ => (refl s).closeEnded) (refl s)

theorem execDeferralDeadlineExpiry (n : Nat) (s : State) : Leads (TablesHold s) (execDeferralDeadlineExpiry n s) := by
  unfold Machine.execDeferralDeadlineExpiry
  split
  · split
    · exact leads_when (fun _ => (refl s).markUnplanned.endDeferral.settle) (refl s)
    · exact leads_next (refl s)
  · exact leads_next (refl s)

theorem execTag (c : Scanner) (d : Text) (s : State) : Leads (TablesHold s) (execTag c d s) := by
  unfold Machine.execTag
  split
  · exact leads_next (refl s).endRead.settle
  · exact leads_next (refl s).lateAnswer.settle

theorem execNoRead (c : Scanner) (s : State) : Leads (TablesHold s) (execNoRead c s) := by
  unfold Machine.execNoRead
  split
  · exact leads_next (refl s).endRead.settle
  · exact leads_next (refl s).lateAnswer.settle

theorem execProfile (n : Nat) (f : Overhang) (s : State) : Leads (TablesHold s) (execProfile n f s) := by
  unfold Machine.execProfile
  split
  · exact leads_next (refl s)
  · exact leads_when (fun _ => (refl s).modRecord.modCurrent.testVerdict.settle) (refl s)

theorem execReading (x : Reading) (s : State) : Leads (TablesHold s) (execReading x s) := by
  unfold Machine.execReading
  split
  · exact leads_next (refl s)
  · refine leads_ite (fun _ => leads_next (refl s)) fun _ => ?_
    split
    · exact leads_next (refl s).overload.settle
    · exact leads_when (fun _ => (refl s).enterReading.settle) (refl s)

theorem execSettleDelayEnd (s : State) : Leads (TablesHold s) (execSettleDelayEnd s) := by
  unfold Machine.execSettleDelayEnd
  split
  · exact leads_when (fun _ => settle (refl s).modMass) (refl s)
  · exact leads_next (refl s)

theorem execSettleLimitExpiry (s : State) : Leads (TablesHold s) (execSettleLimitExpiry s) := by
  unfold Machine.execSettleLimitExpiry
  split
  · exact leads_next (refl s)
  · exact leads_when (fun _ => (refl s).modCurrent.giveVerdict.settle) (refl s)

theorem execZeroSettleEnd (s : State) : Leads (TablesHold s) (execZeroSettleEnd s) := by
  unfold Machine.execZeroSettleEnd
  split
  · exact leads_when (fun _ => settle (refl s).modMass) (refl s)
  · exact leads_next (refl s)

theorem execZeroLimitExpiry (s : State) : Leads (TablesHold s) (execZeroLimitExpiry s) := by
  unfold Machine.execZeroLimitExpiry
  split
  · exact leads_when (fun _ => (refl s).failZero.settle) (refl s)
  · exact leads_next (refl s)

theorem execCheckRouteRetry (s : State) : Leads (TablesHold s) (execCheckRouteRetry s) := by
  unfold Machine.execCheckRouteRetry
  split
  · split
    · exact leads_next ((refl s).askOut ‹_›).modCheck.settle
    · exact leads_next (refl s)
  · exact leads_next (refl s)

theorem execMergeChoice (s : State) : Leads (TablesHold s) (execMergeChoice s) := by
  unfold Machine.execMergeChoice
  refine leads_ite (fun _ => ?_) fun _ => leads_next (refl s)
  split
  · exact leads_next (refl s)
  · split
    · exact leads_next (refl s)
    · exact leads_next (refl s).modMerge.pursueGrant.settle

theorem execGatePark (s : State) : Leads (TablesHold s) (execGatePark s) := by
  unfold Machine.execGatePark
  refine leads_ite (fun _ => leads_ite (fun _ => ?_) fun _ => ?_) fun _ => leads_next (refl s)
  · dsimp only
    split
    · exact leads_next (refl s).modMerge.commandSwitch.settle
    · exact leads_next (refl s).modMerge.settle
  · split
    · exact leads_when (fun _ => (refl s).commandSwitch.settle) (refl s)
    · exact leads_next (refl s)

theorem execGateLimitExpiry (s : State) : Leads (TablesHold s) (execGateLimitExpiry s) := by
  unfold Machine.execGateLimitExpiry
  split
  · exact leads_when (fun _ => (refl s).modMerge.settle) (refl s)
  · exact leads_next (refl s)

theorem execAccept (w : Side) (n : Nat) (s : State) : Leads (TablesHold s) (execAccept w n s) := by
  unfold Machine.execAccept
  exact leads_ite (fun _ => leads_next (refl s)) fun _ => leads_ite (fun _ => leads_next (refl s).lateOrder.settle) fun _ =>
    leads_when (fun _ => (refl s).modWrapper.settle) (refl s)

theorem execDone (w : Side) (n k f : Nat) (s : State) : Leads (TablesHold s) (execDone w n k f s) := by
  unfold Machine.execDone
  dsimp only
  refine leads_ite (fun _ => leads_next (refl s)) fun _ => leads_ite (fun _ => leads_next (refl s).lateOrder.settle) fun _ => ?_
  split
  · refine leads_ite (fun _ => leads_when (fun _ => (refl s).faultWrapper.settle) (refl s).endWrap.settle) fun _ => ?_
    exact leads_when (fun _ => (refl s).modRecord.lateWrap.modWrapper.settle) (refl s)
  · exact leads_next (refl s)

theorem execFault (w : Side) (n : Nat) (c : WrapFault) (s : State) : Leads (TablesHold s) (execFault w n c s) := by
  unfold Machine.execFault
  dsimp only
  refine leads_ite (fun _ => leads_next (refl s)) fun _ => leads_ite (fun _ => leads_next (refl s).lateOrder.settle) fun _ => ?_
  split
  · exact leads_ite (fun _ => leads_next (refl s).faultWrapper.settle) fun _ =>
      leads_when (fun _ => (refl s).enterFault.lateWrap.modWrapper.settle) (refl s)
  · exact leads_next (refl s)

theorem execWrapperAckLimitExpiry (w : Side) (s : State) : Leads (TablesHold s) (execWrapperAckLimitExpiry w s) := by
  unfold Machine.execWrapperAckLimitExpiry
  dsimp only
  split
  · exact leads_when (fun _ => (refl s).faultWrapper.settle) (refl s)
  · exact leads_next (refl s)

theorem execWrapLimitExpiry (w : Side) (s : State) : Leads (TablesHold s) (execWrapLimitExpiry w s) := by
  unfold Machine.execWrapLimitExpiry
  dsimp only
  split
  · exact leads_when (fun _ => (refl s).modWrapper.raise.failWrap.settle) (refl s)
  · exact leads_next (refl s)

theorem execWrapperChoice (s : State) : Leads (TablesHold s) (execWrapperChoice s) := by
  unfold Machine.execWrapperChoice
  refine leads_ite (fun _ => ?_) fun _ => leads_next (refl s)
  split
  · split
    · exact leads_next (refl s).assign.settle
    · exact leads_next (refl s)
  · exact leads_next (refl s)

theorem execOrderSend (w : Side) (s : State) : Leads (TablesHold s) (execOrderSend w s) := by
  unfold Machine.execOrderSend
  split
  · exact leads_when (fun _ => (refl s).sendOrder.settle) (refl s)
  · exact leads_next (refl s)

theorem execLabelOrderMove (s : State) : Leads (TablesHold s) (execLabelOrderMove s) := by
  unfold Machine.execLabelOrderMove
  split
  · exact leads_next (refl s)
  · refine leads_ite (fun _ => ?_) fun _ => leads_next (refl s)
    split
    · exact leads_next ((refl s).askMove ‹_›).settle
    · exact leads_next (refl s)

theorem execJobSend (s : State) : Leads (TablesHold s) (execJobSend s) := by
  unfold Machine.execJobSend
  refine leads_ite (fun _ => ?_) fun _ => leads_next (refl s)
  split
  · exact leads_next (refl s).sendJob.settle
  · exact leads_next (refl s)

theorem execTaken (n : Nat) (s : State) : Leads (TablesHold s) (execTaken n s) := by
  unfold Machine.execTaken
  refine leads_ite (fun _ => leads_next (refl s)) fun _ => ?_
  split
  · exact leads_next (refl s).lateJob.settle
  · exact leads_when (fun _ => (refl s).setJob.settle) (refl s)

theorem execPrinted (n : Nat) (s : State) : Leads (TablesHold s) (execPrinted n s) := by
  unfold Machine.execPrinted
  refine leads_ite (fun _ => leads_next (refl s)) fun _ => ?_
  split
  · exact leads_next (refl s).lateJob.settle
  · exact leads_when (fun _ => refl s) (refl s).setJob.settle

theorem execApplySend (s : State) : Leads (TablesHold s) (execApplySend s) := by
  unfold Machine.execApplySend
  split
  · exact leads_when (fun _ => (refl s).modRecord.modLabel.send.settle) (refl s)
  · exact leads_next (refl s)

theorem execApplied (n : Nat) (s : State) : Leads (TablesHold s) (execApplied n s) := by
  unfold Machine.execApplied
  refine leads_ite (fun _ => leads_next (refl s)) fun _ => ?_
  split
  · exact leads_when (fun _ => (refl s).modLabel.askRead.askRead.settle) (refl s).lateJob.settle
  · exact leads_next (refl s).lateJob.settle

theorem execJobAckLimitExpiry (s : State) : Leads (TablesHold s) (execJobAckLimitExpiry s) := by
  unfold Machine.execJobAckLimitExpiry
  split
  · exact leads_when (fun _ => (refl s).faultLabel.settle) (refl s)
  · exact leads_next (refl s)

theorem execLabelRejectMove (s : State) : Leads (TablesHold s) (execLabelRejectMove s) := by
  unfold Machine.execLabelRejectMove
  split
  · split
    · exact leads_next ((refl s).askMove ‹_›).modLabel.settle
    · exact leads_next (refl s)
  · exact leads_next (refl s)

theorem execShuttleChoice (s : State) : Leads (TablesHold s) (execShuttleChoice s) := by
  unfold Machine.execShuttleChoice
  refine leads_ite (fun _ => ?_) fun _ => leads_next (refl s)
  split
  · exact leads_next (refl s).giveTask.settle
  · exact leads_next (refl s)

theorem execMoveStart (n : Nat) (s : State) : Leads (TablesHold s) (execMoveStart n s) := by
  unfold Machine.execMoveStart
  split
  · exact leads_when (fun _ => (refl s).startMove.settle) (refl s)
  · exact leads_next (refl s)

theorem execTravelLimitExpiry (n : Nat) (s : State) : Leads (TablesHold s) (execTravelLimitExpiry n s) := by
  unfold Machine.execTravelLimitExpiry
  split
  · exact leads_when (fun _ => (refl s).loseMove.settle) (refl s)
  · exact leads_next (refl s)

theorem execSpeedWindowEnd (z : Zone) (s : State) : Leads (TablesHold s) (execSpeedWindowEnd z s) := by
  unfold Machine.execSpeedWindowEnd
  dsimp only
  exact leads_when (fun _ => (refl s).modZone.setZone.settle) (refl s)

theorem discardFrame (h : TablesHold r s) : TablesHold r s.discardFrame := (h.modLink id).count

theorem execGapLimitExpiry (s : State) : Leads (TablesHold s) (execGapLimitExpiry s) := by
  unfold Machine.execGapLimitExpiry
  split
  · exact leads_next (refl s).discardFrame
  · exact leads_next (refl s)

end TablesHold

/-- Every row but those that write the article table, the settings or the mode keeps the tables. -/
theorem exec_tablesHold {c : Instr} (hc : Instr.rewrites c = false) : Leads (TablesHold s) (exec c s) := by
  have h : TablesHold s s := .refl s
  cases c with
  | powerOn => cases hc
  | resetPin => cases hc
  | inputChange i b => exact .execInputChange i b s
  | inputFilterExpiry i => exact leads_when (fun _ => h.filtered.settle) h
  | estop => cases hc
  | estopClear => exact leads_next h.modField
  | encoderEdge z => exact leads_when (fun _ => h.modZone) h
  | speedWindowEnd z => exact .execSpeedWindowEnd z s
  | travelLimitExpiry n => exact .execTravelLimitExpiry n s
  | purgeHoldExpiry => cases hc
  | wakeHoldExpiry i => cases hc
  | answerLimitExpiry sc => exact .execAnswerLimitExpiry sc s
  | deferralDeadlineExpiry n => exact .execDeferralDeadlineExpiry n s
  | gateLimitExpiry => exact .execGateLimitExpiry s
  | settleDelayEnd => exact .execSettleDelayEnd s
  | settleLimitExpiry => exact .execSettleLimitExpiry s
  | zeroSettleEnd => exact .execZeroSettleEnd s
  | zeroLimitExpiry => exact .execZeroLimitExpiry s
  | wrapperAckLimitExpiry w => exact .execWrapperAckLimitExpiry w s
  | wrapLimitExpiry w => exact .execWrapLimitExpiry w s
  | jobAckLimitExpiry => exact .execJobAckLimitExpiry s
  | purgeAckLimitExpiry => exact leads_when (fun _ => h.modLabel.faultLabel.settle) h
  | printLimitExpiry => exact leads_when (fun _ => h.modLabel.faultLabel.settle) h
  | applyLimitExpiry => exact leads_when (fun _ => h.modLabel.faultLabel.settle) h
  | drainLimitExpiry => cases hc
  | gapLimitExpiry => exact .execGapLimitExpiry s
  | linkOctet o => cases hc
  | replySent => exact leads_next (h.modLink id)
  | unknownKind q k => exact leads_next (.reads fun _ => keeps_refl)
  | tag sc d => exact .execTag sc d s
  | noRead sc => exact .execNoRead sc s
  | profile n f => exact .execProfile n f s
  | reading x => exact .execReading x s
  | accept w n => exact .execAccept w n s
  | done w n k f => exact .execDone w n k f s
  | fault w n k => exact .execFault w n k s
  | taken n => exact .execTaken n s
  | printed n => exact .execPrinted n s
  | applied n => exact .execApplied n s
  | cancelled => exact leads_when (fun _ => h.modLabel.settle) h
  | moveStart n => exact .execMoveStart n s
  | mergeChoice => exact .execMergeChoice s
  | gatePark => exact .execGatePark s
  | checkRouteRetry => exact .execCheckRouteRetry s
  | wrapperChoice => exact .execWrapperChoice s
  | orderSend w => exact .execOrderSend w s
  | labelOrderMove => exact .execLabelOrderMove s
  | jobSend => exact .execJobSend s
  | purgeStart => exact leads_when (fun _ => h.modLabel.send.settle) h
  | applySend => exact .execApplySend s
  | labelRejectMove => exact .execLabelRejectMove s
  | shuttleChoice => exact .execShuttleChoice s
  | deliveryDecision => exact leads_when (fun _ => h.decideDelivery.settle) h
  | drainCompleted => cases hc
  | stopCompleted => cases hc
  | identify q => exact leads_next (.reads fun _ => keeps_identifyOp.mpr keeps_refl)
  | setIdentity q d => exact leads_next (.reads fun _ => (keeps_setIdentityOp (by decide)).mpr keeps_refl)
  | setSetting q n v => cases hc
  | getSetting q n => exact leads_next (.reads fun _ => keeps_getSettingOp.mpr keeps_refl)
  | setTableBands q x => exact leads_next (.reads fun _ => (keeps_setBands (by decide)).mpr keeps_refl)
  | setTableBases q x => exact leads_next (.reads fun _ => (keeps_setBases (by decide)).mpr keeps_refl)
  | setTableRecipes q x => exact leads_next (.reads fun _ => (keeps_setRecipes (by decide)).mpr keeps_refl)
  | setTableWindows q x => exact leads_next (.reads fun _ => (keeps_setWindows (by decide)).mpr keeps_refl)
  | setTableReportMask q x => exact leads_next (.reads fun _ => (keeps_setMask (by decide)).mpr keeps_refl)
  | getTable q n => exact leads_next (.reads fun _ => keeps_getTableOp.mpr keeps_refl)
  | takeReports q => exact leads_next (h.serve TablesHold.takeReportsOp)
  | readCounters q n => exact leads_next (h.serve (TablesHold.readCountersOp n))
  | articlePut q n m x => cases hc
  | articleDrop q n => cases hc
  | articleGet q n f => exact leads_next (.reads fun _ => keeps_getArticle.mpr keeps_refl)
  | loadCreate q id n l d => exact leads_next (h.serve (TablesHold.createLoad id n l d))
  | slotAdd q id p d b rc ls xs => exact leads_next (h.serve (TablesHold.addSlot id p d b rc ls xs))
  | slotSkip q id p => exact leads_next (h.serve (TablesHold.skipSlot id p))
  | loadBind q id l => exact leads_next (h.serve (TablesHold.bindLoad id l))
  | loadUnbind q id => exact leads_next (h.serve (TablesHold.unbindLoad id))
  | loadClose q id => exact leads_next (h.serve (TablesHold.closeLoad id))
  | readLoad q id p f => exact leads_next (.reads fun _ => keeps_readLoadOp.mpr keeps_refl)
  | placeClear q n => exact leads_next (.reads fun _ => (keeps_clearPlaceOp (by decide)).mpr keeps_refl)
  | listPlaces q => exact leads_next (.reads fun _ => keeps_listPlacesOp.mpr keeps_refl)
  | readZones q b => exact leads_next (h.serve (TablesHold.readZonesOp b))
  | infeedSet q i n => exact leads_next (h.serve (TablesHold.setInfeed i n))
  | readPallet q n => exact leads_next (.reads fun _ => keeps_readPalletOp.mpr keeps_refl)
  | listPallets q a b => exact leads_next (.reads fun _ => keeps_listPalletsOp.mpr keeps_refl)
  | palletRemove q n => exact leads_next (h.serve (TablesHold.removePallet n))
  | stationResume q n => exact leads_next (h.serve (TablesHold.resumeStationOp n))
  | zeroScale q => exact leads_next (h.serve TablesHold.zeroScaleOp)
  | forceRelease q n => exact leads_next (.reads fun _ => (keeps_forcePallet (by decide)).mpr keeps_refl)
  | laneHalt q l => exact leads_next (.reads fun _ => (keeps_setHalt (by decide)).mpr keeps_refl)
  | laneResume q l => exact leads_next (.reads fun _ => (keeps_setHalt (by decide)).mpr keeps_refl)
  | readLane q l => exact leads_next (.reads fun _ => keeps_readLaneOp.mpr keeps_refl)
  | setModeRun q => cases hc
  | setModeDrain q => cases hc
  | setModeStop q => cases hc
  | resume q => cases hc
  | resetFull q => cases hc
  | resetLine q => cases hc
  | resetSettings q => cases hc
  | flashHalfPeriod l => exact leads_when (fun _ => h.modField) h
  | strapChange p => exact leads_next (h.modLink id)

end Sys2Proof.Machine
end

section
/-! SUPPORT. The rows that write the article table, the settings or the mode, the frame octets, and the passing of time: each
keeps the bounds of the tables too. -/

namespace Sys2Proof.Machine

open State

variable {r s t : State} {P : State → Prop}

/-- The bounds of TheTablesStayInRange, taken together. -/
structure TablesInv (s : State) : Prop where
  link : LinkInv s
  settings : SettingsInv s
  articles : ArticlesInv s
  loads : LoadsInv s
  zero : ZeroInv s
  mode : ModeInv s

theorem modeInv_congr (e : t.mode = s.mode) : ModeInv t ↔ ModeInv s := by simp [ModeInv, e]
theorem settingsInv_congr (e : t.settings = s.settings) : SettingsInv t ↔ SettingsInv s := by
  simp [SettingsInv, State.setting, e]
theorem articlesInv_congr (e : t.plan.articles = s.plan.articles) : ArticlesInv t ↔ ArticlesInv s := by simp [ArticlesInv, e]

theorem TablesHold.tables (h : TablesHold s t) (i : TablesInv s) : TablesInv t :=
  ⟨h.link i.link, (settingsInv_congr h.settings).mpr i.settings, (articlesInv_congr h.articles).mpr i.articles, h.loads i.loads,
    h.zero i.zero, (modeInv_congr h.mode).mpr i.mode⟩

/-- From one state to another all that `TablesHold` says but of the mode. -/
structure StoresHold (r s : State) : Prop where
  articles : s.plan.articles = r.plan.articles
  settings : s.settings = r.settings
  link : LinkInv r → LinkInv s
  loads : LoadsInv r → LoadsInv s
  zero : ZeroInv r → ZeroInv s

theorem TablesHold.stores (h : TablesHold r s) : StoresHold r s := ⟨h.articles, h.settings, h.link, h.loads, h.zero⟩

namespace StoresHold

theorem refl (s : State) : StoresHold s s := (TablesHold.refl s).stores

theorem trans (h : StoresHold r s) (k : StoresHold s t) : StoresHold r t :=
  ⟨k.articles.trans h.articles, k.settings.trans h.settings, k.link ∘ h.link, k.loads ∘ h.loads, k.zero ∘ h.zero⟩

theorem holds (h : StoresHold r s) (k : TablesHold s t) : StoresHold r t := h.trans k.stores

/-- The bounds of a state reached with a mode that R174 allows. -/
theorem tables (h : StoresHold s t) (m : ModeInv t) (i : TablesInv s) : TablesInv t :=
  ⟨h.link i.link, (settingsInv_congr h.settings).mpr i.settings, (articlesInv_congr h.articles).mpr i.articles, h.loads i.loads,
    h.zero i.zero, m⟩

theorem modMode {f : ModeController → ModeController} (h : StoresHold r s) : StoresHold r (s.modMode f) :=
  ⟨h.articles, h.settings, h.link, h.loads, h.zero⟩

theorem setDrain {d : Option Nat} (h : StoresHold r s) : StoresHold r (s.setDrain d) := h.modMode

theorem changeMode {m : LineMode} {c : ModeCause} (h : StoresHold r s) : StoresHold r (s.changeMode m c) := by
  unfold State.changeMode
  dsimp only
  split
  · exact h.modMode.holds (TablesHold.refl _).raise
  · exact (h.holds (TablesHold.refl _).stopWakes).modMode.holds (TablesHold.refl _).raise

theorem enterStopped {c : ModeCause} (h : StoresHold r s) : StoresHold r (s.enterStopped c) :=
  h.setDrain.changeMode.holds (TablesHold.refl _).startWakes

theorem enterRun {c : ModeCause} (h : StoresHold r s) : StoresHold r (s.enterRun c) :=
  h.setDrain.changeMode.holds (TablesHold.refl _).watchAll.pursueGrant

theorem testDrain (h : StoresHold r s) : StoresHold r s.testDrain := by
  unfold State.testDrain
  split
  · exact h.enterStopped
  · exact h

theorem testStop (h : StoresHold r s) : StoresHold r s.testStop := by
  unfold State.testStop
  split
  · exact h.enterStopped
  · exact h

theorem halt (h : StoresHold r s) : StoresHold r s.halt :=
  (h.modMode.holds (TablesHold.refl _).sendAll.emptyWindow).changeMode

theorem actAs {m : LineMode} (h : StoresHold r s) : StoresHold r (s.actAs m) := by
  cases m with
  | run => exact h.holds (TablesHold.refl _).watchAll.pursueGrant
  | drain => exact (h.holds (TablesHold.refl _).pursueGrant).testDrain
  | stopping => exact h.testStop
  | stopped => exact h.holds (TablesHold.refl _).startWakes
  | halted => exact h

theorem leaveHalt (h : StoresHold r s) : StoresHold r s.leaveHalt :=
  (h.modMode.holds (TablesHold.refl _).anchorTimes.sendAll).changeMode.actAs

theorem failDrain (h : StoresHold r s) : StoresHold r s.failDrain := by
  have k : TablesHold s s.drainDetail.1 := (TablesHold.refl s).keeps ((keeps_drainDetail (by decide)).mpr keeps_refl)
  unfold State.failDrain
  split
  rename_i e
  rw [e] at k
  exact (h.holds k).setDrain.changeMode.holds (TablesHold.refl _).raise.watchAll.pursueGrant

/-! ### Resets (R183, R184) -/

theorem endReset {b : Bool} (h : StoresHold r s) : StoresHold r (s.endReset b) := by
  unfold State.endReset
  split
  · exact h.halt
  · split
    · exact h.holds (TablesHold.refl _).sendAll
    · exact h

/-- A slot of a line reset keeps its tag, masses, base kind and recipe (R26). -/
theorem loadKept_returned (l : Load) : LoadKept l { l with slots := l.slots.map Slot.returned } := by
  have k : SlotKept Slot.returned := fun x => by
    unfold Slot.returned
    split <;> exact ⟨rfl, rfl, rfl, rfl⟩
  refine ⟨rfl, rfl, rfl, rfl, .inl rfl, by simp [Function.comp_def, (k _).1], fun x hx => ?_⟩
  obtain ⟨y, hy, rfl⟩ := List.mem_map.mp hx
  exact ⟨y, hy, (k y).2⟩

theorem emptied (s : State) : StoresHold s s.emptied :=
  ⟨rfl, rfl, id, fun i => loadsInv_map loadKept_returned i rfl, id⟩

theorem lineReset (n : Nat) (s : State) : StoresHold s (s.lineReset n) :=
  ((emptied s).holds (TablesHold.refl _).sendResets.resetPlaces.raise).endReset.holds
    (TablesHold.refl _).startWakes.settleSilently

end StoresHold

/-! ### The mode after each change (R174) -/

@[simp] theorem changeMode_mode (m : LineMode) (c : ModeCause) : (s.changeMode m c).mode = { s.mode with mode := m } := by
  have raised (u : State) (k : ReportKind) (n : Note) : (u.raise k n).mode = u.mode := (TablesHold.refl u).raise.mode
  unfold State.changeMode
  dsimp only
  rw [raised, modMode_mode]
  split <;> rfl

@[simp] theorem startWakes_mode : s.startWakes.mode = s.mode := (TablesHold.refl s).startWakes.mode
@[simp] theorem watchAll_mode : s.watchAll.mode = s.mode := (TablesHold.refl s).watchAll.mode
@[simp] theorem pursueGrant_mode : s.pursueGrant.mode = s.mode := (TablesHold.refl s).pursueGrant.mode
@[simp] theorem anchorTimes_mode : s.anchorTimes.mode = s.mode := rfl
@[simp] theorem sendAll_mode (m : Port → Message) : (s.sendAll m).mode = s.mode := rfl
@[simp] theorem emptyWindow_mode : s.emptyWindow.mode = s.mode := rfl
@[simp] theorem stopWakes_mode : s.stopWakes.mode = s.mode := rfl
@[simp] theorem setDrain_mode (d : Option Nat) : (s.setDrain d).mode = { s.mode with drain := d } := rfl

@[simp] theorem enterStopped_mode (c : ModeCause) : (s.enterStopped c).mode = ⟨.stopped, s.mode.saved, none⟩ := by
  simp [State.enterStopped]

@[simp] theorem enterRun_mode (c : ModeCause) : (s.enterRun c).mode = ⟨.run, s.mode.saved, none⟩ := by simp [State.enterRun]

@[simp] theorem halt_mode : s.halt.mode = ⟨.halted, some s.mode.mode, s.mode.drain⟩ := by simp [State.halt]

theorem testDrain_mode : s.testDrain.mode = s.mode ∨ s.testDrain.mode = ⟨.stopped, s.mode.saved, none⟩ := by
  unfold State.testDrain
  split
  · exact .inr (by simp)
  · exact .inl rfl

theorem testStop_mode : s.testStop.mode = s.mode ∨ s.testStop.mode = ⟨.stopped, s.mode.saved, none⟩ := by
  unfold State.testStop
  split
  · exact .inr (by simp)
  · exact .inl rfl

theorem actAs_mode (m : LineMode) : (s.actAs m).mode = s.mode ∨ (s.actAs m).mode = ⟨.stopped, s.mode.saved, none⟩ := by
  cases m with
  | run => exact .inl (by simp [State.actAs])
  | drain => simpa [State.actAs] using testDrain_mode (s := s.pursueGrant)
  | stopping => exact testStop_mode
  | stopped => exact .inl (by simp [State.actAs])
  | halted => exact .inl rfl

theorem failDrain_mode : s.failDrain.mode = ⟨.run, s.mode.saved, none⟩ := by
  have raised (u : State) (k : ReportKind) (n : Note) : (u.raise k n).mode = u.mode := (TablesHold.refl u).raise.mode
  have k : TablesHold s s.drainDetail.1 := (TablesHold.refl s).keeps ((keeps_drainDetail (by decide)).mpr keeps_refl)
  unfold State.failDrain
  split
  rename_i u _ e
  rw [e] at k
  have ku : u.mode = s.mode := k.mode
  simp [raised, ku]

/-- Outside HALTED no mode is saved, so that a mode other than HALTED, without a drain limit but in DRAIN, is as R174 allows. -/
theorem modeInv_of_mode {m : LineMode} {d : Option Nat} (i : ModeInv s) (hs : s.mode.mode ≠ .halted) (hm : m ≠ .halted)
    (hd : d.isSome → m = .drain) (e : t.mode = ⟨m, s.mode.saved, d⟩) : ModeInv t := by
  have hn : s.mode.saved = none := by simpa [hs] using i.1
  simp only [ModeInv, e, hn]
  exact ⟨by simp [hm], by simp, fun h => .inl (hd h)⟩

/-- A mode without saved mode and drain limit, other than HALTED, is as R174 allows. -/
theorem modeInv_fresh {m : LineMode} (hm : m ≠ .halted) (e : t.mode = ⟨m, none, none⟩) : ModeInv t := by
  simp [ModeInv, e, hm]

/-- A halt from a mode other than HALTED saves that mode (R180). -/
theorem modeInv_halt (i : ModeInv s) (hs : s.mode.mode ≠ .halted) : ModeInv s.halt := by
  have hn : s.mode.saved = none := by simpa [hs] using i.1
  refine ⟨by simp, by simpa using hs, fun h => .inr ?_⟩
  simpa [hn] using i.2.2 (by simpa using h)

/-- RESUME takes the saved mode, with no mode saved (R182). -/
theorem modeInv_leaveHalt (i : ModeInv s) (hs : s.mode.mode = .halted) : ModeInv s.leaveHalt := by
  obtain ⟨m, hm⟩ : ∃ m, s.mode.saved = some m := Option.isSome_iff_exists.mp (i.1.mpr hs)
  have hne : m ≠ .halted := fun h => i.2.1 (h ▸ hm)
  have hd : s.mode.drain.isSome → m = .drain := fun h => by simpa [hs, hm] using i.2.2 h
  have e := actAs_mode (s := (((s.modMode fun u => { u with saved := none }).anchorTimes.sendAll .resume).changeMode m .resumed)) m
  simp only [changeMode_mode, sendAll_mode, anchorTimes_mode, modMode_mode] at e
  have hl : s.leaveHalt = (((s.modMode fun u => { u with saved := none }).anchorTimes.sendAll .resume).changeMode m
      .resumed).actAs m := by simp [State.leaveHalt, State.savedMode, hm]
  rw [← hl] at e
  rcases e with e | e
  · simp only [ModeInv, e]
    exact ⟨by simp [hne], by simp, fun h => .inl (hd h)⟩
  · exact modeInv_fresh (by decide) e

/-! ### The requests on the mode (R185, R186) -/

theorem setRun_tables (i : TablesInv s) : TablesInv (setRun s).1 := by
  unfold setRun
  split
  · exact i
  rename_i hm
  split
  · exact i
  · exact (StoresHold.refl s).enterRun.tables
      (modeInv_of_mode i.mode (by rintro e; simp [e] at hm) (by decide) (by simp) (enterRun_mode _)) i

theorem setDrainMode_tables (i : TablesInv s) : TablesInv (setDrainMode s).1 := by
  unfold setDrainMode
  split
  · exact i
  rename_i hm
  have hs : s.mode.mode ≠ .halted := by rintro e; simp [e] at hm
  refine (((StoresHold.refl s).setDrain.changeMode).holds (TablesHold.refl _).pursueGrant).testDrain.tables ?_ i
  rcases testDrain_mode (s := (((s.setDrain (some (s.setting .drainLimit))).changeMode .drain .setMode)).pursueGrant) with e | e
  · exact modeInv_of_mode (d := some (s.setting .drainLimit)) i.mode hs (m := .drain) (by decide) (fun _ => rfl) (by simpa using e)
  · exact modeInv_of_mode (d := none) i.mode hs (m := .stopped) (by decide) (by simp) (by simpa using e)

theorem setStop_tables (i : TablesInv s) : TablesInv (setStop s).1 := by
  unfold setStop
  split
  · exact i
  rename_i hm
  have hs : s.mode.mode ≠ .halted := by rintro e; simp [State.working, e] at hm
  refine ((StoresHold.refl s).setDrain.changeMode).testStop.tables ?_ i
  rcases testStop_mode (s := ((s.setDrain none).changeMode .stopping .setMode)) with e | e
  · exact modeInv_of_mode (d := none) i.mode hs (m := .stopping) (by decide) (by simp) (by simpa using e)
  · exact modeInv_of_mode (d := none) i.mode hs (m := .stopped) (by decide) (by simp) (by simpa using e)

theorem resumeOp_tables (i : TablesInv s) : TablesInv (resumeOp s).1 := by
  unfold resumeOp
  split
  · exact i
  rename_i hm
  split
  · exact i
  · exact (StoresHold.refl s).leaveHalt.tables (modeInv_leaveHalt i.mode (by simpa using hm)) i

/-! ### Resets (R183, R184) -/

theorem endReset_modeInv {b : Bool} (i : ModeInv s) (hs : s.mode.mode ≠ .halted) : ModeInv (s.endReset b) := by
  unfold State.endReset
  split
  · exact modeInv_halt i hs
  · split
    · exact i
    · exact i

theorem lineReset_tables (n : Nat) (i : TablesInv s) : TablesInv (s.lineReset n) := by
  refine (StoresHold.lineReset n s).tables ?_ i
  have e : (s.emptied.sendResets.resetPlaces.raise .lineReset
      { detail := n, value := some s.track.records.length }).mode = ⟨.stopped, none, none⟩ :=
    (TablesHold.refl s.emptied).sendResets.resetPlaces.raise.mode
  exact (modeInv_congr (TablesHold.refl _).startWakes.settleSilently.mode).mpr
    (endReset_modeInv (modeInv_fresh (by decide) e) (by simp [e]))

theorem resetLineOp_tables (i : TablesInv s) : TablesInv (resetLineOp s).1 := by
  have k := lineReset_tables 1 i
  simpa only [resetLineOp] using k

/-- The default of a setting is a value of its range (R209). -/
theorem allows_default (k : Setting) : k.allows (tget defaultSettings k.idx) := by
  cases k with
  | zonePulses z => rcases z with (_ | _ | _) | _ | _ | _ <;> exact ⟨by decide, by decide⟩
  | division => exact .inr (.inl rfl)
  | printerDepth => exact .inr rfl
  | _ => exact ⟨by decide, by decide⟩

theorem settingsInv_default (e : s.settings = defaultSettings) : SettingsInv s := by
  intro k
  unfold State.setting
  rw [e]
  exact allows_default k

/-- The values of a full reset lie within their bounds. -/
theorem blank_tables : TablesInv s.blank where
  link := ⟨by simp [State.blank, linkReset], by simp [State.blank, linkReset], fun i => by simp [State.blank, linkReset]⟩
  settings := settingsInv_default rfl
  articles := ⟨by simp [State.blank], by simp [State.blank], by simp [State.blank]⟩
  loads := by simp [LoadsInv, State.blank]
  zero := by simp [ZeroInv, State.blank]
  mode := modeInv_fresh (by decide) rfl

theorem fullReset_tables : TablesInv s.fullReset := by
  have k : TablesHold s.blank ((s.blank.sendResets).modMerge fun m =>
      { m with gate := s.blank.sendResets.gateInputs }).resetPlaces := (TablesHold.refl _).sendResets.modMerge.resetPlaces
  have i := k.tables blank_tables
  unfold State.fullReset
  refine (TablesHold.refl _).purgeWatch.settleSilently.tables ?_
  refine (StoresHold.refl _).endReset.tables (endReset_modeInv i.mode ?_) i
  rw [k.mode]
  simp [State.blank]

theorem settingsReset_tables (i : TablesInv s) : TablesInv s.settingsReset := by
  have k : TablesInv ({ s with settings := defaultSettings } : State) :=
    ⟨i.link, settingsInv_default rfl, i.articles, i.loads, i.zero, i.mode⟩
  unfold State.settingsReset
  exact (((((TablesHold.refl _).modPlan rfl id).modBuffer).modLink id).modField).purgeWatch.tables k

theorem resetSettingsOp_tables (i : TablesInv s) : TablesInv (resetSettingsOp s).1 := by
  unfold resetSettingsOp
  split
  · exact i
  · exact settingsReset_tables i

/-! ### Settings (R194, R209) -/

theorem clampTo_bounds {lo hi : Nat} (h : lo ≤ hi) (v : Int) : lo ≤ clampTo lo hi v ∧ clampTo lo hi v ≤ hi := by
  unfold clampTo
  split
  · omega
  · split <;> omega

/-- The value applied is one that the setting may hold (R194). -/
theorem allows_applied (k : Setting) (v : Int) : k.allows (k.applied v) := by
  have ends : k.ends.1 ≤ k.ends.2 := by cases k <;> simp [Setting.ends]
  have range := clampTo_bounds ends v
  cases k with
  | division =>
    simp only [Setting.allows, Setting.applied]
    split
    · exact .inl rfl
    · split
      · exact .inr (.inl rfl)
      · split
        · exact .inr (.inr (.inl rfl))
        · exact .inr (.inr (.inr rfl))
  | printerDepth => simp only [Setting.allows, Setting.applied]; split <;> simp
  | _ => exact range

/-- The number of a setting names it (R209). -/
theorem settingOf_idx (k : Setting) : settingOf (k.idx.val + 1) = some k := by
  cases k with
  | zonePulses z => rcases z with (_ | _ | _) | _ | _ | _ <;> rfl
  | _ => rfl

theorem setting_idx_injective : Function.Injective Setting.idx := fun j k h =>
  Option.some.inj ((settingOf_idx j).symm.trans ((congrArg (fun i : Fin 33 => settingOf (i.val + 1)) h).trans (settingOf_idx k)))

/-- What a SET_SETTING restarts keeps the tables (R32, R33). -/
theorem TablesHold.settingTaken {k : Setting} (h : TablesHold r s) : TablesHold r (s.settingTaken k) :=
  h.keeps ((keeps_settingTaken (by decide)).mpr keeps_refl)

theorem setSettingOp_tables (n : Nat) (v : Int) (i : TablesInv s) : TablesInv (setSettingOp n v s).1 := by
  unfold setSettingOp
  split
  · exact i
  rename_i k _
  have set : TablesInv ({ s with settings := tset s.settings k.idx (k.applied v) } : State) := by
    refine ⟨i.link, fun j => ?_, i.articles, i.loads, i.zero, i.mode⟩
    unfold State.setting
    dsimp only
    rw [tget_tset]
    split
    · rename_i e
      exact setting_idx_injective e ▸ allows_applied k v
    · exact i.settings j
  exact (TablesHold.refl _).settingTaken.tables set

/-! ### Articles (R1, R16, R17) -/

/-- The records of a table in which one has been put (R16). -/
theorem mem_insertArticle {a b : Article} {t : List Article} (h : b ∈ insertArticle a t) : b = a ∨ b ∈ t := by
  induction t with
  | nil => simpa [insertArticle] using h
  | cons c t ih =>
    unfold insertArticle at h
    split at h
    · simpa using h
    · split at h
      · rcases List.mem_cons.mp h with h | h
        · exact .inl h
        · exact .inr (List.mem_cons_of_mem _ h)
      · rcases List.mem_cons.mp h with h | h
        · exact .inr (h ▸ List.mem_cons_self)
        · exact (ih h).imp_right (List.mem_cons_of_mem _)

/-- A record put keeps the ascending order of code (R1, R16). -/
theorem insertArticle_pairwise {a : Article} {t : List Article} (h : t.Pairwise fun a b => a.code < b.code) :
    (insertArticle a t).Pairwise fun a b => a.code < b.code := by
  induction t with
  | nil => simp [insertArticle]
  | cons c t ih =>
    obtain ⟨hc, ht⟩ := List.pairwise_cons.mp h
    unfold insertArticle
    split
    · rename_i hlt
      exact List.pairwise_cons.mpr ⟨fun b hb => (List.mem_cons.mp hb).elim (fun e => e ▸ hlt) fun hb => hlt.trans (hc b hb), h⟩
    · rename_i hge
      split
      · rename_i heq
        exact List.pairwise_cons.mpr ⟨fun b hb => (by simpa using heq : a.code = c.code) ▸ hc b hb, ht⟩
      · rename_i hne
        refine List.pairwise_cons.mpr ⟨fun b hb => (mem_insertArticle hb).elim (fun e => ?_) (hc b), ih ht⟩
        have : a.code ≠ c.code := by simpa using hne
        rw [e]
        omega

/-- In a table in ascending order, the record put is found under its code, and every other code finds what it found (R16). -/
theorem find?_insertArticle {a : Article} {t : List Article} (h : t.Pairwise fun a b => a.code < b.code) (n : Nat) :
    (insertArticle a t).find? (·.code == n) = if a.code = n then some a else t.find? (·.code == n) := by
  have first (t : List Article) : (a :: t).find? (·.code == n) = if a.code = n then some a else t.find? (·.code == n) := by
    by_cases hn : a.code = n
    · simp [hn]
    · rw [if_neg hn]
      exact List.find?_cons_of_neg (by simpa using hn)
  induction t with
  | nil => exact first []
  | cons c t ih =>
    obtain ⟨hc, ht⟩ := List.pairwise_cons.mp h
    unfold insertArticle
    split
    · exact first (c :: t)
    · split
      · rename_i heq
        have heq : a.code = c.code := by simpa using heq
        rw [first t]
        split
        · rfl
        · rename_i hn
          exact (List.find?_cons_of_neg (by simpa [← heq] using hn)).symm
      · rename_i hne
        have hne : a.code ≠ c.code := by simpa using hne
        by_cases hn : c.code = n
        · simp [hn, show ¬ a.code = n from fun e => hne (e.trans hn.symm)]
        · rw [List.find?_cons_of_neg (by simpa using hn), ih ht, List.find?_cons_of_neg (by simpa using hn)]

/-- A table holds one record more when the code put is new (R16). -/
theorem length_insertArticle {a : Article} {t : List Article} (h : t.Pairwise fun a b => a.code < b.code) :
    (insertArticle a t).length = if (t.find? (·.code == a.code)).isSome then t.length else t.length + 1 := by
  induction t with
  | nil => simp [insertArticle]
  | cons c t ih =>
    obtain ⟨hc, ht⟩ := List.pairwise_cons.mp h
    unfold insertArticle
    split
    · rename_i hlt
      have hnone : (c :: t).find? (·.code == a.code) = none := by
        simp only [List.find?_eq_none, List.mem_cons, beq_iff_eq]
        rintro b (rfl | hb)
        · omega
        · have := hc b hb; omega
      rw [hnone]; simp
    · split
      · rename_i heq
        have heq : a.code = c.code := by simpa using heq
        simp [heq]
      · rename_i hne
        have hne : ¬ c.code = a.code := fun e => hne (by simp [e])
        simp only [List.length_cons, ih ht, List.find?_cons]
        simp only [show (c.code == a.code) = false by simpa using hne]
        split <;> rfl

theorem putArticle_tables (n m : Nat) (x : Text) (i : TablesInv s) : TablesInv (putArticle n m x s).1 := by
  unfold putArticle
  split
  · exact i
  rename_i hr
  dsimp only
  split
  · exact i
  rename_i hf
  simp only [within, Bool.or_eq_true, Bool.not_eq_true', decide_eq_false_iff_not, not_or, not_not] at hr
  obtain ⟨⟨⟨⟨hn1, hn2⟩, hm1, hm2⟩, hx⟩, hp⟩ := hr
  have hp : ∀ c ∈ x, 32 ≤ c.toNat ∧ c.toNat ≤ 126 := by simpa [printable] using hp
  obtain ⟨hl, ho, hb⟩ := i.articles
  refine ⟨i.link, i.settings, ⟨?_, insertArticle_pairwise ho, fun a ha => ?_⟩, i.loads, i.zero, i.mode⟩
  · have hlen := length_insertArticle (a := ⟨n, m, x⟩) ho
    simp only [modPlan_plan, hlen]
    split
    · exact hl
    · rename_i hnew
      have hnone : (s.article? n).isSome = false := Bool.eq_false_iff.mpr hnew
      have hroom : s.plan.articles.length < Config.articleCapacity := by simpa [hnone] using hf
      exact hroom
  · rcases mem_insertArticle ha with rfl | ha
    · exact ⟨hn1, hn2, hm1, hm2, by simpa using hx, hp⟩
    · exact hb a ha

theorem dropArticle_tables (n : Nat) (i : TablesInv s) : TablesInv (dropArticle n s).1 := by
  unfold dropArticle
  split
  · exact i
  obtain ⟨hl, ho, hb⟩ := i.articles
  exact ⟨i.link, i.settings, ⟨(List.length_filter_le _ _).trans hl, ho.filter _, fun a ha => hb a (List.mem_of_mem_filter ha)⟩,
    i.loads, i.zero, i.mode⟩

/-! ### Every command -/

theorem serve_tables {kind : Nat} {how : Manner} {op : Service} {q : Req} (i : TablesInv s)
    (ho : ∀ u, TablesInv u → TablesInv (op u).1) : Leads TablesInv (.next (serve kind how op q s)) :=
  leads_next (serve_keeps (fun k j => k.tables j) ho i)

theorem execWakeHoldExpiry_tables (n : Infeed) (i : TablesInv s) : Leads TablesInv (execWakeHoldExpiry n s) := by
  unfold execWakeHoldExpiry
  refine leads_ite (fun h => leads_when (fun _ => ?_) ?_) fun _ => leads_next i
  · have hs : s.mode.mode = .stopped := by simpa using (Bool.and_eq_true_iff.mp h).2
    have m : ModeInv (s.stopWakes.enterRun .autoWake) :=
      modeInv_of_mode (m := .run) (d := none) i.mode (by simp [hs]) (by decide) (by simp) (by simp)
    exact ((StoresHold.refl _).holds (TablesHold.refl _).stopWakes).enterRun.holds (TablesHold.refl _).settle |>.tables
      ((modeInv_congr (TablesHold.refl _).settle.mode).mpr m) i
  · exact (TablesHold.refl s).stopWakes.tables i

theorem execEstop_tables (i : TablesInv s) : Leads TablesInv (execEstop s) := by
  unfold execEstop
  refine leads_ite (fun _ => leads_next i) fun _ => ?_
  have k : TablesInv (s.modField fun u => { u with estop := true }) := (TablesHold.refl s).modField.tables i
  refine leads_ite (fun _ => leads_next k) fun h => leads_next ?_
  exact (TablesHold.refl _).settle.tables
    ((StoresHold.refl _).halt.tables (modeInv_halt k.mode (by simpa using h)) k)

/-- The line enters STOPPED from a mode other than HALTED. -/
theorem enterStopped_tables {c : ModeCause} (i : TablesInv s) (hs : s.mode.mode ≠ .halted) :
    TablesInv (s.enterStopped c).settle :=
  (TablesHold.refl _).settle.tables ((StoresHold.refl s).enterStopped.tables
    (modeInv_of_mode i.mode hs (by decide) (by simp) (enterStopped_mode c)) i)

theorem execResetFull_tables (q : Req) (i : TablesInv s) : Leads TablesInv (execResetFull q s) := by
  unfold execResetFull
  refine leads_ite (fun _ => leads_next i) fun _ => leads_ite (fun _ => leads_next ((TablesHold.refl s).count.tables i)) fun _ =>
    leads_ite (fun _ => leads_next ?_) fun _ => leads_ite (fun _ => leads_next fullReset_tables) fun _ => leads_next ?_
  · split
    · exact fullReset_tables
    · exact i
  · exact (((TablesHold.refl s).modLink id).send).tables i

/-- Every command but a frame octet keeps the bounds of the tables. -/
theorem exec_tables {c : Instr} (hc : ∀ o, c ≠ .linkOctet o) (i : TablesInv s) : Leads TablesInv (exec c s) := by
  by_cases hr : Instr.rewrites c = false
  · exact fun t e => (exec_tablesHold hr t e).tables i
  cases c with
  | powerOn => exact leads_next fullReset_tables
  | resetPin => exact leads_next fullReset_tables
  | estop => exact execEstop_tables i
  | purgeHoldExpiry => exact leads_when (fun _ => lineReset_tables 2 ((TablesHold.refl s).modField.tables i)) i
  | wakeHoldExpiry n => exact execWakeHoldExpiry_tables n i
  | drainLimitExpiry =>
    refine leads_when (fun h => ?_) i
    have hs : s.mode.mode ≠ .halted := by rintro e; simp [e] at h
    exact (TablesHold.refl _).settle.tables ((StoresHold.refl s).failDrain.tables
      (modeInv_of_mode i.mode hs (by decide) (by simp) failDrain_mode) i)
  | drainCompleted => exact leads_when (fun h => enterStopped_tables i (by rintro e; simp [e] at h)) i
  | stopCompleted => exact leads_when (fun h => enterStopped_tables i (by rintro e; simp [e] at h)) i
  | linkOctet o => exact absurd rfl (hc o)
  | setSetting q n v => exact serve_tables i fun _ => setSettingOp_tables n v
  | articlePut q n m x => exact serve_tables i fun _ => putArticle_tables n m x
  | articleDrop q n => exact serve_tables i fun _ => dropArticle_tables n
  | setModeRun q => exact serve_tables i fun _ => setRun_tables
  | setModeDrain q => exact serve_tables i fun _ => setDrainMode_tables
  | setModeStop q => exact serve_tables i fun _ => setStop_tables
  | resume q => exact serve_tables i fun _ => resumeOp_tables
  | resetFull q => exact execResetFull_tables q i
  | resetLine q => exact serve_tables i fun _ => resetLineOp_tables
  | resetSettings q => exact serve_tables i fun _ => resetSettingsOp_tables
  | _ => exact absurd rfl hr

/-! ### The request of a frame (R191, R207) -/

/-- A command that no frame octet is. -/
def IsRequestRun (a : Answer) (s : State) : Prop := ∃ c, (∀ o, c ≠ Instr.linkOctet o) ∧ a = exec c s

/-- A payload is read as some fields and run as one request. -/
theorem withFields_isRequestRun {α : Type} {b : Bool} {rd : Reader α} {x : α} {p : List Octet} {run : Req → α → Answer}
    (h : ∀ q y, IsRequestRun (run q y) s) : IsRequestRun (withFields b rd x p run) s := by
  unfold withFields
  split
  · exact h _ _
  · exact h _ _

theorem runTable_isRequestRun (b : Bool) (p : List Octet) : IsRequestRun (runTable b p s) s := by
  unfold runTable
  split
  · exact withFields_isRequestRun fun q x => ⟨.setTableBands q x, by simp, rfl⟩
  · exact withFields_isRequestRun fun q x => ⟨.setTableBases q x, by simp, rfl⟩
  · exact withFields_isRequestRun fun q x => ⟨.setTableRecipes q x, by simp, rfl⟩
  · exact withFields_isRequestRun fun q x => ⟨.setTableWindows q x, by simp, rfl⟩
  · exact withFields_isRequestRun fun q x => ⟨.setTableReportMask q x, by simp, rfl⟩
  · exact ⟨.setTableBands ⟨b, true⟩ [], by simp, rfl⟩

theorem runArticleGet_isRequestRun (q : Req) (n f : Nat) : IsRequestRun (runArticleGet q n f s) s := by
  unfold runArticleGet
  split
  · exact ⟨.articleGet q n .exact, by simp, rfl⟩
  · exact ⟨.articleGet q n .next, by simp, rfl⟩
  · exact ⟨.articleGet { q with whole := false } n .exact, by simp, rfl⟩

theorem runMode_isRequestRun (q : Req) (n : Nat) : IsRequestRun (runMode q n s) s := by
  unfold runMode
  split
  · exact ⟨.setModeRun q, by simp, rfl⟩
  · exact ⟨.setModeDrain q, by simp, rfl⟩
  · exact ⟨.setModeStop q, by simp, rfl⟩
  · exact ⟨.setModeRun { q with whole := false }, by simp, rfl⟩

theorem runReset_isRequestRun (q : Req) (n : Nat) : IsRequestRun (runReset q n s) s := by
  unfold runReset
  split
  · exact ⟨.resetFull q, by simp, rfl⟩
  · exact ⟨.resetLine q, by simp, rfl⟩
  · exact ⟨.resetSettings q, by simp, rfl⟩
  · exact ⟨.resetLine { q with whole := false }, by simp, rfl⟩

theorem runLow_isRequestRun {b : Bool} {k : Nat} {p : List Octet} {a : Answer} (e : runLow b k p s = some a) :
    IsRequestRun a s := by
  unfold runLow at e
  split at e <;> cases e
  · exact withFields_isRequestRun fun q x => ⟨.identify q, by simp, rfl⟩
  · exact withFields_isRequestRun fun q x => ⟨.setIdentity q x, by simp, rfl⟩
  · exact withFields_isRequestRun fun q x => ⟨.setSetting q x.1 x.2, by simp, rfl⟩
  · exact withFields_isRequestRun fun q x => ⟨.getSetting q x, by simp, rfl⟩
  · exact runTable_isRequestRun b p
  · exact withFields_isRequestRun fun q x => ⟨.getTable q x, by simp, rfl⟩
  · exact withFields_isRequestRun fun q x => ⟨.takeReports q, by simp, rfl⟩
  · exact withFields_isRequestRun fun q x => ⟨.readCounters q x, by simp, rfl⟩
  · exact withFields_isRequestRun fun q x => ⟨.articlePut q x.1 x.2.1 x.2.2, by simp, rfl⟩
  · exact withFields_isRequestRun fun q x => ⟨.articleDrop q x, by simp, rfl⟩
  · exact withFields_isRequestRun fun q x => runArticleGet_isRequestRun q x.1 x.2
  · exact withFields_isRequestRun fun q x => ⟨.loadCreate q x.1 x.2.1 x.2.2.1 x.2.2.2, by simp, rfl⟩
  · exact withFields_isRequestRun fun q x => ⟨.slotAdd q x.1 x.2.1 x.2.2.1 x.2.2.2.1 x.2.2.2.2.1 x.2.2.2.2.2.1 x.2.2.2.2.2.2,
      by simp, rfl⟩
  · exact withFields_isRequestRun fun q x => ⟨.slotSkip q x.1 x.2, by simp, rfl⟩
  · exact withFields_isRequestRun fun q x => ⟨.loadBind q x.1 x.2, by simp, rfl⟩
  · exact withFields_isRequestRun fun q x => ⟨.loadUnbind q x, by simp, rfl⟩
  · exact withFields_isRequestRun fun q x => ⟨.loadClose q x, by simp, rfl⟩
  · exact withFields_isRequestRun fun q x => ⟨.readLoad q x.1 x.2.1 x.2.2, by simp, rfl⟩

theorem runHigh_isRequestRun {b : Bool} {k : Nat} {p : List Octet} {a : Answer} (e : runHigh b k p s = some a) :
    IsRequestRun a s := by
  unfold runHigh at e
  split at e <;> cases e
  · exact withFields_isRequestRun fun q x => ⟨.placeClear q x, by simp, rfl⟩
  · exact withFields_isRequestRun fun q x => ⟨.listPlaces q, by simp, rfl⟩
  · exact withFields_isRequestRun fun q x => ⟨.readZones q (x != 0), by simp, rfl⟩
  · exact withFields_isRequestRun fun q x => ⟨.infeedSet q x.1 x.2, by simp, rfl⟩
  · exact withFields_isRequestRun fun q x => ⟨.readPallet q x, by simp, rfl⟩
  · exact withFields_isRequestRun fun q x => ⟨.listPallets q x.1 x.2, by simp, rfl⟩
  · exact withFields_isRequestRun fun q x => ⟨.palletRemove q x, by simp, rfl⟩
  · exact withFields_isRequestRun fun q x => ⟨.zeroScale q, by simp, rfl⟩
  · exact withFields_isRequestRun fun q x => ⟨.stationResume q x, by simp, rfl⟩
  · exact withFields_isRequestRun fun q x => ⟨.forceRelease q x, by simp, rfl⟩
  · exact withFields_isRequestRun fun q x => ⟨.laneHalt q x, by simp, rfl⟩
  · exact withFields_isRequestRun fun q x => ⟨.laneResume q x, by simp, rfl⟩
  · exact withFields_isRequestRun fun q x => ⟨.readLane q x, by simp, rfl⟩
  · exact withFields_isRequestRun fun q x => runMode_isRequestRun q x
  · exact withFields_isRequestRun fun q x => ⟨.resume q, by simp, rfl⟩
  · exact withFields_isRequestRun fun q x => runReset_isRequestRun q x

/-- The request of a frame is one of the commands (R207). -/
theorem runRequest_isRequestRun (b : Bool) (k : Nat) (p : List Octet) : IsRequestRun (runRequest b k p s) s := by
  unfold runRequest
  split
  · exact runLow_isRequestRun ‹_›
  · split
    · exact runHigh_isRequestRun ‹_›
    · exact ⟨.unknownKind ⟨b, true⟩ k, by simp, rfl⟩

theorem TablesHold.receive {x : Receiver} (h : TablesHold r s) : TablesHold r (s.receive x) := h.modLink id

/-- A frame octet that does not complete a frame keeps the tables (R189). -/
theorem execLinkOctet_tablesHold {o : Octet} (hn : ¬ EndsFrame (.linkOctet o) s) : Leads (TablesHold s) (execLinkOctet o s) := by
  have h : TablesHold s s := .refl s
  unfold execLinkOctet
  split
  · exact leads_when (fun _ => h.receive) h
  · rename_i f gap e
    unfold State.appendOctet
    refine leads_ite (fun _ => leads_next h.discardFrame) fun _ => leads_ite (fun hw => ?_) fun _ => leads_next h.receive
    refine absurd ⟨o, f, gap, rfl, e, ?_⟩ hn
    simpa using (Bool.and_eq_true_iff.mp hw).2

/-- A frame octet keeps the bounds of the tables: the frame is discarded, waited on, or run as a request. -/
theorem execLinkOctet_tables {o : Octet} (i : TablesInv s) : Leads TablesInv (execLinkOctet o s) := by
  have h : TablesHold s s := .refl s
  have run (b : Bool) (k : Nat) (p : List Octet) : Leads TablesInv (runRequest b k p (s.receive .hunting)) := by
    obtain ⟨c, hc, e⟩ := runRequest_isRequestRun (s := s.receive .hunting) b k p
    rw [e]
    exact exec_tables hc (h.receive.tables i)
  unfold execLinkOctet
  split
  · exact leads_when (fun _ => h.receive.tables i) i
  · unfold State.appendOctet State.acceptFrame
    refine leads_ite (fun _ => leads_next (h.discardFrame.tables i)) fun _ =>
      leads_ite (fun _ => ?_) fun _ => leads_next (h.receive.tables i)
    refine leads_ite (fun _ => ?_) fun _ => leads_next (h.discardFrame.tables i)
    have hs := leads_next (h.receive (x := .hunting) |>.tables i)
    exact leads_ite (fun _ => hs) fun _ => leads_ite (fun _ => run _ _ _) fun _ => leads_ite (fun _ => run _ _ _) fun _ => hs

/-! ### The passing of time -/

/-- One centisecond keeps the tables but for the drain limit, which stays where it was. -/
theorem tick_tables (i : TablesInv s) : TablesInv s.tick := by
  have always : TablesHold s s.tickAlways := (TablesHold.refl s).keeps ((keeps_tickAlways (by decide)).mpr keeps_refl)
  unfold State.tick
  split
  · exact always.tables i
  · have j := always.tables i
    have running : StoresHold s.tickAlways s.tickAlways.tickRunning :=
      ⟨rfl, rfl, id, id, id⟩
    refine running.tables ?_ j
    have hd : s.tickAlways.tickRunning.mode = { s.tickAlways.mode with drain := onward s.tickAlways.mode.drain } := rfl
    obtain ⟨h1, h2, h3⟩ := j.mode
    simp only [ModeInv, hd]
    exact ⟨h1, h2, fun h => h3 (by simpa [onward] using h)⟩

theorem step_tables (i : TablesInv s) : Leads TablesInv (step s) := by
  unfold step
  split
  · exact leads_next (tick_tables i)
  · rename_i c rest _
    have j : TablesInv ({ s with pending := rest } : State) := ⟨i.link, i.settings, i.articles, i.loads, i.zero, i.mode⟩
    by_cases hc : ∀ o, c ≠ .linkOctet o
    · exact exec_tables hc j
    · push Not at hc
      obtain ⟨o, rfl⟩ := hc
      exact execLinkOctet_tables j

/-- Settles O55: the bounds are taken together, and every command keeps them. -/
theorem theTablesStayInRange : Obligations.TheTablesStayInRange := by
  intro s t hl hs ha hd hz hm e
  obtain ⟨hl', hs', ha', hd', hz', hm'⟩ := step_tables ⟨hl, hs, ha, hd, hz, hm⟩ t e
  exact ⟨hl', hs', ha', hd', hz', hm'⟩

end Sys2Proof.Machine
end

section
/-! SUPPORT. A request that is taken or refused, and the reports that an operation queues (R191, R192, R197). -/

namespace Sys2Proof.Machine

open State

variable {bs : List Block} {r s t u : State} {kind : Nat} {q : Req} {code : Result} {body : ReplyBody}

/-! ### Requests -/

/-- A state reached by bringing the derived signals up to date and sending the reply is one that has replied, when nothing was
sent on the way. -/
theorem replied_settle (hs : t.sent = s.sent) (ha : t.link.answering = true) :
    Replied s (t.settle.send (s.reply kind code body)) kind code body := by
  simp [Replied, ha, hs, State.reply, State.send]

/-- What an operation leaves alone, the request leaves alone but for the derived parts. -/
theorem requestKeeps_settle {m : Message} (k : KeepsAllBut bs s.asked t) : RequestKeeps bs s (t.settle.send m) := by
  unfold RequestKeeps
  rw [keeps_send (by simp), keeps_settle (by simp [derived])]
  exact ((keeps_asked (by simp)).mpr keeps_refl).trans (k.mono (by simp))

theorem RequestKeeps.mono {cs : List Block} (k : RequestKeeps bs s t) (h : bs ⊆ cs ++ .answering :: .sent :: derived) :
    RequestKeeps cs s t :=
  KeepsAllBut.mono k fun _ hb => (List.mem_append.mp hb).elim (@h _) (List.mem_append_right cs)

/-- A request that changes no more than the parts named, and is taken: its answer, the reply alone sent, and its frame. -/
theorem serve_changed {op : Service} (h : Addressed q s) (e : op s.asked = (t, code, body)) (ht : code.isTaken = true)
    (k : KeepsAllBut bs s.asked t) (hs : .sent ∉ bs := by decide) (ha : .answering ∉ bs := by decide) :
    serve kind .changes op q s = t.settle.send (s.reply kind code body)
      ∧ Replied s (t.settle.send (s.reply kind code body)) kind code body
      ∧ RequestKeeps bs s (t.settle.send (s.reply kind code body)) :=
  ⟨serve_taken h e ht (by decide), replied_settle (k .sent hs) (k .answering ha), requestKeeps_settle k⟩

/-- A command that is a request which changes no more than the parts named, and is taken. -/
theorem request_changed {c : Instr} {op : Service} (hc : exec c s = .next (serve kind .changes op q s)) (h : Addressed q s)
    (e : op s.asked = (t, code, body)) (ht : code.isTaken = true) (k : KeepsAllBut bs s.asked t)
    (hs : .sent ∉ bs := by decide) (ha : .answering ∉ bs := by decide) :
    exec c s = .next (t.settle.send (s.reply kind code body))
      ∧ Replied s (t.settle.send (s.reply kind code body)) kind code body
      ∧ RequestKeeps bs s (t.settle.send (s.reply kind code body)) := by
  obtain ⟨es, hr, hk⟩ := serve_changed (kind := kind) h e ht k hs ha
  exact ⟨by rw [hc, es], hr, hk⟩

/-- A command that is a request which is refused. -/
theorem request_refused {c : Instr} {how : Manner} {op : Service} (hc : exec c s = .next (serve kind how op q s))
    (h : Addressed q s) (e : op s.asked = (t, code, body)) (ht : code.isTaken = false) :
    exec c s = .next (s.answers kind code body) := by rw [hc, serve_refused h e ht]

/-- A command that is a request which only reads. -/
theorem request_read {c : Instr} {op : Service} (hc : exec c s = .next (serve kind .reads op q s)) (h : Addressed q s)
    (e : op s.asked = (s.asked, code, body)) : exec c s = .next (s.answers kind code body) := by rw [hc, serve_read h e]

@[simp] theorem send_load? {m : Message} (id : Nat) : (s.send m).load? id = s.load? id := rfl
@[simp] theorem send_article? {m : Message} (n : Nat) : (s.send m).article? n = s.article? n := rfl
@[simp] theorem send_record? {m : Message} (n : Nat) : (s.send m).record? n = s.record? n := rfl

/-! ### Reports (R197) -/

/-- From one state to another a list of reports joins the queue, where no kind is masked and there is room for them, and no overflow
is marked; the mask is the same. -/
structure Queues (s t : State) (new : List Report) : Prop where
  mask : t.link.mask = s.link.mask
  reports : s.link.mask = Vector.replicate 26 true → s.link.reports.length + new.length ≤ 64 →
    t.link.reports = s.link.reports ++ new
  overflow : s.link.mask = Vector.replicate 26 true → s.link.reports.length + new.length ≤ 64 →
    t.link.overflow = s.link.overflow

namespace Queues

theorem of_keeps (k : KeepsAllBut bs s t) (hq : .queue ∉ bs := by decide) (hm : .mask ∉ bs := by decide) : Queues s t [] :=
  ⟨k .mask hm, fun _ _ => by simpa using (k .queue hq).1, fun _ _ => (k .queue hq).2.1⟩

theorem refl (s : State) : Queues s s [] := ⟨rfl, fun _ _ => by simp, fun _ _ => rfl⟩

theorem trans {a b : List Report} (h : Queues s t a) (k : Queues t u b) : Queues s u (a ++ b) where
  mask := k.mask.trans h.mask
  reports hm hl := by
    simp only [List.length_append] at hl
    have ht := h.reports hm (by omega)
    rw [k.reports (h.mask.trans hm) (by rw [ht, List.length_append]; omega), ht, List.append_assoc]
  overflow hm hl := by
    simp only [List.length_append] at hl
    have ht := h.reports hm (by omega)
    rw [k.overflow (h.mask.trans hm) (by rw [ht, List.length_append]; omega), h.overflow hm (by omega)]

/-- A report raised joins the queue. -/
theorem raise (k : ReportKind) (n : Note) : Queues s (s.raise k n) [s.report k n] := by
  obtain ⟨hm, e⟩ | ⟨-, -, e⟩ | ⟨hm, hl, e⟩ := s.raise_cases k n <;> rw [e]
  · exact ⟨rfl, fun h _ => (by rw [h, tget_replicate] at hm; cases hm), fun _ _ => rfl⟩
  · exact ⟨rfl, fun _ _ => rfl, fun _ _ => rfl⟩
  · exact ⟨rfl, fun _ h => by simp at h; omega, fun _ h => by simp at h; omega⟩

end Queues

/-- The kinds of report that the derived signals raise: of a station, of a lane, and of a deadlock. -/
def SettleKind (x : Report) : Prop := x.kind = .stationChange ∨ x.kind = .laneChange ∨ x.kind = .deadlock

/-- From one state to another only reports of a certain sort join the queue, whether or not there is room for them. -/
def Grows (p : Report → Prop) (s t : State) : Prop := ∃ rest, t.link.reports = s.link.reports ++ rest ∧ ∀ y ∈ rest, p y

namespace Grows

variable {p : Report → Prop}

theorem of_keeps (k : KeepsAllBut bs s t) (hq : .queue ∉ bs := by decide) : Grows p s t := ⟨[], by simp [(k .queue hq).1], by simp⟩

theorem refl (s : State) : Grows p s s := ⟨[], by simp, by simp⟩

theorem trans (h : Grows p s t) (k : Grows p t u) : Grows p s u := by
  obtain ⟨a, ha, hp⟩ := h
  obtain ⟨b, hb, hq⟩ := k
  exact ⟨a ++ b, by rw [hb, ha, List.append_assoc], fun y hy => (List.mem_append.mp hy).elim (hp y) (hq y)⟩

theorem raise {k : ReportKind} {n : Note} (h : p (s.report k n)) : Grows p s (s.raise k n) := by
  obtain ⟨-, e⟩ | ⟨-, -, e⟩ | ⟨-, -, e⟩ := s.raise_cases k n <;> rw [e]
  · exact refl s
  · exact ⟨[s.report k n], rfl, by simpa using h⟩
  · exact ⟨[], by simp, by simp⟩

theorem foldl {α : Type} {f : State → α → State} (hf : ∀ (s : State) (x : α), Grows p s (f s x)) (l : List α) (s : State) :
    Grows p s (l.foldl f s) := by
  induction l generalizing s with
  | nil => exact refl s
  | cons x l ih => exact (hf s x).trans (ih (f s x))

end Grows

theorem settleStation_grows (st : Station) : Grows SettleKind s (s.settleStation st) := by
  unfold State.settleStation
  dsimp only
  split
  · exact .refl s
  · exact (Grows.of_keeps ((keeps_setReported (bs := [.reported]) (by simp)).mpr keeps_refl)).trans (.raise (.inl rfl))

theorem settleLane_grows (l : Lane) : Grows SettleKind s (s.settleLane l) := by
  unfold State.settleLane
  dsimp only
  split
  · exact .refl s
  · exact (Grows.of_keeps ((keeps_modLane (bs := [.laneStates]) (by simp) (by simp)).mpr keeps_refl)).trans
      (.raise (.inr (.inl rfl)))

theorem settleDeadlock_grows (s : State) : Grows SettleKind s s.settleDeadlock := by
  have k (b : Bool) : Grows SettleKind s (s.modBuffer fun u => { u with deadlock := b }) :=
    .of_keeps (bs := [.deadlock]) ((keeps_modBuffer (by simp) (by simp) (by simp)).mpr keeps_refl)
  unfold State.settleDeadlock
  split <;> split
  · exact .refl s
  · exact (k true).trans (.raise (.inr (.inr rfl)))
  · exact k false
  · exact .refl s

/-- Bringing the derived signals up to date queues reports of the kinds of the derived signals alone. -/
theorem settle_grows (s : State) : Grows SettleKind s s.settle := by
  have g : Grows SettleKind s s.settleGrant.settleRequests :=
    .of_keeps (bs := [.grant]) ((keeps_settleRequests (by simp)).mpr ((keeps_settleGrant (by simp)).mpr keeps_refl))
  have o (u : State) : Grows SettleKind u u.settlePrint.settleOutputs :=
    .of_keeps (bs := [.outputs, .printLimit]) ((keeps_settleOutputs (by simp)).mpr ((keeps_settlePrint (by simp)).mpr keeps_refl))
  exact (((g.trans (Grows.foldl (fun _ _ => settleStation_grows _) allStations _)).trans
    (Grows.foldl (fun _ _ => settleLane_grows _) allLanes _)).trans (settleDeadlock_grows _)).trans (o _)

/-- With the queue open, the reports of an operation that queues at most thirty-two stand first among those that join it in a
request or a command, followed by reports of the derived signals. -/
theorem Queues.settled {new : List Report} (h : Queues s t new) (hn : new.length ≤ 32) (ho : QueueOpen s) :
    ∃ rest, t.settle.link.reports = s.link.reports ++ (new ++ rest) ∧ ∀ y ∈ rest, SettleKind y := by
  obtain ⟨rest, hr, hk⟩ := settle_grows t
  have := ho.2
  exact ⟨rest, by rw [hr, h.reports ho.1 (by omega), List.append_assoc], hk⟩

/-- A report that an operation queues stands in the queue at the end of the step. -/
theorem Queues.reported {new : List Report} {x : Report} {p : Report → Prop} {k : ReportKind} (h : Queues s t new)
    (hx : x ∈ new) (hk : x.kind = k) (hp : p x) (ho : QueueOpen s) (hn : new.length ≤ 32 := by simp) :
    Reported t.settle k p := by
  obtain ⟨rest, e, -⟩ := h.settled hn ho
  exact ⟨x, by rw [e]; simp [hx], hk, hp⟩

/-- The reports of a request that is taken, with the queue open. -/
theorem Queues.requested {new : List Report} {m : Message} (h : Queues s.asked t new) (ho : QueueOpen s)
    (hn : new.length ≤ 32 := by simp) :
    ∃ rest, (t.settle.send m).link.reports = s.link.reports ++ (new ++ rest) ∧ ∀ y ∈ rest, SettleKind y := by
  simpa only [send_link, asked_link_reports] using h.settled (s := s.asked) hn ho

/-- A report that a request queues stands in the queue at the end of the step. -/
theorem Queues.requestReported {new : List Report} {x : Report} {p : Report → Prop} {k : ReportKind} {m : Message}
    (h : Queues s.asked t new) (hx : x ∈ new) (hk : x.kind = k) (hp : p x) (ho : QueueOpen s) (hn : new.length ≤ 32 := by simp) :
    Reported (t.settle.send m) k p := by
  obtain ⟨rest, e, -⟩ := h.requested (m := m) ho hn
  exact ⟨x, by rw [e]; simp [hx], hk, hp⟩

end Sys2Proof.Machine
end

section
/-! SUPPORT. Reading the state after a change: through a frame, and through a change of one entry of a list or table. -/

namespace Sys2Proof.Machine

open State

variable {bs : List Block} {r s t u : State}

/-! ### Reading through a frame -/

namespace KeepsAllBut

variable (k : KeepsAllBut bs s t)

include k in
theorem record? (n : Nat) (h : .records ∉ bs := by decide) : t.record? n = s.record? n := by
  unfold State.record?; rw [k .records h]

include k in
theorem refOf (n : Nat) (h : .records ∉ bs := by decide) : t.refOf n = s.refOf n := by
  unfold State.refOf; rw [k.record? n h]

include k in
theorem load? (id : Nat) (h : .loads ∉ bs := by decide) : t.load? id = s.load? id := by
  unfold State.load?; rw [k .loads h]

include k in
theorem boundLoad (l : Lane) (h : .loads ∉ bs := by decide) : t.boundLoad l = s.boundLoad l := by
  unfold State.boundLoad; rw [k .loads h]

include k in
theorem slot? (ref : LoadRef) (h : .loads ∉ bs := by decide) : t.slot? ref = s.slot? ref := by
  unfold State.slot?; rw [k.load? ref.load h]

include k in
theorem tagIndex (d : Text) (h : .loads ∉ bs := by decide) : t.tagIndex d = s.tagIndex d := by
  unfold State.tagIndex; rw [k .loads h]

include k in
theorem place (p : Place) (h : .places ∉ bs := by decide) : t.place p = s.place p := by
  unfold State.place; rw [k .places h]

include k in
theorem move? (n : Nat) (h : .moves ∉ bs := by decide) : t.move? n = s.move? n := by
  unfold State.move?; rw [k .moves h]

include k in
theorem scanner (sc : Scanner) (h : .scanners ∉ bs := by decide) : t.scanner sc = s.scanner sc := by
  unfold State.scanner; rw [k .scanners h]

include k in
theorem wrapper (w : Side) (h : .wrap ∉ bs := by decide) : t.wrapper w = s.wrapper w := by
  unfold State.wrapper; rw [k .wrap h]

include k in
theorem staging (w : Side) (h : .wrap ∉ bs := by decide) : t.staging w = s.staging w := by
  unfold State.staging; rw [k .wrap h]

include k in
theorem setting (x : Setting) (h : .settings ∉ bs := by decide) : t.setting x = s.setting x := by
  unfold State.setting; rw [k .settings h]

include k in
theorem input (i : Input) (h : .filtered ∉ bs := by decide) : t.input i = s.input i := by
  unfold State.input; rw [k .filtered h]

include k in
theorem covered (p : Place) (h : .filtered ∉ bs := by decide) : t.covered p = s.covered p := by
  cases p <;> simp only [State.covered, k.input _ h]

include k in
theorem occupancy (p : Place) (h : .places ∉ bs := by decide) (hl : .lanes ∉ bs := by decide) :
    t.occupancy p = s.occupancy p := by
  cases p with
  | lane l => exact (k .lanes hl l).1
  | _ => simp only [State.occupancy, k.place _ h]

include k in
theorem hasRoom (p : Place) (h : .places ∉ bs := by decide) (hl : .lanes ∉ bs := by decide) : t.hasRoom p = s.hasRoom p := by
  simp only [State.hasRoom, k.place p h, k.occupancy p h hl]

include k in
theorem queueOpen (h : QueueOpen s) (hq : .queue ∉ bs := by decide) (hm : .mask ∉ bs := by decide) : QueueOpen t := by
  unfold QueueOpen; rw [k .mask hm, (k .queue hq).1]; exact h

end KeepsAllBut

/-! ### A list of entries with keys -/

section
variable {α : Type} {key : α → Nat} {f : α → α} {n : Nat}

/-- A key finds what it found after the entries of one key are changed: the entry of that key, changed. -/
theorem find?_map_key (hf : ∀ x, key (f x) = key x) (l : List α) (c : Nat) :
    (l.map fun x => if key x == n then f x else x).find? (fun x => key x == c)
      = if c = n then (l.find? fun x => key x == n).map f else l.find? fun x => key x == c := by
  have hk (x : α) : key (if key x == n then f x else x) = key x := by split <;> simp [hf]
  rw [List.find?_map]
  simp only [Function.comp_def, hk]
  rcases e : l.find? (fun x => key x == c) with _ | x
  · split
    · subst c; simp [e]
    · rfl
  · have hx : key x = c := by simpa using List.find?_some e
    by_cases hc : c = n
    · rw [if_pos hc, ← hc, e]
      simp [hx, hc]
    · rw [if_neg hc]
      simp [hx, hc]

/-- A key finds what it found after the entries of another key are dropped. -/
theorem find?_filter_key (l : List α) (c : Nat) :
    (l.filter fun x => key x != n).find? (fun x => key x == c) = if c = n then none else l.find? fun x => key x == c := by
  split
  · subst c
    simp [List.find?_eq_none]
  · rename_i h
    rw [List.find?_filter]
    congr 1
    funext x
    by_cases hx : key x = c <;> simp [hx, h]

end

/-! ### Records, moves, loads and slots -/

/-- The records after one is changed. -/
theorem modRecord_record? {n : Nat} {f : Record → Record} (c : Nat) (hf : ∀ x, (f x).number = x.number := by intro _; rfl) :
    (s.modRecord n f).record? c = if c = n then (s.record? n).map f else s.record? c := find?_map_key hf _ c

theorem record?_number {n : Nat} {x : Record} (h : s.record? n = some x) : x.number = n := by simpa using List.find?_some h

theorem record?_mem {n : Nat} {x : Record} (h : s.record? n = some x) : x ∈ s.track.records := List.mem_of_find?_eq_some h

/-- A change of a record that keeps its load reference. -/
theorem modRecord_refOf {n : Nat} {f : Record → Record} (c : Nat)
    (hf : ∀ x, (f x).number = x.number ∧ (f x).ref = x.ref := by intro _; exact ⟨rfl, rfl⟩) :
    (s.modRecord n f).refOf c = s.refOf c := by
  unfold State.refOf
  rw [modRecord_record? c fun x => (hf x).1]
  split
  · subst c; cases s.record? n <;> simp [hf]
  · rfl

/-- The moves after one is changed. -/
theorem modMove_move? {n : Nat} {f : Move → Move} (c : Nat) (hf : ∀ x, (f x).track = x.track := by intro _; rfl) :
    (s.modMove n f).move? c = if c = n then (s.move? n).map f else s.move? c := find?_map_key hf _ c

theorem removeMove_move? {n : Nat} (c : Nat) : (s.removeMove n).move? c = if c = n then none else s.move? c :=
  find?_filter_key _ c

theorem move?_track {n : Nat} {m : Move} (h : s.move? n = some m) : m.track = n := by simpa using List.find?_some h

theorem move?_mem {n : Nat} {m : Move} (h : s.move? n = some m) : m ∈ s.field.moves := List.mem_of_find?_eq_some h

/-- The loads after one is changed. -/
theorem modLoad_load? {id : Nat} {f : Load → Load} (c : Nat) (hf : ∀ x, (f x).id = x.id := by intro _; rfl) :
    (s.modLoad id f).load? c = if c = id then (s.load? id).map f else s.load? c := find?_map_key hf _ c

/-- A slot that a change of its load's slots reaches. -/
def Load.modSlotAt (l : Load) (pos : Nat) (f : Slot → Slot) : Load :=
  if pos == 0 then l else { l with slots := l.slots.modify (pos - 1) f }

@[simp] theorem Load.modSlotAt_id (l : Load) (pos : Nat) (f : Slot → Slot) : (l.modSlotAt pos f).id = l.id := by
  unfold Load.modSlotAt; split <;> rfl

theorem Load.modSlotAt_slotAt (l : Load) (pos : Nat) (f : Slot → Slot) (c : Nat) :
    (l.modSlotAt pos f).slotAt c = if c = pos then (l.slotAt pos).map f else l.slotAt c := by
  unfold Load.modSlotAt Load.slotAt
  by_cases hc : c = 0 <;> by_cases hp : pos = 0 <;> simp [hc, hp]
  · intro h; exact absurd h.symm hp
  · rw [List.getElem?_modify]
    by_cases h : c = pos
    · subst c; simp
    · simp [h, show pos - 1 ≠ c - 1 by omega]

theorem modSlot_load? {ref : LoadRef} {f : Slot → Slot} (c : Nat) :
    (s.modSlot ref f).load? c
      = if c = ref.load then (s.load? ref.load).map (·.modSlotAt ref.position f) else s.load? c :=
  modLoad_load? c fun x => x.modSlotAt_id ref.position f

/-- The slots after one is changed. -/
theorem modSlot_slot? {ref : LoadRef} {f : Slot → Slot} (c : LoadRef) :
    (s.modSlot ref f).slot? c = if c = ref then (s.slot? ref).map f else s.slot? c := by
  unfold State.slot?
  rw [modSlot_load?]
  by_cases h : c.load = ref.load
  · have hc : c = ref ↔ c.position = ref.position := by
      obtain ⟨a, b⟩ := c; obtain ⟨a', b'⟩ := ref; simp_all
    rw [if_pos h, h]
    simp only [hc]
    cases s.load? ref.load with
    | none => simp
    | some l => simp [Load.modSlotAt_slotAt]
  · rw [if_neg h, if_neg fun e => h (congrArg LoadRef.load e)]

theorem slot?_load {ref : LoadRef} {sl : Slot} (h : s.slot? ref = some sl) :
    ∃ l, s.load? ref.load = some l ∧ l.slotAt ref.position = some sl := Option.bind_eq_some_iff.mp h

/-! ### Places, scanners, wrappers and staging -/

theorem side_idx_injective : Function.Injective Side.idx := by intro a b; cases a <;> cases b <;> decide

theorem infeed_idx_injective : Function.Injective Infeed.idx := by intro i j; cases i <;> cases j <;> decide

theorem counter_idx_injective : Function.Injective Counter.idx := by
  intro a b
  rcases a with (_ | _ | _) | _ | _ | _ | _ | _ | _ | _ | _ <;> rcases b with (_ | _ | _) | _ | _ | _ | _ | _ | _ | _ | _ <;>
    decide

theorem scanner_idx_injective : Function.Injective Scanner.idx := by
  intro a b
  rcases a with (_ | _ | _) | _ | _ <;> rcases b with (_ | _ | _) | _ | _ <;> decide

/-- The places in the order of their numbers, so that each number is that of one place. -/
theorem allPlaces_idx : allPlaces.map Place.idx = List.finRange 34 := by decide

theorem mem_allPlaces (p : Place) : p ∈ allPlaces := by
  cases p with
  | infeed i => cases i <;> decide
  | staging k => cases k <;> decide
  | wrapper k => cases k <;> decide
  | spur sp => cases sp <;> decide
  | position p => revert p; decide
  | lane l => revert l; decide
  | _ => decide

theorem place_idx_injective : Function.Injective Place.idx := by
  have hn : (allPlaces.map Place.idx).Nodup := by rw [allPlaces_idx]; exact List.nodup_finRange 34
  exact fun p q h => List.inj_on_of_nodup_map hn (mem_allPlaces p) (mem_allPlaces q) h

theorem modPlace_place (p : Place) (f : PlaceEntry → PlaceEntry) (c : Place) :
    (s.modPlace p f).place c = if c = p then f (s.place p) else s.place c := by
  show tget (tmod s.field.places p.idx f) c.idx = _
  rw [tget_tmod]
  by_cases h : c = p
  · subst c; simp [State.place]
  · rw [if_neg h, if_neg fun e => h (place_idx_injective e).symm]; rfl

theorem modScanner_scanner (sc : Scanner) (f : ScannerState → ScannerState) (c : Scanner) :
    (s.modScanner sc f).scanner c = if c = sc then f (s.scanner sc) else s.scanner c := by
  show tget (tmod s.track.scanners sc.idx f) c.idx = _
  rw [tget_tmod]
  by_cases h : c = sc
  · subst c; simp [State.scanner]
  · rw [if_neg h, if_neg fun e => h (scanner_idx_injective e).symm]; rfl

theorem modWrapper_wrapper (w : Side) (f : WrapperState → WrapperState) (c : Side) :
    (s.modWrapper w f).wrapper c = if c = w then f (s.wrapper w) else s.wrapper c := by
  show tget (tmod s.wrap.wrappers w.idx f) c.idx = _
  rw [tget_tmod]
  by_cases h : c = w
  · subst c; simp [State.wrapper]
  · rw [if_neg h, if_neg fun e => h (side_idx_injective e).symm]; rfl

theorem setStaging_staging (w : Side) (e : Option StagingEntry) (c : Side) :
    (s.setStaging w e).staging c = if c = w then e else s.staging c := by
  show tget (tset s.wrap.staging w.idx e) c.idx = _
  rw [tget_tset]
  by_cases h : c = w
  · subst c; simp
  · rw [if_neg h, if_neg fun e => h (side_idx_injective e).symm]; rfl

end Sys2Proof.Machine
end

section
/-! SUPPORT. What reports and counters leave: the queue and the counter table of an operation that raises them (R197, R199). -/

namespace Sys2Proof.Machine

open State

variable {bs : List Block} {r s t u : State} {new rest : List Report}

theorem raise_keeps (s : State) (k : ReportKind) (n : Note) : KeepsAllBut [.queue] s (s.raise k n) :=
  (keeps_raise (by simp)).mpr keeps_refl

theorem count_keeps (s : State) (c : Counter) : KeepsAllBut [.queue, .counters] s (s.count c) :=
  (keeps_count (by simp) (by simp)).mpr keeps_refl

/-! ### The blocks of which a part is derived -/

theorem KeepsAllBut.buffer (k : KeepsAllBut bs s t) (h : .buffer ∉ bs := by decide) (hw : .windows ∉ bs := by decide) :
    t.buffer = { s.buffer with deadlock := t.buffer.deadlock } := by
  obtain ⟨h1, h2, h3, h4, h5, h6, h7⟩ := k .buffer h
  have h8 : t.buffer.windows = s.buffer.windows := k .windows hw
  generalize t.buffer = b at *
  cases b
  simp_all

theorem KeepsAllBut.label (k : KeepsAllBut bs s t) (h : .label ∉ bs := by decide) :
    t.label = { s.label with print := t.label.print } := by
  obtain ⟨h1, h2, h3, h4, h5, h6, h7, h8, h9, h10⟩ := k .label h
  generalize t.label = b at *
  cases b
  simp_all

theorem KeepsAllBut.merge (k : KeepsAllBut bs s t) (h : .merge ∉ bs := by decide) :
    t.merge = { s.merge with grant := t.merge.grant, requests := t.merge.requests } := by
  obtain ⟨h1, h2, h3, h4, h5, h6⟩ := k .merge h
  generalize t.merge = b at *
  cases b
  simp_all

theorem settle_buffer (s : State) : s.settle.buffer = { s.buffer with deadlock := s.settle.buffer.deadlock } := (settle_keeps s).buffer

theorem settle_label (s : State) : s.settle.label = { s.label with print := s.settle.label.print } := (settle_keeps s).label

theorem settle_merge (s : State) :
    s.settle.merge = { s.merge with grant := s.settle.merge.grant, requests := s.settle.merge.requests } := (settle_keeps s).merge

/-- The buffer after a request that has changed it to one. -/
theorem request_buffer {m : Message} {b : BufferController} (h : t.buffer = b) :
    (t.settle.send m).buffer = { b with deadlock := (t.settle.send m).buffer.deadlock } := by
  subst h
  simp only [send_buffer]
  exact settle_buffer t

/-! ### Counters (R199) -/

theorem count_counters (s : State) (c : Counter) : (s.count c).link.counters = s.counted c := by
  obtain ⟨_, _, _, e⟩ := s.count_eq c
  rw [e]; rfl

/-- The counter raised: one higher, held at 65,535, its half mark spent at 32,768. -/
theorem tget_counted_self (s : State) (c : Counter) :
    tget (s.counted c) c.idx = ⟨max (tget s.link.counters c.idx).count (min 65535 ((tget s.link.counters c.idx).count + 1)),
      (tget s.link.counters c.idx).armed && (tget s.link.counters c.idx).count != 32767⟩ := by
  unfold State.counted
  dsimp only
  split
  · rename_i h
    rw [tget_tset_self]
    congr 1
    omega
  · rename_i h
    generalize tget s.link.counters c.idx = e at h
    obtain ⟨n, a⟩ := e
    simp only at h ⊢
    have hn : (n != 32767) = true := by simp; omega
    rw [hn, Bool.and_true, max_eq_left (by omega)]

theorem tget_counted_of_ne (s : State) {c k : Counter} (h : k ≠ c) :
    tget (s.counted c) k.idx = tget s.link.counters k.idx := by
  unfold State.counted
  dsimp only
  split
  · exact tget_tset_of_ne _ _ fun e => h (counter_idx_injective e).symm
  · rfl

namespace Queues

/-- A counter raised: COUNTER_HALF where its half mark is spent (R199). -/
theorem count (s : State) (c : Counter) : Queues s (s.count c) (halfReports s c) := by
  unfold State.count halfReports
  dsimp only
  rcases e : tget s.link.counters c.idx with ⟨n, a⟩
  have keep (x : CounterEntry) : Queues s (s.modLink fun u => { u with counters := tset u.counters c.idx x }) [] :=
    ⟨rfl, fun _ _ => by simp, fun _ _ => rfl⟩
  by_cases hh : n = 32767 ∧ a = true
  · obtain ⟨rfl, rfl⟩ := hh
    exact (keep _).trans (.raise _ _)
  · have hb : (n == 32767 && a) = false := by simpa using hh
    have hne : (⟨n, a⟩ : CounterEntry) ≠ ⟨32767, true⟩ := fun h => hh ⟨congrArg (·.count) h, congrArg (·.armed) h⟩
    rw [if_neg hne]
    simp only [hb, Bool.false_eq_true, if_false]
    split
    · exact keep _
    · exact .refl s

theorem halfReports_length (s : State) (c : Counter) : (halfReports s c).length ≤ 1 := by unfold halfReports; split <;> simp

end Queues

/-- An operation that raises one counter, and no other COUNTER_HALF, raises it in a step (R199). -/
theorem counted_of (k : Counter) (hc : t.link.counters = s.counted k) (hq : Queues s t new) (hn : new.length ≤ 32)
    (hf : new.filter (fun x => x.kind == .counterHalf && x.detail == k.number) = halfReports s k) :
    Counted s t.settle k := by
  refine ⟨by rw [settle_link_counters, hc, tget_counted_self], fun ho => ?_⟩
  obtain ⟨rest, e, hr⟩ := hq.settled hn ho
  refine ⟨_, e, ?_⟩
  rw [List.filter_append, hf]
  have none : rest.filter (fun x => x.kind == .counterHalf && x.detail == k.number) = [] := by
    refine List.filter_eq_nil_iff.mpr fun x hx => ?_
    rcases hr x hx with h | h | h <;> simp [h]
  rw [none, List.append_nil]

/-- The half report of a counter is kept by the filter that asks for it. -/
theorem filter_halfReports (s : State) (k : Counter) :
    (halfReports s k).filter (fun x => x.kind == .counterHalf && x.detail == k.number) = halfReports s k := by
  unfold halfReports; split <;> simp

end Sys2Proof.Machine
end

section
/-! SUPPORT. The articles and the tables of the reference data (R1 to R4, R16, R17, R152, R196, R197). -/

namespace Sys2Proof.Machine

open State

variable {r s t : State} {q : Req}

/-- The fields of an ARTICLE_PUT are in range (R16). -/
def ArticleInRange (code mass : Nat) (name : Text) : Prop :=
  1 ≤ code ∧ code ≤ 65535 ∧ 1 ≤ mass ∧ mass ≤ 80000 ∧ name.length ≤ 24 ∧ ∀ c ∈ name, 32 ≤ c.toNat ∧ c.toNat ≤ 126

theorem printable_iff {d : Text} : printable d = true ↔ ∀ c ∈ d, 32 ≤ c.toNat ∧ c.toNat ≤ 126 := by simp [printable]

theorem within_iff {lo hi n : Nat} : within lo hi n = true ↔ lo ≤ n ∧ n ≤ hi := by simp [within]

theorem articleChecks_iff {code mass : Nat} {name : Text} :
    (!within 1 65535 code || !within 1 80000 mass || !decide (name.length ≤ 24) || !printable name) = false
      ↔ ArticleInRange code mass name := by
  simp only [ArticleInRange, Bool.or_eq_false_iff, Bool.not_eq_false', within_iff, decide_eq_true_eq, printable_iff, and_assoc]

/-- ARTICLE_PUT taken: the record in its place (R16). -/
theorem putArticle_taken {code mass : Nat} {name : Text} (hr : ArticleInRange code mass name)
    (hroom : (s.article? code).isSome = true ∨ s.plan.articles.length < 256) :
    putArticle code mass name s = (s.modPlan fun p => { p with articles := insertArticle ⟨code, mass, name⟩ p.articles }, .ok,
      .articlePut (s.article? code).isSome (insertArticle ⟨code, mass, name⟩ s.plan.articles).length) := by
  have hfull : ¬ (!(s.article? code).isSome && decide (Config.articleCapacity ≤ s.plan.articles.length)) = true := by
    intro h
    simp only [Bool.and_eq_true, Bool.not_eq_true', decide_eq_true_eq] at h
    rcases hroom with hc | hc
    · exact absurd (hc.symm.trans h.1) (by decide)
    · exact absurd h.2 (Nat.not_le.mpr hc)
  unfold putArticle
  rw [articleChecks_iff.mpr hr]
  simp only [if_neg hfull]
  rfl

theorem putArticle_badArgument {code mass : Nat} {name : Text} (hr : ¬ ArticleInRange code mass name) :
    putArticle code mass name s = refuse s .badArgument := by
  unfold putArticle
  rw [if_pos (Bool.eq_true_of_not_eq_false (mt articleChecks_iff.mp hr))]

theorem putArticle_full {code mass : Nat} {name : Text} (hr : ArticleInRange code mass name) (hn : s.article? code = none)
    (hf : 256 ≤ s.plan.articles.length) : putArticle code mass name s = refuse s .full := by
  unfold putArticle
  rw [articleChecks_iff.mpr hr]
  simp [hn, Config.articleCapacity, hf]

theorem fullReset_stores (s : State) : StoresHold s.blank s.fullReset := by
  have k : TablesHold s.blank ((s.blank.sendResets).modMerge fun m =>
      { m with gate := s.blank.sendResets.gateInputs }).resetPlaces := (TablesHold.refl _).sendResets.modMerge.resetPlaces
  unfold State.fullReset
  exact (k.stores.endReset).holds (TablesHold.refl _).purgeWatch.settleSilently

theorem resetLineOp_stores (s : State) : StoresHold s (resetLineOp s).1 := by
  have k := StoresHold.lineReset 1 s
  simpa only [resetLineOp] using k

/-- An article record that every command but those named keeps absent: a code not held is held only after an ARTICLE_PUT. -/
theorem exec_article?_none {c : Instr} {code : Nat} (hn : s.article? code = none)
    (hp : ∀ q m x n, c ≠ .articlePut q n m x) (he : ¬ EndsFrame c s) :
    Leads (fun t => t.article? code = none) (exec c s) := by
  have same {u v : State} (h : v.plan.articles = u.plan.articles) (hu : u.article? code = none) : v.article? code = none := by
    unfold State.article?; rw [h]; exact hu
  have stores {u v : State} (h : StoresHold u v) (hu : u.article? code = none) : v.article? code = none := same h.articles hu
  have serves {kind : Nat} {op : Service} {q : Req} (ho : ∀ u, u.article? code = none → (op u).1.article? code = none) :
      Leads (fun t => t.article? code = none) (.next (serve kind .changes op q s)) :=
    leads_next (serve_keeps (fun k hu => same k.articles hu) ho hn)
  have full (u : State) : u.fullReset.article? code = none := same (fullReset_stores u).articles rfl
  by_cases hr : Instr.rewrites c = false
  · exact fun t e => same (exec_tablesHold hr t e).articles hn
  cases c with
  | powerOn => exact leads_next (full s)
  | resetPin => exact leads_next (full s)
  | estop =>
    exact leads_ite (fun _ => leads_next hn) fun _ => leads_ite (fun _ => leads_next hn) fun _ =>
      leads_next (same (((StoresHold.refl _).halt.holds (TablesHold.refl _).settle).articles) hn)
  | purgeHoldExpiry => exact leads_when (fun _ => stores (.lineReset 2 _) hn) hn
  | wakeHoldExpiry n =>
    exact leads_ite (fun _ => leads_when (fun _ => stores ((StoresHold.refl _).enterRun.holds (TablesHold.refl _).settle) hn) hn)
      fun _ => leads_next hn
  | drainLimitExpiry => exact leads_when (fun _ => stores ((StoresHold.refl s).failDrain.holds (TablesHold.refl _).settle) hn) hn
  | drainCompleted => exact leads_when (fun _ => stores ((StoresHold.refl s).enterStopped.holds (TablesHold.refl _).settle) hn) hn
  | stopCompleted => exact leads_when (fun _ => stores ((StoresHold.refl s).enterStopped.holds (TablesHold.refl _).settle) hn) hn
  | linkOctet o => exact fun t e => same (execLinkOctet_tablesHold he t e).articles hn
  | setSetting q n v =>
    refine serves fun u hu => ?_
    unfold setSettingOp
    split
    · exact hu
    · exact same (TablesHold.refl _).settingTaken.articles hu
  | articlePut q n m x => exact absurd rfl (hp q m x n)
  | articleDrop q n =>
    refine serves fun u hu => ?_
    unfold dropArticle
    split
    · exact hu
    · simp only [State.article?, List.find?_eq_none] at hu ⊢
      exact fun a ha => hu a (List.mem_of_mem_filter ha)
  | setModeRun q =>
    refine serves fun u hu => ?_
    unfold setRun
    split
    · exact hu
    · split
      · exact hu
      · exact stores (StoresHold.refl u).enterRun hu
  | setModeDrain q =>
    refine serves fun u hu => ?_
    unfold setDrainMode
    split
    · exact hu
    · exact stores (((StoresHold.refl u).setDrain.changeMode).holds (TablesHold.refl _).pursueGrant).testDrain hu
  | setModeStop q =>
    refine serves fun u hu => ?_
    unfold setStop
    split
    · exact hu
    · exact stores (StoresHold.refl u).setDrain.changeMode.testStop hu
  | resume q =>
    refine serves fun u hu => ?_
    unfold resumeOp
    split
    · exact hu
    · split
      · exact hu
      · exact stores (StoresHold.refl u).leaveHalt hu
  | resetFull q =>
    refine leads_ite (fun _ => leads_next hn) fun _ => leads_ite (fun _ => leads_next (same (TablesHold.refl s).count.articles hn))
      fun _ => leads_ite (fun _ => leads_next ?_) fun _ => leads_ite (fun _ => leads_next (full _)) fun _ => leads_next hn
    split
    · exact full s
    · exact hn
  | resetLine q =>
    refine serves fun u hu => ?_
    exact stores (resetLineOp_stores u) hu
  | resetSettings q =>
    refine serves fun u hu => ?_
    unfold resetSettingsOp
    split
    · exact hu
    · exact same (keeps_settingsReset (bs := [.mask, .bases, .recipes, .bands, .purgeHold, .wakeHolds, .windows, .settings])
        (by decide) |>.mpr keeps_refl .articles (by decide)) hu
  | _ => exact absurd rfl hr

/-- A code that an ARTICLE_PUT of another one does not bring into the table. -/
theorem putArticle_other {code n m : Nat} {x : Text} (hn : s.article? code = none) (hc : n ≠ code) :
    (putArticle n m x s).1.article? code = none := by
  unfold putArticle
  split
  · exact hn
  · dsimp only
    split
    · exact hn
    · simp only [State.article?, List.find?_eq_none, modPlan_plan] at hn ⊢
      intro a ha
      rcases mem_insertArticle ha with rfl | ha
      · simpa using hc
      · exact hn a ha

/-- ARTICLE_DROP of a held code (R17). -/
theorem dropArticle_taken {code : Nat} (h : (s.article? code).isSome = true) :
    dropArticle code s = (s.modPlan fun p => { p with articles := p.articles.filter fun a => a.code != code }, .ok,
      .articleDrop (s.plan.articles.filter fun a => a.code != code).length) := by
  unfold dropArticle
  rw [if_neg (by rw [← Option.not_isSome, h]; decide)]
  rfl

theorem dropArticle_unknown {code : Nat} (h : s.article? code = none) : dropArticle code s = refuse s .unknownArticle := by
  unfold dropArticle
  rw [h]
  rfl

/-- A code finds what it found after another code is dropped (R17). -/
theorem find?_dropArticle {code n : Nat} (t : List Article) :
    (t.filter fun a => a.code != code).find? (·.code == n) = if n = code then none else t.find? (·.code == n) := by
  split
  · rename_i e
    subst e
    simp [List.find?_eq_none]
  · rename_i hne
    rw [List.find?_filter]
    congr 1
    funext a
    by_cases h : a.code = n <;> simp [h, hne]

/-! ### The checks of SLOT_ADD (R20) -/

theorem validTag_iff {d : Text} : validTag d = true ↔ TagDigits d := by
  simp [validTag, TagDigits, and_assoc]

theorem slotFieldsInRange_iff {pos base recipe : Nat} {d : Text} {lines : List ArticleLine} {texts : List Text} :
    slotFieldsInRange pos d base recipe lines texts = true ↔ SlotInRange pos d base recipe lines texts := by
  simp [slotFieldsInRange, SlotInRange, within_iff, validTag_iff, printable_iff, and_assoc]

/-- A SLOT_ADD that has passed the checks before those of its articles (R20). -/
structure SlotAdmitted (s : State) (id pos : Nat) (d : Text) (base recipe : Nat) (lines : List ArticleLine) (texts : List Text)
    (l : Load) : Prop where
  load : s.load? id = some l
  range : slotFieldsInRange pos d base recipe lines texts = true
  room : l.slots.length < l.planned
  pos : pos = l.slots.length + 1
  tag : s.tagIndex d = none

section
variable {id pos base recipe : Nat} {d : Text} {lines : List ArticleLine} {texts : List Text} {l : Load}

/-- What is left of SLOT_ADD once it is so admitted: the check of its articles, and that of its mass. -/
theorem addSlot_admitted (h : SlotAdmitted s id pos d base recipe lines texts l) :
    addSlot id pos d base recipe lines texts s =
      match lines.findIdx? (fun x => (s.article? x.article).isNone) with
      | some i => (s, .unknownArticle, .value (i + 1))
      | none =>
        if Config.scaleCapacity < s.tare base + s.linesMass lines then (s, .massRange, .value (s.tare base + s.linesMass lines : Nat))
        else
          let s' := (s.modLoad id fun l => { l with slots := l.slots ++
            [⟨d, base, recipe, lines, texts, s.tare base + s.linesMass lines, s.linesMass lines, .expected, none, 0⟩] }).offer d
          (s', .ok, .slotAdded (s.tare base + s.linesMass lines) (s.linesMass lines)
            (((s'.slot? ⟨id, pos⟩).map (·.state)).getD .expected)) := by
  unfold addSlot
  simp only [h.load, h.range, h.tag, ← h.pos]
  simp only [Bool.not_true, Bool.false_eq_true, if_false, Nat.not_le.mpr h.room, bne_self_eq_false, Option.isSome_none]
    <;> rfl

/-- The first line of an article not held is answered with its number (R20). -/
theorem addSlot_unknownArticle (h : SlotAdmitted s id pos d base recipe lines texts l) {i : Nat}
    (hi : lines.findIdx? (fun x => (s.article? x.article).isNone) = some i) :
    addSlot id pos d base recipe lines texts s = (s, .unknownArticle, .value (i + 1)) := by
  rw [addSlot_admitted h, hi]

end

/-- Settles O1: each request by the case of its checks, and the last part by following every command. -/
theorem articlesArePutAndDropped : Obligations.ArticlesArePutAndDropped := by
  refine ⟨?put, ?drop, ?refused, ?unknown, ?absent⟩
  case put =>
    intro q code mass name s ha h1 h2 h3 h4 h5 h6 hroom ho
    have e := putArticle_taken (s := s.asked) ⟨h1, h2, h3, h4, h5, h6⟩ hroom
    obtain ⟨es, hrep, hk⟩ := request_changed (c := .articlePut q code mass name) (bs := [.articles]) rfl ha e rfl
      ((keeps_modPlan (by simp) (by simp) (by simp) (by simp) (by simp)).mpr keeps_refl)
    have find (n : Nat) := find?_insertArticle (a := ⟨code, mass, name⟩) ho n
    refine ⟨_, es, ?_, fun c hc => ?_, ?_, ?_, ?_, hk⟩
    · simpa [State.article?] using find code
    · simpa [State.article?, hc.symm] using find c
    · simpa [State.article?] using length_insertArticle (a := ⟨code, mass, name⟩) ho
    · simpa using insertArticle_pairwise ho
    · simpa using hrep
  case drop =>
    intro q code s ha
    refine ⟨fun hheld => ?_, fun hn => request_refused rfl ha (dropArticle_unknown hn) rfl⟩
    have e := dropArticle_taken (s := s.asked) hheld
    obtain ⟨es, hrep, hk⟩ := request_changed (c := .articleDrop q code) (bs := [.articles]) rfl ha e rfl
      ((keeps_modPlan (by simp) (by simp) (by simp) (by simp) (by simp)).mpr keeps_refl)
    refine ⟨_, es, ?_, fun c hc => ?_, by simpa using hrep, ?_, hk⟩
    · simp [State.article?]
    · simpa [State.article?, hc] using find?_dropArticle (code := code) (n := c) s.plan.articles
    · simp [State.send]
  case refused =>
    intro q code mass name s ha
    exact ⟨fun hr _ _ _ => request_refused rfl ha (putArticle_badArgument hr) rfl,
      fun hr hn hf => request_refused rfl ha (putArticle_full hr hn hf) rfl⟩
  case unknown =>
    intro q code id pos tag base recipe lines texts s l ha hn hl hr hroom hpos ht ⟨x, hx, hxc⟩
    have admitted : SlotAdmitted s.asked id pos tag base recipe lines texts l :=
      ⟨hl, slotFieldsInRange_iff.mpr hr, hroom, hpos, ht⟩
    obtain ⟨i, hi⟩ : ∃ i, lines.findIdx? (fun x => (s.asked.article? x.article).isNone) = some i := by
      refine Option.isSome_iff_exists.mp ?_
      rw [List.findIdx?_isSome, List.any_eq_true]
      exact ⟨x, hx, by simp [hxc, hn]⟩
    exact ⟨_, request_refused rfl ha (addSlot_unknownArticle admitted hi) rfl⟩
  case absent =>
    intro c code s t hn e
    by_cases hp : ∃ q n mass name, c = .articlePut q n mass name
    · obtain ⟨q, n, mass, name, rfl⟩ := hp
      by_cases hc : n = code
      · exact .inr (.inl ⟨q, mass, name, hc ▸ rfl⟩)
      · have k : Leads (fun u => u.article? code = none) (exec (.articlePut q n mass name) s) := by
          refine leads_next (serve_keeps (P := fun u => u.article? code = none) (fun k hu => ?_) (fun u hu => putArticle_other hu hc) hn)
          unfold State.article?
          rw [k.articles]
          exact hu
        exact .inl (k t e)
    · by_cases he : EndsFrame c s
      · exact .inr (.inr he)
      · exact .inl (exec_article?_none hn (fun q m x n h => hp ⟨q, n, m, x, h⟩) he t e)

end Sys2Proof.Machine
end

section
/-! SUPPORT. The tables of SET_TABLE, and the values after reset (R2 to R4, R152, R184, R196, R197). -/

namespace Sys2Proof.Machine

open State

variable {r s t : State} {q : Req}

/-! ### The contents of a table -/

/-- Edges rise from each band to the next exactly when they rise throughout (R4). -/
theorem risingEdges_iff (x : List Band) :
    ((x.zip (x.drop 1)).all fun (a, b) => decide (a.edge < b.edge)) = true ↔ x.Pairwise fun a b => a.edge < b.edge := by
  rw [← List.isChain_iff_pairwise (R := fun a b : Band => a.edge < b.edge)]
  induction x with
  | nil => simp
  | cons a x ih =>
    cases x with
    | nil => simp
    | cons b x => simpa [List.isChain_cons_cons] using fun _ => ih

theorem bandsTaken_iff (x : List Band) :
    bandsTaken x = true ↔ 1 ≤ x.length ∧ x.length ≤ 8 ∧ x.Pairwise (fun a b => a.edge < b.edge)
      ∧ ∀ b ∈ x, 1 ≤ b.edge ∧ b.edge ≤ 2000001 ∧ b.fixed ≤ 100000 ∧ b.perMille ≤ 50 := by
  simp only [bandsTaken, Bool.and_eq_true, risingEdges_iff]
  simp only [within_iff, Bool.and_eq_true, List.all_eq_true, Nat.zero_le, true_and, and_assoc]
  exact ⟨fun ⟨h1, h2, h3, h4⟩ => ⟨h1, h2, h4, h3⟩, fun ⟨h1, h2, h3, h4⟩ => ⟨h1, h2, h4, h3⟩⟩

theorem baseInRange_iff (b : Base) : Base.inRange b = true ↔ 1000 ≤ b.tare ∧ b.tare ≤ 100000 ∧ 400 ≤ b.length ∧ b.length ≤ 1600
    ∧ 400 ≤ b.width ∧ b.width ≤ 1600 := by
  simp [Base.inRange, within_iff, and_assoc]

theorem recipeInRange_iff (x : Recipe) : Recipe.inRange x = true ↔ x.bottom ≤ 6 ∧ x.top ≤ 6 ∧ 10 ≤ x.overlap ∧ x.overlap ≤ 70
    ∧ x.prestretch ≤ 300 ∧ 1 ≤ x.tension ∧ x.tension ≤ 9 := by
  simp [Recipe.inRange, within_iff, and_assoc]

/-- The base table of a list of entries: present exactly for four entries in range, whose list it is (R2). -/
theorem basesTaken_cases (x : List Base) :
    ((x.length = 4 ∧ ∀ b ∈ x, Base.inRange b = true) ∧ ∃ v, basesTaken x = some v ∧ v.toList = x)
      ∨ (¬ (x.length = 4 ∧ ∀ b ∈ x, Base.inRange b = true) ∧ basesTaken x = none) := by
  unfold basesTaken
  by_cases h : x.length = 4 <;> by_cases ha : x.all Base.inRange = true
  · exact .inl ⟨⟨h, by simpa using ha⟩, _, by rw [dif_pos h, if_pos ha], rfl⟩
  · exact .inr ⟨fun k => ha (by simpa using k.2), by rw [dif_pos h, if_neg ha]⟩
  · exact .inr ⟨fun k => h k.1, dif_neg h⟩
  · exact .inr ⟨fun k => h k.1, dif_neg h⟩

theorem recipesTaken_cases (x : List Recipe) :
    ((x.length = 16 ∧ ∀ b ∈ x, Recipe.inRange b = true) ∧ ∃ v, recipesTaken x = some v ∧ v.toList = x)
      ∨ (¬ (x.length = 16 ∧ ∀ b ∈ x, Recipe.inRange b = true) ∧ recipesTaken x = none) := by
  unfold recipesTaken
  by_cases h : x.length = 16 <;> by_cases ha : x.all Recipe.inRange = true
  · exact .inl ⟨⟨h, by simpa using ha⟩, _, by rw [dif_pos h, if_pos ha], rfl⟩
  · exact .inr ⟨fun k => ha (by simpa using k.2), by rw [dif_pos h, if_neg ha]⟩
  · exact .inr ⟨fun k => h k.1, dif_neg h⟩
  · exact .inr ⟨fun k => h k.1, dif_neg h⟩

theorem maskTaken_cases (x : List Nat) :
    ((x.length = 26 ∧ ∀ f ∈ x, f ≤ 1) ∧ ∃ v, maskTaken x = some v ∧ v.toList = x.map fun f => decide (f = 1))
      ∨ (¬ (x.length = 26 ∧ ∀ f ∈ x, f ≤ 1) ∧ maskTaken x = none) := by
  unfold maskTaken
  by_cases h : x.length = 26 <;> by_cases ha : (x.all fun f => decide (f ≤ 1)) = true
  · exact .inl ⟨⟨h, by simpa using ha⟩, _, by rw [dif_pos h, if_pos ha], rfl⟩
  · exact .inr ⟨fun k => ha (by simpa using k.2), by rw [dif_pos h, if_neg ha]⟩
  · exact .inr ⟨fun k => h k.1, dif_neg h⟩
  · exact .inr ⟨fun k => h k.1, dif_neg h⟩

/-- Of the entries of a list, at most one holds each point exactly when no two hold a point together. -/
theorem atMostOne_iff_pairwise {α β : Type} (holds : α → β → Bool) (x : List α) (ps : List β) :
    (∀ p ∈ ps, (x.filter fun w => holds w p).length ≤ 1)
      ↔ x.Pairwise fun a b => ∀ p ∈ ps, ¬ (holds a p = true ∧ holds b p = true) := by
  induction x with
  | nil => simp
  | cons a x ih =>
    rw [List.pairwise_cons, ← ih]
    constructor
    · intro h
      refine ⟨fun b hb p hp ⟨ha, hbp⟩ => ?_, fun p hp => le_trans ?_ (h p hp)⟩
      · have hl := h p hp
        rw [List.filter_cons_of_pos (p := fun w => holds w p) ha, List.length_cons] at hl
        have hnil : (x.filter fun w => holds w p) = [] := List.eq_nil_of_length_eq_zero (by omega)
        exact List.ne_nil_of_mem (List.mem_filter.mpr ⟨hb, hbp⟩) hnil
      · exact ((List.sublist_cons_self a x).filter _).length_le
    · intro ⟨h, hx⟩ p hp
      by_cases ha : holds a p = true
      · have hnil : (x.filter fun w => holds w p) = [] :=
          List.filter_eq_nil_iff.mpr fun b hb hbp => h b hb p hp ⟨ha, hbp⟩
        rw [List.filter_cons_of_pos (p := fun w => holds w p) ha, hnil]
        simp
      · rw [List.filter_cons_of_neg (p := fun w => holds w p) ha]
        exact hx p hp

theorem windowTaken_iff (w : Window) : Window.taken w = true ↔ 1 ≤ w.base ∧ w.base ≤ 16 ∧ w.size ≤ 8
    ∧ (0 < w.size → w.base + w.size ≤ 9 ∨ (9 ≤ w.base ∧ w.base + w.size ≤ 17)) := by
  simp only [Window.taken, Bool.and_eq_true, Bool.or_eq_true, within_iff, beq_iff_eq, decide_eq_true_eq]
  omega

theorem mem_allPositions (p : Position) : p ∈ allPositions := by revert p; decide

/-- Two windows that lie in their ranges share no position number exactly when they share no position (R152). -/
theorem shareNoPosition_iff {a b : Window} (ha : Window.taken a = true) (hb : Window.taken b = true) :
    (∀ p ∈ allPositions, ¬ (windowHolds a p = true ∧ windowHolds b p = true))
      ↔ ∀ p, ¬ (a.base ≤ p ∧ p < a.base + a.size ∧ b.base ≤ p ∧ p < b.base + b.size) := by
  rw [windowTaken_iff] at ha hb
  simp only [windowHolds, decide_eq_true_eq]
  constructor
  · intro h p ⟨h1, h2, h3, h4⟩
    have hp : p - 1 < 16 := by omega
    refine h ⟨p - 1, hp⟩ (mem_allPositions _) ?_
    dsimp only
    omega
  · intro h p _ ⟨⟨h1, h2⟩, h3, h4⟩
    exact h (p.val + 1) ⟨h1, h2, h3, h4⟩

theorem windowsTaken_cases (x : List Window) :
    ((x.length = 6 ∧ (∀ w ∈ x, Window.taken w = true)
        ∧ x.Pairwise fun a b => ∀ p, ¬ (a.base ≤ p ∧ p < a.base + a.size ∧ b.base ≤ p ∧ p < b.base + b.size))
        ∧ ∃ v, windowsTaken x = some v ∧ v.toList = x)
      ∨ (¬ (x.length = 6 ∧ (∀ w ∈ x, Window.taken w = true)
        ∧ x.Pairwise fun a b => ∀ p, ¬ (a.base ≤ p ∧ p < a.base + a.size ∧ b.base ≤ p ∧ p < b.base + b.size))
        ∧ windowsTaken x = none) := by
  have checks : (x.all Window.taken && allPositions.all fun p => decide ((x.filter fun w => windowHolds w p).length ≤ 1)) = true
      ↔ (∀ w ∈ x, Window.taken w = true)
        ∧ x.Pairwise fun a b => ∀ p, ¬ (a.base ≤ p ∧ p < a.base + a.size ∧ b.base ≤ p ∧ p < b.base + b.size) := by
    simp only [Bool.and_eq_true, List.all_eq_true, decide_eq_true_eq, atMostOne_iff_pairwise]
    refine and_congr_right fun hw => ?_
    constructor <;> refine List.Pairwise.imp_of_mem fun ha hb h => ?_
    · exact (shareNoPosition_iff (hw _ ha) (hw _ hb)).mp h
    · exact (shareNoPosition_iff (hw _ ha) (hw _ hb)).mpr h
  unfold windowsTaken
  by_cases h : x.length = 6
  · by_cases hc : (x.all Window.taken && allPositions.all fun p => decide ((x.filter fun w => windowHolds w p).length ≤ 1)) = true
    · exact .inl ⟨⟨h, checks.mp hc⟩, _, by rw [dif_pos h, if_pos hc], rfl⟩
    · exact .inr ⟨fun k => hc (checks.mpr k.2), by rw [dif_pos h, if_neg hc]⟩
  · exact .inr ⟨fun k => h k.1, dif_neg h⟩

/-! ### SET_TABLE (R196) -/

/-- Settles O49: each table is put in force when its contents are taken, and refused otherwise. -/
theorem setTableReplacesOneTableWhole : Obligations.SetTableReplacesOneTableWhole := by
  intro q s ha
  refine ⟨fun x => ?bands, fun x => ?bases, fun x => ?recipes, fun x => ?windows, fun x => ?mask⟩
  case bands =>
    refine ⟨bandsTaken x, bandsTaken_iff x, fun h => ?_, fun h => ?_⟩
    · exact request_refused rfl ha (by simp [setBands, h]; rfl) rfl
    · obtain ⟨es, hr, hk⟩ := request_changed (c := .setTableBands q x) (bs := [.bands]) rfl ha (by rw [setBands, if_pos h]) rfl
        ((keeps_modPlan (by simp) (by simp) (by simp) (by simp) (by simp)).mpr keeps_refl)
      exact ⟨_, es, by simp [State.send], hr, hk⟩
  case bases =>
    obtain ⟨hx, v, e, hv⟩ | ⟨hx, e⟩ := basesTaken_cases x
    · obtain ⟨es, hr, hk⟩ := request_changed (c := .setTableBases q x) (bs := [.bases]) rfl ha (by rw [setBases, e]) rfl
        ((keeps_modPlan (by simp) (by simp) (by simp) (by simp) (by simp)).mpr keeps_refl)
      exact ⟨true, by simpa [baseInRange_iff] using hx, by simp, fun _ => ⟨_, es, by simpa [State.send] using hv, hr, hk⟩⟩
    · exact ⟨false, by simpa [baseInRange_iff] using hx, fun _ => request_refused rfl ha (by rw [setBases, e]; rfl) rfl, by simp⟩
  case recipes =>
    obtain ⟨hx, v, e, hv⟩ | ⟨hx, e⟩ := recipesTaken_cases x
    · obtain ⟨es, hr, hk⟩ := request_changed (c := .setTableRecipes q x) (bs := [.recipes]) rfl ha (by rw [setRecipes, e]) rfl
        ((keeps_modPlan (by simp) (by simp) (by simp) (by simp) (by simp)).mpr keeps_refl)
      exact ⟨true, by simpa [recipeInRange_iff] using hx, by simp, fun _ => ⟨_, es, by simpa [State.send] using hv, hr, hk⟩⟩
    · exact ⟨false, by simpa [recipeInRange_iff] using hx, fun _ => request_refused rfl ha (by rw [setRecipes, e]; rfl) rfl,
        by simp⟩
  case windows =>
    obtain ⟨hx, v, e, hv⟩ | ⟨hx, e⟩ := windowsTaken_cases x
    · obtain ⟨es, hr, hk⟩ := request_changed (c := .setTableWindows q x) (bs := [.windows]) rfl ha (by rw [setWindows, e]) rfl
        ((keeps_modBuffer (by simp) (by simp) (by simp)).mpr keeps_refl)
      exact ⟨true, by simpa only [windowTaken_iff, true_iff] using hx, by simp,
        fun _ => ⟨_, es, by simpa [State.send] using hv, hr, hk⟩⟩
    · exact ⟨false, by simpa only [windowTaken_iff, false_iff, Bool.false_eq_true] using hx,
        fun _ => request_refused rfl ha (by rw [setWindows, e]; rfl) rfl, by simp⟩
  case mask =>
    obtain ⟨hx, v, e, hv⟩ | ⟨hx, e⟩ := maskTaken_cases x
    · obtain ⟨es, hr, hk⟩ := request_changed (c := .setTableReportMask q x) (bs := [.mask]) rfl ha (by rw [setMask, e]) rfl
        ((keeps_modLink (by simp) (by simp) (by simp) (by simp) (by simp) (by simp) (by simp) (by simp)).mpr keeps_refl)
      exact ⟨true, by simpa only [true_iff] using hx, by simp, fun _ => ⟨_, es, by simpa [State.send] using hv, hr, hk⟩⟩
    · exact ⟨false, by simpa only [false_iff, Bool.false_eq_true] using hx,
        fun _ => request_refused rfl ha (by rw [setMask, e]; rfl) rfl, by simp⟩

/-! ### The values after reset (R184) -/

/-- Every place is empty and known after reset. -/
theorem reset_place (p : Place) : State.reset.place p = ⟨false, false, [], []⟩ := tget_replicate ..

theorem reset_lamps (i : Fin 12) : LampLit (tget State.reset.field.lamps i) := by
  unfold LampLit
  revert i
  decide

theorem reset_shows (l : Lamp) : Shows State.reset l (tget State.reset.field.lamps l.idx).pattern := by
  rcases l with l | i | p | _
  · exact .inl ⟨rfl, by revert l; decide⟩
  · exact .inl ⟨.inr (.inl (by decide)), by cases i <;> rfl⟩
  · exact .inr (.inr (.inr ⟨by rw [reset_place], by rw [reset_place], by cases p <;> rfl⟩))
  · refine .inr (.inr ⟨by decide, ?_, by rfl⟩)
    rintro (⟨st, h⟩ | ⟨z, h⟩ | ⟨p, h⟩ | ⟨r, hr, -⟩)
    · have hw : State.reset.stationState st = .working := by
        cases st with
        | wrapper w => cases w <;> rfl
        | _ => rfl
      rw [hw] at h
      exact h.elim nofun nofun
    · have hz : (State.reset.zone z).state = .normal := by
        rcases z with i | _ | _ | _
        · cases i <;> rfl
        all_goals rfl
      rw [hz] at h
      cases h
    · rw [reset_place] at h
      cases h
    · cases hr

theorem reset_drive (z : Zone) : (State.reset.zone z).drive = false := by
  rcases z with i | _ | _ | _
  · cases i <;> rfl
  all_goals rfl

theorem reset_free (p : Place) : State.reset.placeState p = .free := by
  cases p with
  | lane l => revert l; decide
  | _ => simp [State.placeState, State.occupancy, reset_place]

/-- The outputs of the reset state follow it: nothing moves, no infeed accumulates, and no record stands anywhere. -/
theorem reset_signals : SignalsInv State.reset := by
  have carrier {α : Type} {f : Move → α → Prop} : CarrierFollows State.reset none f :=
    ⟨nofun, fun _ h _ => absurd rfl h⟩
  refine ⟨fun z => ?zones, rfl, carrier, carrier, fun l => ⟨reset_shows l, reset_lamps _⟩, fun st => ?stations, fun l => ?lanes,
    ?deadlock, fun i => ?requests, nofun, ?print⟩
  case zones => exact ⟨fun h => absurd h (by simp [reset_drive]), fun h => absurd rfl h.1⟩
  case stations =>
    cases st with
    | wrapper w => cases w <;> rfl
    | _ => rfl
  case lanes => revert l; decide
  case deadlock =>
    refine ⟨nofun, fun ⟨_, ⟨n, _, h, _⟩, _⟩ => ?_⟩
    cases h
  case requests =>
    have none : tget State.reset.merge.requests i.idx = Option.none := by cases i <;> rfl
    rw [none]
    refine ⟨nofun, fun ⟨⟨n, rest, r, h, _⟩, _⟩ => ?_⟩
    rw [reset_place] at h
    cases h
  case print => exact ⟨nofun, fun ⟨h, _⟩ => nomatch h⟩

theorem reset_tables : TablesInv State.reset where
  link := ⟨by decide, by decide, by decide⟩
  settings := settingsInv_default rfl
  articles := ⟨by decide, .nil, nofun⟩
  loads := by simp [LoadsInv, State.reset]
  zero := by simp [ZeroInv, State.reset]
  mode := by simp [ModeInv, State.reset]

theorem reset_records : RecordsInv State.reset := by simp [RecordsInv, State.reset, trackReset]

/-- Settles O60: the values by evaluation, the invariants of the tables as those of any state with the default tables, and those of
the outputs from an empty line. -/
theorem theResetStateHasTheSpecifiedValues : Obligations.TheResetStateHasTheSpecifiedValues := by
  refine ⟨rfl, rfl, rfl, rfl, rfl, rfl, rfl, ?_, ?_, fun _ => rfl, ?_⟩
  · decide
  · decide
  refine ⟨rfl, rfl, rfl, rfl, rfl, rfl, rfl, fun w => ?_, rfl, rfl, rfl, rfl, rfl, reset_free, by decide, reset_drive, fun i => ?_, ?_⟩
  · cases w <;> exact ⟨rfl, rfl⟩
  · cases i <;> rfl
  exact ⟨reset_tables.link, reset_tables.settings, reset_tables.articles, reset_tables.loads, reset_tables.zero, reset_tables.mode,
    reset_records, reset_signals⟩

end Sys2Proof.Machine
end

section
/-! SUPPORT. The loads and their slots: LOAD_CREATE to LOAD_CLOSE, SLOT_ADD and SLOT_SKIP (R6, R8, R19 to R24, R62). -/

namespace Sys2Proof.Machine

open State

variable {r s t : State} {q : Req} {id : Nat} {l : Load}

/-! ### LOAD_CREATE (R19) -/

/-- The fields of a LOAD_CREATE are in range (R19). -/
def LoadInRange (id planned : Nat) (date : Text) : Prop :=
  1 ≤ id ∧ id ≤ 65535 ∧ 1 ≤ planned ∧ planned ≤ 36 ∧ date.length = 10 ∧ ∀ c ∈ date, 32 ≤ c.toNat ∧ c.toNat ≤ 126

theorem loadChecks_iff {planned : Nat} {date : Text} :
    (!within 1 65535 id || !within 1 36 planned || date.length != 10 || !printable date) = false ↔ LoadInRange id planned date := by
  simp only [LoadInRange, Bool.or_eq_false_iff, Bool.not_eq_false', within_iff, printable_iff, and_assoc, bne_eq_false_iff_eq]

theorem createLoad_badArgument {planned height : Nat} {date : Text} (h : ¬ LoadInRange id planned date) :
    createLoad id planned height date s = refuse s .badArgument := by
  unfold createLoad
  rw [if_pos (Bool.eq_true_of_not_eq_false (mt loadChecks_iff.mp h))]

theorem createLoad_inUse {planned height : Nat} {date : Text} (h : LoadInRange id planned date) (hu : (s.load? id).isSome = true) :
    createLoad id planned height date s = refuse s .inUse := by
  unfold createLoad
  rw [loadChecks_iff.mpr h, if_neg (by decide), if_pos hu]

theorem createLoad_full {planned height : Nat} {date : Text} (h : LoadInRange id planned date) (hu : s.load? id = none)
    (hf : 12 ≤ s.plan.loads.length) : createLoad id planned height date s = refuse s .full := by
  unfold createLoad
  have hf : Config.loadCapacity ≤ s.plan.loads.length := hf
  rw [loadChecks_iff.mpr h, if_neg (by decide), hu, if_neg (by decide), if_pos hf]

/-- A height limit brought into its range (R5). -/
def clampedHeight (height : Nat) : Nat := if height < 1000 then 1000 else if 2700 < height then 2700 else height

theorem clampedHeight_eq (height : Nat) : max 1000 (min 2700 height) = clampedHeight height := by
  unfold clampedHeight; split_ifs <;> omega

theorem createLoad_taken {planned height : Nat} {date : Text} (h : LoadInRange id planned date) (hu : s.load? id = none)
    (hf : s.plan.loads.length < 12) :
    createLoad id planned height date s =
      (s.modPlan fun p => { p with loads := p.loads ++ [⟨id, planned, clampedHeight height, date, .stored, none, []⟩] },
        if clampedHeight height = height then .ok else .okClamped,
        if clampedHeight height = height then .nothing else .value (clampedHeight height)) := by
  have hf : ¬ Config.loadCapacity ≤ s.plan.loads.length := Nat.not_le.mpr hf
  unfold createLoad
  rw [loadChecks_iff.mpr h, if_neg (by decide), hu, if_neg (by decide), if_neg hf]
  simp only [clampedHeight_eq, beq_iff_eq]
  split <;> rfl

/-! ### LOAD_BIND and LOAD_UNBIND (R22, R23) -/

theorem laneOf_none {n : Nat} (h : n = 0 ∨ 6 < n) : laneOf n = none := by
  unfold laneOf; rw [dif_neg (by omega)]

theorem bindLoad_taken {n : Nat} {ln : Lane} (hl : s.load? id = some l) (hn : laneOf n = some ln) (hs : l.status = .stored)
    (hb : s.boundLoad ln = none) :
    bindLoad id n s = (s.modLoad id fun l => { l with status := .bound, lane := some ln }, .ok, .nothing) := by
  simp [bindLoad, hl, hn, hs, hb]

theorem bindLoad_inUse {n : Nat} {ln : Lane} (hl : s.load? id = some l) (hn : laneOf n = some ln)
    (h : l.status ≠ .stored ∨ (s.boundLoad ln).isSome = true) : bindLoad id n s = refuse s .inUse := by
  simp [bindLoad, hl, hn, h]

/-- A release to the lane is in flight, or the shuttle carries a pallet of the load (R23). -/
def LaneBusy (s : State) (id : Nat) (ln : Lane) : Prop :=
  (∃ x ∈ s.buffer.releases, x.lane = ln) ∨ ∃ k, s.buffer.task = some k ∧ s.ofLoad k.track id = true

theorem laneBusy_iff {ln : Lane} :
    ((s.buffer.releases.any fun r => r.lane == ln)
      || (match s.buffer.task with | some t => s.ofLoad t.track id | none => false)) = true ↔ LaneBusy s id ln := by
  unfold LaneBusy
  cases s.buffer.task <;> simp

theorem unbindLoad_busy {ln : Lane} (hl : s.load? id = some l) (hn : l.lane = some ln) (h : LaneBusy s id ln) :
    unbindLoad id s = refuse s .busy := by
  simp only [unbindLoad, hl, hn]
  exact if_pos (laneBusy_iff.mpr h)

theorem unbindLoad_taken {ln : Lane} (hl : s.load? id = some l) (hn : l.lane = some ln) (h : ¬ LaneBusy s id ln) :
    unbindLoad id s = (s.unbind id, .ok, .nothing) := by
  simp only [unbindLoad, hl, hn]
  exact if_neg (mt laneBusy_iff.mp h)

/-- A load released from its lane (R23). -/
def Load.unbound (l : Load) : Load := { l with status := if l.status = .bound then .stored else l.status, lane := none }

theorem unbind_load? (c : Nat) :
    (s.unbind id).load? c = if c = id then (s.load? id).map Load.unbound else s.load? c := by
  have e : (fun x : Load => { x with status := if x.status == .bound then .stored else x.status, lane := none }) = Load.unbound := by
    funext x; simp [Load.unbound]
  show (s.modLoad id fun x => { x with status := if x.status == .bound then .stored else x.status, lane := none }).load? c = _
  rw [e]
  exact modLoad_load? c

/-! ### LOAD_CLOSE (R24) -/

theorem closeLoad_inUse (hl : s.load? id = some l) (h : ∃ sl ∈ l.slots, sl.state = .claimed ∨ sl.state = .finished) :
    closeLoad id s = refuse s .inUse := by
  have h : (l.slots.any fun sl => sl.state == .claimed || sl.state == .finished) = true := by simpa using h
  simp [closeLoad, hl, h]

/-- The loads once one is deleted. -/
def State.withoutLoad (s : State) (id : Nat) : State := s.modPlan fun p => { p with loads := p.loads.filter fun l => l.id != id }

theorem closeLoad_taken (hl : s.load? id = some l) (h : ∀ sl ∈ l.slots, sl.state ≠ .claimed ∧ sl.state ≠ .finished) :
    closeLoad id s = ((if l.lane.isSome then s.unbind id else s).withoutLoad id, .ok, .loadClosed l.dispatched l.skipped) := by
  have h : ¬ (l.slots.any fun sl => sl.state == .claimed || sl.state == .finished) = true := by simpa using h
  simp only [closeLoad, hl]
  rw [if_neg h]
  rfl

theorem withoutLoad_load? (c : Nat) : (s.withoutLoad id).load? c = if c = id then none else s.load? c := find?_filter_key _ c

/-- Settles O2: each request by the case of its checks. -/
theorem loadsAreCreatedBoundAndClosed : Obligations.LoadsAreCreatedBoundAndClosed := by
  refine ⟨?create, fun q id s ha => ⟨fun hn => ?unknown, fun l hl => ⟨fun n => ⟨?badLane, ?laneInUse⟩, ?notBound, ?busy, ?inUse, ?bind,
    ?unbind, ?close⟩⟩, ?refused⟩
  case create =>
    intro q id planned height date s ha h1 h2 h3 h4 h5 h6 hu hf
    obtain ⟨es, hr, hk⟩ := request_changed (c := .loadCreate q id planned height date) (bs := [.loads]) rfl ha
      (createLoad_taken (s := s.asked) ⟨h1, h2, h3, h4, h5, h6⟩ hu hf) (by split <;> rfl)
      ((keeps_modPlan (by simp) (by simp) (by simp) (by simp) (by simp)).mpr keeps_refl)
    refine ⟨_, clampedHeight height, es, rfl, by simp [State.send], ?_, hk⟩
    split at hr
    · rename_i h
      simpa only [h, if_true] using hr
    · rename_i h
      simpa only [h, if_false] using hr
  case unknown =>
    exact ⟨fun n => request_refused rfl ha (by simp only [bindLoad, asked_load?, hn]; rfl) rfl,
      request_refused rfl ha (by simp only [unbindLoad, asked_load?, hn]; rfl) rfl,
      request_refused rfl ha (by simp only [closeLoad, asked_load?, hn]; rfl) rfl⟩
  case badLane =>
    exact fun hn => request_refused rfl ha (by simp only [bindLoad, asked_load?, hl, laneOf_none hn]; rfl) rfl
  case laneInUse =>
    exact fun ln hn h => request_refused rfl ha (bindLoad_inUse (s := s.asked) hl hn h) rfl
  case notBound =>
    exact fun hn => request_refused rfl ha (by simp only [unbindLoad, asked_load?, hl, hn]; rfl) rfl
  case busy => exact fun ln hn h => request_refused rfl ha (unbindLoad_busy (s := s.asked) hl hn h) rfl
  case inUse => exact fun h => request_refused rfl ha (closeLoad_inUse (s := s.asked) hl h) rfl
  case bind =>
    intro n ln hn hs hb
    obtain ⟨es, hr, hk⟩ := request_changed (c := .loadBind q id n) (bs := [.loads]) rfl ha
      (bindLoad_taken (s := s.asked) hl hn hs hb) rfl ((keeps_modLoad (by simp)).mpr keeps_refl)
    have find (c : Nat) := modLoad_load? (s := s.asked) (id := id) (f := fun l => { l with status := .bound, lane := some ln })
      c
    exact ⟨_, es, by simp [find, hl], fun c hc => by simp [find, hc], hr, hk⟩
  case unbind =>
    intro ln hn hr ht
    have hb : ¬ LaneBusy s.asked id ln := by
      rintro (⟨x, hx, e⟩ | ⟨k, hk, e⟩)
      · exact hr x hx e
      · exact absurd ((ht k hk).symm.trans e) (by decide)
    obtain ⟨es, hr, hk⟩ := request_changed (c := .loadUnbind q id) (bs := [.loads, .buffer]) rfl ha
      (unbindLoad_taken (s := s.asked) hl hn hb) rfl ((keeps_unbind (by simp)).mpr keeps_refl)
    exact ⟨_, es, by simp [unbind_load?, hl, Load.unbound], fun c hc => by simp [unbind_load?, hc], hr, request_buffer rfl, hk⟩
  case close =>
    intro h
    have keeps : KeepsAllBut [.loads, .buffer] s.asked ((if l.lane.isSome then s.asked.unbind id else s.asked).withoutLoad id) := by
      unfold State.withoutLoad
      rw [keeps_modPlan (by simp) (by simp) (by simp) (by simp) (by simp)]
      split
      · exact (keeps_unbind (by simp)).mpr keeps_refl
      · exact keeps_refl
    obtain ⟨es, hr, hk⟩ := request_changed (c := .loadClose q id) (bs := [.loads, .buffer]) rfl ha
      (closeLoad_taken (s := s.asked) hl h) rfl keeps
    refine ⟨_, es, by simp [withoutLoad_load?], fun c hc => ?_, hr, ?_, hk⟩
    · simp only [send_load?, settle_load?, withoutLoad_load?, if_neg hc]
      split
      · simp [unbind_load?, hc]
      · rfl
    · refine (request_buffer (b := { s.buffer with
        forced := if l.lane.isSome then s.buffer.forced.filter (fun n => !s.ofLoad n id) else s.buffer.forced }) ?_)
      cases l.lane <;> rfl
  case refused =>
    intro q id planned height date s ha
    exact ⟨fun h => request_refused rfl ha (createLoad_badArgument h) rfl,
      fun h hu => request_refused rfl ha (createLoad_inUse (s := s.asked) h hu) rfl,
      fun h hu hf => request_refused rfl ha (createLoad_full (s := s.asked) h hu hf) rfl⟩

end Sys2Proof.Machine
end

section
/-! SUPPORT. Matching a tag: the tag index, the claim, the match and the end of a deferral (R9, R11, R59, R62, R65). -/

namespace Sys2Proof.Machine

open State

variable {bs : List Block} {r s t u : State} {d : Text} {n : Nat} {ref : LoadRef}

/-! ### The tag index (R9) -/

theorem Load.modSlotAt_tags (l : Load) (pos : Nat) {f : Slot → Slot} (hf : ∀ x, (f x).tag = x.tag) :
    (l.modSlotAt pos f).slots.map (·.tag) = l.slots.map (·.tag) := by
  unfold Load.modSlotAt
  split
  · rfl
  · refine List.ext_getElem (by simp) fun j _ _ => ?_
    simp only [List.getElem_map, List.getElem_modify]
    split
    · exact hf _
    · rfl

/-- The position of a tag among slots follows from their tags. -/
theorem findIdx?_tag (x : List Slot) : x.findIdx? (·.tag == d) = (x.map (·.tag)).findIdx? (· == d) := by
  rw [List.findIdx?_map]; rfl

/-- A change of slots that keeps their tags keeps the tag index. -/
theorem modSlot_tagIndex {f : Slot → Slot} (hf : ∀ x, (f x).tag = x.tag) (d : Text) :
    (s.modSlot ref f).tagIndex d = s.tagIndex d := by
  show (s.plan.loads.map fun l => if l.id == ref.load then l.modSlotAt ref.position f else l).findSome? _ = _
  unfold State.tagIndex
  rw [List.findSome?_map]
  congr 1
  funext l
  simp only [Function.comp_apply, findIdx?_tag]
  split
  · rw [l.modSlotAt_tags _ hf, Load.modSlotAt_id]
  · rfl

/-! ### The match (R11, R59) -/

/-- The slot of a tag, claimed by a record (R11). -/
def Slot.claimedBy (n : Nat) (x : Slot) : Slot := { x with state := .claimed, claimant := some n }

/-- The report of a match of a record (R59). -/
def State.matchReport (s : State) (n outcome occasion : Nat) : Report :=
  s.report .matched (noteOf n (s.refOf n) outcome (some occasion))

theorem reportMatch_queues (s : State) (n outcome occasion : Nat) :
    Queues s (s.reportMatch n outcome occasion) [s.matchReport n outcome occasion] := .raise _ _

theorem reportMatch_keeps (s : State) (n outcome occasion : Nat) : KeepsAllBut [.queue] s (s.reportMatch n outcome occasion) :=
  raise_keeps _ _ _

/-- A record that claims a slot, and one that finds its slot taken (R59). -/
def State.matchClaimed (s : State) (ref : LoadRef) (n occasion : Nat) : State :=
  ((s.modSlot ref (Slot.claimedBy n)).modRecord n fun r => { r with ref := some ref }).reportMatch n 1 occasion

@[inherit_doc State.matchClaimed]
def State.matchTaken (s : State) (n occasion : Nat) : State :=
  (s.modRecord n fun r => { r with mark := some .duplicate }).reportMatch n 2 occasion

theorem claim_expected {sl : Slot} (ht : s.tagIndex d = some ref) (hs : s.slot? ref = some sl) (he : sl.state = .expected)
    (n : Nat) : s.claim d n = (s.modSlot ref (Slot.claimedBy n), .claimed ref) := by
  simp only [State.claim, ht, hs, he]; rfl

theorem claim_taken {sl : Slot} (ht : s.tagIndex d = some ref) (hs : s.slot? ref = some sl) (he : sl.state ≠ .expected)
    (n : Nat) : s.claim d n = (s, .taken ref sl.state) := by
  simp [State.claim, ht, hs, he]

theorem claim_notFound (ht : s.tagIndex d = none) (n : Nat) : s.claim d n = (s, .notFound) := by
  simp [State.claim, ht]

theorem matchTag_expected {sl : Slot} (ht : s.tagIndex d = some ref) (hs : s.slot? ref = some sl) (he : sl.state = .expected)
    (n occasion : Nat) : s.matchTag n d occasion = (s.matchClaimed ref n occasion, .claimed ref) := by
  simp only [State.matchTag, claim_expected ht hs he]; rfl

theorem matchTag_taken {sl : Slot} (ht : s.tagIndex d = some ref) (hs : s.slot? ref = some sl) (he : sl.state ≠ .expected)
    (n occasion : Nat) : s.matchTag n d occasion = (s.matchTaken n occasion, .taken ref sl.state) := by
  simp only [State.matchTag, claim_taken ht hs he]; rfl

theorem matchTag_notFound (ht : s.tagIndex d = none) (n occasion : Nat) : s.matchTag n d occasion = (s, .notFound) := by
  simp [State.matchTag, claim_notFound ht]

theorem matchClaimed_keeps (s : State) (ref : LoadRef) (n occasion : Nat) :
    KeepsAllBut [.loads, .records, .queue] s (s.matchClaimed ref n occasion) := by
  simp [State.matchClaimed]

theorem matchTaken_keeps (s : State) (n occasion : Nat) : KeepsAllBut [.records, .queue] s (s.matchTaken n occasion) := by
  simp [State.matchTaken]

theorem matchClaimed_loads (s : State) (ref : LoadRef) (n occasion : Nat) :
    (s.matchClaimed ref n occasion).plan.loads = (s.modSlot ref (Slot.claimedBy n)).plan.loads :=
  reportMatch_keeps _ _ _ _ .loads (by decide)

theorem matchClaimed_record? (s : State) (ref : LoadRef) (n occasion c : Nat) :
    (s.matchClaimed ref n occasion).record? c
      = if c = n then (s.record? n).map fun r => { r with ref := some ref } else s.record? c :=
  ((reportMatch_keeps _ _ _ _).record? c).trans (modRecord_record? c)

theorem matchTaken_record? (s : State) (n occasion c : Nat) :
    (s.matchTaken n occasion).record? c
      = if c = n then (s.record? n).map fun r => { r with mark := some .duplicate } else s.record? c :=
  ((reportMatch_keeps _ _ _ _).record? c).trans (modRecord_record? c)

/-- The report of a claim carries the load reference claimed (R59). -/
theorem matchClaimed_queues (s : State) (ref : LoadRef) (n occasion : Nat) {r : Record} (hr : s.record? n = some r) :
    Queues s (s.matchClaimed ref n occasion)
      [⟨.matched, s.lineTime, some n, some ref.load, some ref.position, 1, some occasion⟩] := by
  have k : KeepsAllBut [.loads, .records] s ((s.modSlot ref (Slot.claimedBy n)).modRecord n fun r => { r with ref := some ref }) := by
    simp
  have e : ((s.modSlot ref (Slot.claimedBy n)).modRecord n fun r => { r with ref := some ref }).refOf n = some ref := by
    unfold State.refOf
    have h : (s.modSlot ref (Slot.claimedBy n)).record? n = some r := hr
    simp [modRecord_record?, h]
  have q := (Queues.of_keeps k).trans (reportMatch_queues _ n 1 occasion)
  rw [State.matchReport, e] at q
  exact q

/-- The report of a match that finds its slot taken (R59). -/
theorem matchTaken_queues (s : State) (n occasion : Nat) :
    Queues s (s.matchTaken n occasion) [s.matchReport n 2 occasion] := by
  have k : KeepsAllBut [.records] s (s.modRecord n fun r => { r with mark := some .duplicate }) := by simp
  have q := (Queues.of_keeps k).trans (reportMatch_queues _ n 2 occasion)
  have e : (s.modRecord n fun r => { r with mark := some .duplicate }).refOf n = s.refOf n := modRecord_refOf n
  rw [State.matchReport, e] at q
  exact q

/-! ### READY, and the end of a deferral (R62, R63, R65) -/

theorem entryResolved_iff {r : Record} : s.entryResolved r = true ↔ EntryReadOver s r := by
  unfold State.entryResolved EntryReadOver
  dsimp only
  rcases (s.scanner (.entry r.infeed)).outstanding with _ | ⟨rd, left⟩ <;> simp

theorem KeepsAllBut.entryResolved (k : KeepsAllBut bs s t) (r : Record) (h : .scanners ∉ bs := by decide) :
    t.entryResolved r = s.entryResolved r := by
  unfold State.entryResolved
  rw [k.scanner _ h]

/-- A record made READY where it may be: ENTERING at the head with its entry read resolved (R65). -/
def State.readied (s : State) (r : Record) : Record :=
  if r.stage = .entering ∧ r.headMark = true ∧ s.entryResolved r = true then { r with stage := .ready } else r

theorem testReady_record? (s : State) (n c : Nat) :
    (s.testReady n).record? c = if c = n then (s.record? n).map s.readied else s.record? c := by
  unfold State.testReady
  rcases e : s.record? n with _ | r
  · dsimp only
    split
    · subst c; exact e
    · rfl
  · dsimp only
    by_cases h : (r.stage == .entering && r.headMark && s.entryResolved r) = true
    · have h' : r.stage = .entering ∧ r.headMark = true ∧ s.entryResolved r = true := by simpa [and_assoc] using h
      rw [if_pos h]
      refine (modRecord_record? c).trans ?_
      rw [e, Option.map_some, Option.map_some, State.readied, if_pos h']
    · have h' : ¬ (r.stage = .entering ∧ r.headMark = true ∧ s.entryResolved r = true) := by simpa [and_assoc] using h
      rw [if_neg h, Option.map_some, State.readied, if_neg h']
      split
      · subst c; exact e
      · rfl

/-- A record after the end of its deferral (R62, R63). -/
def State.undeferred (s : State) (r : Record) : Record := s.readied { r with stage := .entering, deferral := none }

theorem endDeferral_record? (s : State) (n c : Nat) :
    (s.endDeferral n).record? c = if c = n then (s.record? n).map s.undeferred else s.record? c := by
  unfold State.endDeferral
  rw [testReady_record?]
  simp only [modRecord_record?, implies_true, if_true]
  split
  · cases s.record? n <;> rfl
  · rfl

theorem endDeferral_keeps (s : State) (n : Nat) : KeepsAllBut [.records] s (s.endDeferral n) := by simp

/-- A record whose entry read is over is READY at the end of its deferral when its head mark is set, and ENTERING otherwise. -/
theorem undeferred_of_over {r : Record} (h : EntryReadOver s r) :
    s.undeferred r = { r with deferral := none, stage := if r.headMark then .ready else .entering } := by
  have e : s.entryResolved { r with stage := .entering, deferral := none } = true := entryResolved_iff.mpr h
  unfold State.undeferred State.readied
  rw [e]
  cases r.headMark <;> simp

end Sys2Proof.Machine
end

section
/-! SUPPORT. SLOT_ADD and SLOT_SKIP: the slot stored, its offer to the DEFERRED records, and the completion of a load
(R6, R8, R20, R21, R62). -/

namespace Sys2Proof.Machine

open State

variable {bs : List Block} {r s t u : State} {q : Req} {d : Text} {n id : Nat} {l : Load} {ref : LoadRef}

/-! ### The offer of a slot (R62) -/

/-- One record is offered the slot of a tag. -/
def State.offerTo (d : Text) (s : State) (n : Nat) : State := (s.matchTag n d 3).1.endDeferral n

/-- Records are offered the slot of a tag in turn. -/
def State.offerAll (s : State) (d : Text) (ns : List Nat) : State := ns.foldl (State.offerTo d) s

theorem offer_eq (s : State) (d : Text) : s.offer d = s.offerAll d ((s.deferredWith d).map (·.number)) := rfl

/-- The slot of a tag is not EXPECTED. -/
def TagTaken (s : State) (d : Text) (ref : LoadRef) : Prop :=
  ∃ sl, s.tagIndex d = some ref ∧ s.slot? ref = some sl ∧ sl.state ≠ .expected

theorem KeepsAllBut.tagTaken (k : KeepsAllBut bs s t) (h : TagTaken s d ref) (hl : .loads ∉ bs := by decide) :
    TagTaken t d ref := by
  obtain ⟨sl, ht, hs, he⟩ := h
  exact ⟨sl, by rw [k.tagIndex d hl, ht], by rw [k.slot? ref hl, hs], he⟩

/-- A record that finds the slot of its tag taken, after its offer. -/
def State.offeredTaken (s : State) (r : Record) : Record := s.undeferred { r with mark := some .duplicate }

theorem KeepsAllBut.undeferred (k : KeepsAllBut bs s t) (h : .scanners ∉ bs := by decide) : t.undeferred = s.undeferred := by
  funext r
  unfold State.undeferred State.readied
  rw [k.entryResolved _ h]

theorem offerTo_taken (h : TagTaken s d ref) (n : Nat) : s.offerTo d n = (s.matchTaken n 3).endDeferral n := by
  obtain ⟨sl, ht, hs, he⟩ := h
  rw [State.offerTo, matchTag_taken ht hs he]

theorem offerTo_taken_keeps (h : TagTaken s d ref) (n : Nat) : KeepsAllBut [.records, .queue] s (s.offerTo d n) := by
  rw [offerTo_taken h]
  exact (matchTaken_keeps s n 3).trans ((endDeferral_keeps _ n).mono (by simp))

theorem offerTo_taken_record? (h : TagTaken s d ref) (n c : Nat) :
    (s.offerTo d n).record? c = if c = n then (s.record? n).map s.offeredTaken else s.record? c := by
  rw [offerTo_taken h, endDeferral_record?, matchTaken_record?, matchTaken_record?, (matchTaken_keeps s n 3).undeferred]
  simp only [if_true, Option.map_map]
  split
  · rfl
  · rfl

theorem offerTo_taken_queues (h : TagTaken s d ref) (n : Nat) : Queues s (s.offerTo d n) [s.matchReport n 2 3] := by
  rw [offerTo_taken h]
  simpa using (matchTaken_queues s n 3).trans (.of_keeps (endDeferral_keeps _ n))

theorem offerAll_taken_keeps (h : TagTaken s d ref) (ns : List Nat) : KeepsAllBut [.records, .queue] s (s.offerAll d ns) := by
  induction ns generalizing s with
  | nil => exact keeps_refl
  | cons n ns ih =>
    have k := offerTo_taken_keeps h n
    exact k.trans (ih (k.tagTaken h))

theorem offerAll_taken_record?_of_notMem (h : TagTaken s d ref) {ns : List Nat} {c : Nat} (hc : c ∉ ns) :
    (s.offerAll d ns).record? c = s.record? c := by
  induction ns generalizing s with
  | nil => rfl
  | cons n ns ih =>
    obtain ⟨hn, hc⟩ := not_or.mp (List.mem_cons.not.mp hc)
    exact (ih ((offerTo_taken_keeps h n).tagTaken h) hc).trans (by rw [offerTo_taken_record? h, if_neg hn])

theorem offerAll_taken_record? (h : TagTaken s d ref) {ns : List Nat} (hn : ns.Nodup) {c : Nat} (hc : c ∈ ns) :
    (s.offerAll d ns).record? c = (s.record? c).map s.offeredTaken := by
  induction ns generalizing s with
  | nil => cases hc
  | cons n ns ih =>
    have k := offerTo_taken_keeps h n
    obtain ⟨hm, hn⟩ := List.nodup_cons.mp hn
    show ((s.offerTo d n).offerAll d ns).record? c = _
    rcases List.mem_cons.mp hc with rfl | hc
    · rw [offerAll_taken_record?_of_notMem (k.tagTaken h) hm, offerTo_taken_record? h, if_pos rfl]
    · rw [ih (k.tagTaken h) hn hc, offerTo_taken_record? h, if_neg (ne_of_mem_of_not_mem hc hm)]
      have e : (s.offerTo d n).offeredTaken = s.offeredTaken := by
        funext x; unfold State.offeredTaken; rw [k.undeferred]
      rw [e]

theorem offerAll_taken_queues (h : TagTaken s d ref) {ns : List Nat} (hn : ns.Nodup) :
    Queues s (s.offerAll d ns) (ns.map fun n => s.matchReport n 2 3) := by
  induction ns generalizing s with
  | nil => exact .refl s
  | cons n ns ih =>
    have k := offerTo_taken_keeps h n
    obtain ⟨hm, hn⟩ := List.nodup_cons.mp hn
    have rest : (ns.map fun c => (s.offerTo d n).matchReport c 2 3) = ns.map fun c => s.matchReport c 2 3 := by
      refine List.map_congr_left fun c hc => ?_
      have e : (s.offerTo d n).refOf c = s.refOf c := by
        unfold State.refOf
        rw [offerTo_taken_record? h, if_neg (ne_of_mem_of_not_mem hc hm)]
      have time : (s.offerTo d n).lineTime = s.lineTime := k .lineTime (by decide)
      simp only [State.matchReport, State.report, e, time]
    have q := (offerTo_taken_queues h n).trans (ih (k.tagTaken h) hn)
    rw [rest] at q
    exact q

/-! #### The first of the records claims the slot -/

section
variable {x : Slot}

theorem offerTo_claims (ht : s.tagIndex d = some ref) (hs : s.slot? ref = some x) (he : x.state = .expected) (n : Nat) :
    s.offerTo d n = (s.matchClaimed ref n 3).endDeferral n := by
  rw [State.offerTo, matchTag_expected ht hs he]

theorem offerTo_claims_keeps (ht : s.tagIndex d = some ref) (hs : s.slot? ref = some x) (he : x.state = .expected) (n : Nat) :
    KeepsAllBut [.loads, .records, .queue] s (s.offerTo d n) := by
  rw [offerTo_claims ht hs he]
  exact (matchClaimed_keeps s ref n 3).trans ((endDeferral_keeps _ n).mono (by simp))

theorem offerTo_claims_loads (ht : s.tagIndex d = some ref) (hs : s.slot? ref = some x) (he : x.state = .expected) (n : Nat) :
    (s.offerTo d n).plan.loads = (s.modSlot ref (Slot.claimedBy n)).plan.loads := by
  rw [offerTo_claims ht hs he, endDeferral_keeps _ n .loads (by decide), matchClaimed_loads]

theorem offerTo_claims_record? (ht : s.tagIndex d = some ref) (hs : s.slot? ref = some x) (he : x.state = .expected) (n c : Nat) :
    (s.offerTo d n).record? c
      = if c = n then (s.record? n).map fun r => s.undeferred { r with ref := some ref } else s.record? c := by
  rw [offerTo_claims ht hs he, endDeferral_record?, matchClaimed_record?, matchClaimed_record?,
    (matchClaimed_keeps s ref n 3).undeferred]
  simp only [if_true, Option.map_map]
  split
  · rfl
  · rfl

theorem offerTo_claims_queues (ht : s.tagIndex d = some ref) (hs : s.slot? ref = some x) (he : x.state = .expected) {r : Record}
    (hr : s.record? n = some r) :
    Queues s (s.offerTo d n) [⟨.matched, s.lineTime, some n, some ref.load, some ref.position, 1, some 3⟩] := by
  rw [offerTo_claims ht hs he]
  simpa using (matchClaimed_queues s ref n 3 hr).trans (.of_keeps (endDeferral_keeps _ n))

theorem offerTo_claims_tagTaken (ht : s.tagIndex d = some ref) (hs : s.slot? ref = some x) (he : x.state = .expected) (n : Nat) :
    TagTaken (s.offerTo d n) d ref := by
  have e := offerTo_claims_loads ht hs he n
  refine ⟨x.claimedBy n, ?_, ?_, by simp [Slot.claimedBy]⟩
  · rw [← ht, ← modSlot_tagIndex (s := s) (ref := ref) (f := Slot.claimedBy n) (fun _ => rfl) d]
    unfold State.tagIndex
    rw [e]
  · have h : (s.modSlot ref (Slot.claimedBy n)).slot? ref = some (x.claimedBy n) := by
      rw [modSlot_slot?, if_pos rfl, hs]; rfl
    unfold State.slot? State.load? at h ⊢
    rw [e]
    exact h

end

/-! ### SLOT_ADD (R20) -/

/-- A slot added to a load. -/
def State.withSlot (s : State) (id : Nat) (x : Slot) : State := s.modLoad id fun l => { l with slots := l.slots ++ [x] }

theorem withSlot_load? (x : Slot) (c : Nat) :
    (s.withSlot id x).load? c = if c = id then (s.load? id).map fun l => { l with slots := l.slots ++ [x] } else s.load? c :=
  modLoad_load? c

theorem withSlot_slot? {x : Slot} (hl : s.load? id = some l) : (s.withSlot id x).slot? ⟨id, l.slots.length + 1⟩ = some x := by
  unfold State.slot?
  rw [withSlot_load?, if_pos rfl, hl]
  simp [Load.slotAt]

/-- The tag of a slot added, on no slot before, is found at its position (R9). -/
theorem withSlot_tagIndex {x : Slot} (hl : s.load? id = some l) (hx : x.tag = d) (hd : s.tagIndex d = none) :
    (s.withSlot id x).tagIndex d = some ⟨id, l.slots.length + 1⟩ := by
  have hno := tagIndex_none hd
  unfold State.load? at hl
  show (s.plan.loads.map fun l => if l.id == id then { l with slots := l.slots ++ [x] } else l).findSome? _ = _
  generalize s.plan.loads = ls at hl hno
  induction ls with
  | nil => cases hl
  | cons a ls ih =>
    have none : a.slots.findIdx? (·.tag == d) = none := by
      simpa [List.findIdx?_eq_none_iff] using hno a (by simp)
    rw [List.find?_cons] at hl
    rw [List.map_cons, List.findSome?_cons]
    by_cases ha : a.id = id
    · have e : a = l := by simpa [ha] using hl
      subst e
      simp [ha, List.findIdx?_append, none, hx]
    · simp only [beq_eq_false_iff_ne.mpr ha, Bool.false_eq_true, if_false, none, Option.map_none]
      rw [beq_eq_false_iff_ne.mpr ha] at hl
      exact ih hl fun k hk => hno k (List.mem_cons_of_mem _ hk)

/-- The slot that a SLOT_ADD stores (R8, R20). -/
def newSlot (s : State) (d : Text) (base recipe : Nat) (lines : List ArticleLine) (texts : List Text) : Slot :=
  ⟨d, base, recipe, lines, texts, s.tare base + s.linesMass lines, s.linesMass lines, .expected, none, 0⟩

section
variable {pos base recipe : Nat} {lines : List ArticleLine} {texts : List Text}

theorem addSlot_taken (h : SlotAdmitted s id pos d base recipe lines texts l)
    (ha : ∀ x ∈ lines, (s.article? x.article).isSome = true) (hm : s.tare base + s.linesMass lines ≤ 2000000) :
    addSlot id pos d base recipe lines texts s =
      ((s.withSlot id (newSlot s d base recipe lines texts)).offer d, .ok,
        .slotAdded (s.tare base + s.linesMass lines) (s.linesMass lines)
          (((((s.withSlot id (newSlot s d base recipe lines texts)).offer d).slot? ⟨id, pos⟩).map (·.state)).getD .expected)) := by
  have hi : lines.findIdx? (fun x => (s.article? x.article).isNone) = none := by
    simp only [List.findIdx?_eq_none_iff]
    intro x hx
    simpa using ha x hx
  have hm : ¬ Config.scaleCapacity < s.tare base + s.linesMass lines := Nat.not_lt.mpr hm
  rw [addSlot_admitted h, hi]
  exact if_neg hm

theorem addSlot_massRange (h : SlotAdmitted s id pos d base recipe lines texts l)
    (ha : ∀ x ∈ lines, (s.article? x.article).isSome = true) (hm : 2000000 < s.tare base + s.linesMass lines) :
    addSlot id pos d base recipe lines texts s = (s, .massRange, .value (s.tare base + s.linesMass lines : Nat)) := by
  have hi : lines.findIdx? (fun x => (s.article? x.article).isNone) = none := by
    simp only [List.findIdx?_eq_none_iff]
    intro x hx
    simpa using ha x hx
  have hm : Config.scaleCapacity < s.tare base + s.linesMass lines := hm
  rw [addSlot_admitted h, hi]
  exact if_pos hm

end

/-! ### The loads and the records after an offer (R62) -/

theorem modify_append_self {x : Slot} (xs : List Slot) (f : Slot → Slot) : (xs ++ [x]).modify xs.length f = xs ++ [f x] := by
  induction xs with
  | nil => rfl
  | cons a xs ih => simp [ih]

theorem Load.modSlotAt_last {x : Slot} (l : Load) (f : Slot → Slot) :
    ({ l with slots := l.slots ++ [x] } : Load).modSlotAt (l.slots.length + 1) f = { l with slots := l.slots ++ [f x] } := by
  simp [Load.modSlotAt, modify_append_self]

/-- A slot claimed by the first of the records it is offered to, if any. -/
def Slot.offeredTo (x : Slot) : Option Nat → Slot
  | none => x
  | some n => x.claimedBy n

theorem offerAll_loads {x : Slot} (ht : s.tagIndex d = some ref) (hs : s.slot? ref = some x) (he : x.state = .expected)
    (n : Nat) (ns : List Nat) :
    (s.offerAll d (n :: ns)).plan.loads = (s.modSlot ref (Slot.claimedBy n)).plan.loads :=
  (offerAll_taken_keeps (offerTo_claims_tagTaken ht hs he n) ns .loads (by decide)).trans (offerTo_claims_loads ht hs he n)

section
variable {x : Slot} (hl : s.load? id = some l) (hx : x.tag = d) (he : x.state = .expected) (hd : s.tagIndex d = none)

include hl hx he hd

/-- The loads after a slot is added and offered: the slot last in its load, claimed by the first record offered it. -/
theorem withSlot_offerAll_load? (ns : List Nat) (c : Nat) :
    ((s.withSlot id x).offerAll d ns).load? c
      = if c = id then some { l with slots := l.slots ++ [x.offeredTo ns.head?] } else s.load? c := by
  cases ns with
  | nil =>
    refine (withSlot_load? x c).trans ?_
    rw [hl]; rfl
  | cons n ns =>
    have e := offerAll_loads (withSlot_tagIndex hl hx hd) (withSlot_slot? hl) he n ns
    unfold State.load? at hl ⊢
    rw [e]
    refine (modSlot_load? c).trans ?_
    simp only [withSlot_load?, if_true]
    unfold State.load?
    rw [hl]
    split
    · simp only [Option.map_some, Load.modSlotAt_last]
      rfl
    · rfl

/-- The slot added, after its offer. -/
theorem withSlot_offerAll_slot? (ns : List Nat) :
    ((s.withSlot id x).offerAll d ns).slot? ⟨id, l.slots.length + 1⟩ = some (x.offeredTo ns.head?) := by
  unfold State.slot?
  rw [withSlot_offerAll_load? hl hx he hd, if_pos rfl]
  simp [Load.slotAt]

theorem withSlot_offerAll_keeps (ns : List Nat) : KeepsAllBut [.loads, .records, .queue] s ((s.withSlot id x).offerAll d ns) := by
  have k : KeepsAllBut [.loads, .records, .queue] s (s.withSlot id x) := (keeps_modLoad (by simp)).mpr keeps_refl
  cases ns with
  | nil => exact k
  | cons n ns =>
    have ht := withSlot_tagIndex hl hx hd
    have hs := withSlot_slot? (x := x) hl
    exact (k.trans (offerTo_claims_keeps ht hs he n)).trans
      ((offerAll_taken_keeps (offerTo_claims_tagTaken ht hs he n) ns).mono (by simp))

theorem withSlot_offerAll_record?_of_notMem {ns : List Nat} {c : Nat} (hc : c ∉ ns) :
    ((s.withSlot id x).offerAll d ns).record? c = s.record? c := by
  cases ns with
  | nil => rfl
  | cons n ns =>
    obtain ⟨hn, hc⟩ := not_or.mp (List.mem_cons.not.mp hc)
    have ht := withSlot_tagIndex hl hx hd
    have hs := withSlot_slot? (x := x) hl
    refine (offerAll_taken_record?_of_notMem (offerTo_claims_tagTaken ht hs he n) hc).trans ?_
    rw [offerTo_claims_record? ht hs he, if_neg hn]
    rfl

/-- A record offered the slot added: the first claims it, the others find it taken. -/
theorem withSlot_offerAll_record? {ns : List Nat} (hn : ns.Nodup) {r : Record} (hc : r.number ∈ ns)
    (hr : s.record? r.number = some r) (ho : EntryReadOver s r) :
    ((s.withSlot id x).offerAll d ns).record? r.number
      = some (r.offered (ns.head? == some r.number) ⟨id, l.slots.length + 1⟩) := by
  cases ns with
  | nil => cases hc
  | cons n ns =>
    have ht := withSlot_tagIndex hl hx hd
    have hs := withSlot_slot? (x := x) hl
    have taken := offerTo_claims_tagTaken ht hs he n
    have hr' : (s.withSlot id x).record? r.number = some r := hr
    have claims (c : Nat) := offerTo_claims_record? ht hs he n c
    obtain ⟨hm, hn⟩ := List.nodup_cons.mp hn
    have resolved (y : Record) (h1 : y.infeed = r.infeed) (h2 : y.number = r.number) : EntryReadOver (s.withSlot id x) y := by
      unfold EntryReadOver; rw [h1, h2]; exact ho
    show (((s.withSlot id x).offerTo d n).offerAll d ns).record? r.number = _
    rcases List.mem_cons.mp hc with rfl | hc
    · rw [offerAll_taken_record?_of_notMem taken hm, claims, if_pos rfl, hr', Option.map_some,
        undeferred_of_over (resolved { r with ref := some ⟨id, l.slots.length + 1⟩ } rfl rfl)]
      simp [Record.offered]
    · have hne : r.number ≠ n := ne_of_mem_of_not_mem hc hm
      rw [offerAll_taken_record? taken hn hc, claims, if_neg hne, hr', Option.map_some, State.offeredTaken,
        (offerTo_claims_keeps ht hs he n).undeferred,
        undeferred_of_over (resolved { r with mark := some .duplicate } rfl rfl)]
      simp [Record.offered, hne.symm]

end

/-- A record of the Track Table is the one found under its number (R51). -/
theorem record?_of_mem {r : Record} (h : RecordsInv s) (hr : r ∈ s.track.records) : s.record? r.number = some r := by
  obtain ⟨-, hn, -⟩ := h
  unfold State.record?
  generalize s.track.records = rs at hn hr
  induction rs with
  | nil => cases hr
  | cons a rs ih =>
    obtain ⟨ha, hn⟩ := List.nodup_cons.mp hn
    rcases List.mem_cons.mp hr with rfl | hr
    · simp
    · rw [List.find?_cons_of_neg (by simpa using fun e => ha (List.mem_map.mpr ⟨r, hr, e.symm⟩))]
      exact ih hn hr

/-- The reports of the offer of a slot added (R59, R62). -/
theorem withSlot_offer_queues {x : Slot} (hi : RecordsInv s) (hl : s.load? id = some l) (hx : x.tag = d) (he : x.state = .expected)
    (hd : s.tagIndex d = none) :
    Queues s ((s.withSlot id x).offer d) ((s.deferredWith d).map fun r =>
      offerReport s r (((s.deferredWith d).map (·.number)).head? == some r.number) ⟨id, l.slots.length + 1⟩) := by
  have added : Queues s (s.withSlot id x) [] := .of_keeps (bs := [.loads]) ((keeps_modLoad (by simp)).mpr keeps_refl)
  have hn : ((s.deferredWith d).map (·.number)).Nodup := hi.2.1.sublist (List.filter_sublist.map _)
  have found : ∀ r ∈ s.deferredWith d, s.record? r.number = some r := fun r hr => record?_of_mem hi (List.mem_of_mem_filter hr)
  rw [offer_eq, show (s.withSlot id x).deferredWith d = s.deferredWith d from rfl]
  generalize s.deferredWith d = rs at hn found
  cases rs with
  | nil => exact added
  | cons r rs =>
    obtain ⟨hm, hn⟩ := List.nodup_cons.mp hn
    have ht := withSlot_tagIndex hl hx hd
    have hs := withSlot_slot? (x := x) hl
    have q := (added.trans (offerTo_claims_queues ht hs he (r := r) (found r (by simp)))).trans
      (offerAll_taken_queues (offerTo_claims_tagTaken ht hs he r.number) hn)
    refine Eq.subst (motive := fun new => Queues s _ new) ?_ q
    have head : offerReport s r ((r.number :: rs.map (·.number)).head? == some r.number) ⟨id, l.slots.length + 1⟩
        = ⟨.matched, (s.withSlot id x).lineTime, some r.number, some id, some (l.slots.length + 1), 1, some 3⟩ := by
      simp [offerReport]
      rfl
    have tail : ∀ k ∈ rs, offerReport s k ((r.number :: rs.map (·.number)).head? == some k.number) ⟨id, l.slots.length + 1⟩
        = ((s.withSlot id x).offerTo d r.number).matchReport k.number 2 3 := by
      intro k hk
      have hne : k.number ≠ r.number := fun e => hm (List.mem_map.mpr ⟨k, hk, e⟩)
      have time : ((s.withSlot id x).offerTo d r.number).lineTime = s.lineTime :=
        offerTo_claims_keeps ht hs he r.number .lineTime (by decide)
      have hk' : (s.withSlot id x).record? k.number = some k := found k (List.mem_cons_of_mem _ hk)
      have e : ((s.withSlot id x).offerTo d r.number).refOf k.number = k.ref := by
        unfold State.refOf
        rw [offerTo_claims_record? ht hs he, if_neg hne, hk']
        rfl
      simp only [State.matchReport, State.report, time, e]
      simp [offerReport, hne.symm, noteOf]
    simp only [List.map_cons, List.nil_append, List.singleton_append, head, List.map_map]
    exact congrArg _ (List.map_congr_left fun k hk => (tail k hk).symm)

/-! ### SLOT_SKIP and the completion of a load (R6, R21) -/

theorem load_complete_iff : l.complete = true
    ↔ l.slots.length = l.planned ∧ ∀ x ∈ l.slots, x.state = .dispatched ∨ x.state = .skipped := by
  simp [Load.complete, Slot.closed]

/-- A load after its completion test (R6). -/
def Load.tested (l : Load) : Load := if l.complete then { l with status := .complete } else l

theorem testComplete_load? (s : State) (id c : Nat) :
    (s.testComplete id).load? c = if c = id then (s.load? id).map Load.tested else s.load? c := by
  unfold State.testComplete
  rcases e : s.load? id with _ | l
  · dsimp only
    split
    · subst c; exact e
    · rfl
  · dsimp only
    by_cases h : (l.complete && l.status != .complete) = true
    · obtain ⟨hc, -⟩ : l.complete = true ∧ l.status ≠ .complete := by simpa using h
      rw [if_pos h, (raise_keeps _ _ _).load? c]
      refine (modLoad_load? c).trans ?_
      simp [e, Load.tested, hc]
    · have same : l.tested = l := by
        unfold Load.tested
        split
        · rename_i hc
          have hs : l.status = .complete := by simpa [hc] using h
          rw [← hs]
        · rfl
      rw [if_neg h, Option.map_some, same]
      split
      · subst c; exact e
      · rfl

/-- The report of a load completed (R6). -/
def Load.completeReport (l : Load) (now : LineTime) : Report :=
  ⟨.loadComplete, now, none, some l.id, none, laneNumber l.lane, some l.dispatched⟩

theorem testComplete_queues (hl : s.load? id = some l) :
    Queues s (s.testComplete id) (if l.complete = true ∧ l.status ≠ .complete then [l.completeReport s.lineTime] else []) := by
  unfold State.testComplete
  rw [hl]
  dsimp only
  by_cases h : (l.complete && l.status != .complete) = true
  · have h' : l.complete = true ∧ l.status ≠ .complete := by simpa using h
    have k : KeepsAllBut [.loads] s (s.modLoad id fun l => { l with status := .complete }) := (keeps_modLoad (by simp)).mpr keeps_refl
    rw [if_pos h, if_pos h']
    have q := (Queues.of_keeps k).trans (.raise .loadComplete { load := some id, detail := laneNumber l.lane, value := some l.dispatched })
    have hid := (load?_some hl).2
    subst hid
    exact q
  · have h' : ¬ (l.complete = true ∧ l.status ≠ .complete) := by simpa using h
    rw [if_neg h, if_neg h']
    exact .refl s

/-- A slot skipped (R21). -/
def Slot.skip (x : Slot) : Slot := { x with state := .skipped }

theorem skipSlot_taken {pos : Nat} {sl : Slot} (hl : s.load? id = some l) (hs : l.slotAt pos = some sl) (he : sl.state = .expected) :
    skipSlot id pos s = ((s.modSlot ⟨id, pos⟩ Slot.skip).testComplete id, .ok, .nothing) := by
  simp only [skipSlot, hl, hs, he]; rfl

theorem slotAt_some {pos : Nat} {sl : Slot} (h : l.slotAt pos = some sl) : pos ≠ 0 ∧ l.slots[pos - 1]? = some sl := by
  unfold Load.slotAt at h
  split at h
  · cases h
  · rename_i hp
    exact ⟨by simpa using hp, h⟩

theorem slotAt_none {pos : Nat} (h : pos = 0 ∨ l.slots.length < pos) : l.slotAt pos = none := by
  unfold Load.slotAt
  split
  · rfl
  · rename_i hp
    have : pos ≠ 0 := by simpa using hp
    rw [List.getElem?_eq_none_iff]
    omega

/-- A change of a slot as the slot set anew. -/
theorem Load.modSlotAt_eq_set {pos : Nat} {sl : Slot} (h : l.slotAt pos = some sl) (f : Slot → Slot) :
    l.modSlotAt pos f = { l with slots := l.slots.set (pos - 1) (f sl) } := by
  obtain ⟨hp, h⟩ := slotAt_some h
  unfold Load.modSlotAt
  rw [if_neg (by simpa using hp)]
  congr 1
  refine List.ext_getElem? fun j => ?_
  rw [List.getElem?_modify, List.getElem?_set]
  by_cases hj : pos - 1 = j
  · subst hj
    obtain ⟨hlt, hsl⟩ := List.getElem?_eq_some_iff.mp h
    simp [hsl, hlt]
  · simp [hj]

end Sys2Proof.Machine
end

section
/-! SUPPORT. The statement of SLOT_ADD and SLOT_SKIP (R20, R21). -/

namespace Sys2Proof.Machine

open State

variable {s : State} {l : Load}

/-- The state of a slot once offered, and its claimant. -/
theorem newSlot_offeredTo (s : State) (d : Text) (base recipe : Nat) (lines : List ArticleLine) (texts : List Text)
    (claimant : Option Nat) :
    (newSlot s d base recipe lines texts).offeredTo claimant
      = ⟨d, base, recipe, lines, texts, s.tare base + s.linesMass lines, s.linesMass lines,
          if claimant.isSome then .claimed else .expected, claimant, 0⟩ := by
  cases claimant <;> rfl

/-- Settles O3: SLOT_ADD by the slot it stores and the records it offers it to, SLOT_SKIP by the completion test that ends it, and
the refusals by the first check that fails. -/
theorem slotsAreAddedAndSkipped : Obligations.SlotsAreAddedAndSkipped := by
  refine ⟨?add, fun q id pos s l sl ha hl hs => ⟨?skip, ?notExpected⟩, fun q id pos s ha => ⟨?noLoad, ?noSlot⟩,
    fun q id pos tag base recipe lines texts s ha => ⟨?unknownLoad, fun l hl => ⟨?badField, fun hr => ⟨?full, ?badPosition,
      fun hroom hpos => ⟨?duplicate, fun ht => ⟨?unknownArticle, ?massRange⟩⟩⟩⟩⟩⟩
  case add =>
    intro q id pos tag base recipe lines texts s l ha hl hr hroom hpos ht harts hm
    have e := addSlot_taken (s := s.asked) ⟨hl, hr, hroom, hpos, ht⟩ harts hm
    subst hpos
    generalize hx : newSlot s.asked tag base recipe lines texts = x at e
    have hxt : x.tag = tag := hx ▸ rfl
    have hxe : x.state = .expected := hx ▸ rfl
    obtain ⟨ns, hns⟩ : ∃ ns, (s.deferredWith tag).map (·.number) = ns := ⟨_, rfl⟩
    have find := withSlot_offerAll_load? (s := s.asked) hl hxt hxe ht ((s.deferredWith tag).map (·.number))
    have slot : ((s.asked.withSlot id x).offer tag).slot? ⟨id, l.slots.length + 1⟩ = some (x.offeredTo ns.head?) :=
      hns ▸ withSlot_offerAll_slot? (s := s.asked) hl hxt hxe ht _
    rw [slot] at e
    obtain ⟨es, hrep, hk⟩ := request_changed (c := .slotAdd q id _ tag base recipe lines texts) rfl ha e rfl
      (withSlot_offerAll_keeps (s := s.asked) hl hxt hxe ht _)
    have claimant : (s.deferredWith tag).head?.map (·.number) = ns.head? := by simp [← hns]
    refine ⟨_, _, _, es, rfl, rfl, ?_, fun c hc => ?_, fun hc => ?_, fun hi => ⟨fun r hr hne => ?_, fun r hr hst htag ho => ?_,
      fun ho => ?_⟩, ?_, hk.mono (by simp [derived])⟩
    · rw [claimant, send_load?, settle_load?]
      refine (find id).trans ?_
      rw [if_pos rfl]
      rw [hns, ← hx]
      exact congrArg (fun y => some { l with slots := l.slots ++ [y] }) (newSlot_offeredTo ..)
    · rw [send_load?, settle_load?]
      exact (find c).trans (if_neg hc)
    · have hnil : s.deferredWith tag = [] := by simpa using hc
      rw [send_track, settle_track_records, offer_eq]
      show ((s.asked.withSlot id x).offerAll tag ((s.deferredWith tag).map (·.number))).track.records = _
      rw [hnil]
      rfl
    · rw [send_record?, settle_record?]
      refine (withSlot_offerAll_record?_of_notMem (s := s.asked) hl hxt hxe ht ?_).trans (record?_of_mem hi hr)
      intro hmem
      obtain ⟨y, hy, e⟩ := List.mem_map.mp hmem
      obtain ⟨hy, hd⟩ := List.mem_filter.mp hy
      have same : y = r := List.inj_on_of_nodup_map hi.2.1 hy hr e
      subst same
      simp at hd
      exact hne.elim (fun h => h hd.1) (fun h => h hd.2)
    · have mem : r.number ∈ (s.deferredWith tag).map (·.number) :=
        List.mem_map_of_mem (List.mem_filter.mpr ⟨hr, by simp [hst, htag]⟩)
      have nodup : ((s.deferredWith tag).map (·.number)).Nodup := hi.2.1.sublist (List.filter_sublist.map _)
      rw [send_record?, settle_record?, claimant, ← hns]
      exact withSlot_offerAll_record? (s := s.asked) hl hxt hxe ht nodup mem (record?_of_mem hi hr) ho
    · have q := withSlot_offer_queues (s := s.asked) hi hl hxt hxe ht
      have len : (s.asked.deferredWith tag).length ≤ 32 := (List.length_filter_le _ _).trans hi.1
      obtain ⟨rest, er, hrest⟩ := q.requested ho (by simpa using len)
      refine ⟨_, er, ?_⟩
      rw [List.filter_append, claimant, ← hns]
      have none : rest.filter (fun y => y.kind == .matched) = [] := by
        refine List.filter_eq_nil_iff.mpr fun y hy => ?_
        rcases hrest y hy with h | h | h <;> simp [h]
      rw [none, List.append_nil]
      refine List.filter_eq_self.mpr fun y hy => ?_
      obtain ⟨r, -, rfl⟩ := List.mem_map.mp hy
      rfl
    · refine (congrArg (Replied s _ 0x14 .ok) ?_).mpr hrep
      rw [claimant, ← hx]
      cases ns.head? <;> rfl
  case skip =>
    intro he
    have hid := (load?_some hl).2
    let y : Load := { l with slots := l.slots.set (pos - 1) sl.skip }
    have hy : (s.asked.modSlot ⟨id, pos⟩ Slot.skip).load? id = some y := by
      rw [modSlot_load?, if_pos rfl, asked_load?, hl]
      exact congrArg some (Load.modSlotAt_eq_set hs Slot.skip)
    have keeps : KeepsAllBut [.loads] s.asked (s.asked.modSlot ⟨id, pos⟩ Slot.skip) := (keeps_modSlot (by simp)).mpr keeps_refl
    obtain ⟨es, hrep, hk⟩ := request_changed (c := .slotSkip q id pos) (bs := [.queue, .loads]) rfl ha
      (skipSlot_taken (s := s.asked) hl hs he) rfl ((keeps_testComplete (by simp)).mpr (keeps.mono (by simp)))
    have find (c : Nat) := testComplete_load? (s.asked.modSlot ⟨id, pos⟩ Slot.skip) id c
    have tested : y.tested.slots = y.slots ∧ y.tested.status = if y.complete = true then .complete else l.status := by
      unfold Load.tested; split <;> simp [*, y]
    refine ⟨_, y.tested, es, ?_, ?_, ?_, fun c hc => ?_, fun ho hn hc => ?_, hrep, hk.mono (by simp [derived])⟩
    · rw [send_load?, settle_load?, find, if_pos rfl, hy]
      rfl
    · unfold Load.tested
      split <;> rfl
    · rw [tested.1, tested.2]
      simp only [load_complete_iff]
      rfl
    · rw [send_load?, settle_load?, find, if_neg hc, modSlot_load?, if_neg hc]
      rfl
    · have hcomplete : y.complete = true := by
        by_contra h
        rw [tested.2, if_neg h] at hc
        exact hn hc
      have q := (Queues.of_keeps keeps).trans (testComplete_queues hy)
      rw [if_pos ⟨hcomplete, hn⟩] at q
      refine q.requestReported (x := y.completeReport s.lineTime) (List.mem_singleton.mpr rfl) rfl ⟨congrArg some hid, rfl, ?_⟩ ho
      rw [tested.1]
      rfl
  case notExpected =>
    intro he
    exact request_refused rfl ha (by simp [skipSlot, hl, hs, he]; rfl) rfl
  case noLoad => exact fun hn => request_refused rfl ha (by simp [skipSlot, hn]; rfl) rfl
  case noSlot =>
    exact fun l hl hp => request_refused rfl ha (by simp [skipSlot, hl, slotAt_none hp]; rfl) rfl
  case unknownLoad => exact fun hn => request_refused rfl ha (by simp only [addSlot, asked_load?, hn]; rfl) rfl
  case badField =>
    intro hr
    have hr : slotFieldsInRange pos tag base recipe lines texts = false := by
      simpa using mt slotFieldsInRange_iff.mp hr
    exact request_refused rfl ha (by simp only [addSlot, asked_load?, hl, hr]; rfl) rfl
  case full =>
    intro hf
    exact request_refused rfl ha (by simp [addSlot, hl, slotFieldsInRange_iff.mpr hr, hf]; rfl) rfl
  case badPosition =>
    intro hf hp
    exact request_refused rfl ha (by simp [addSlot, hl, slotFieldsInRange_iff.mpr hr, Nat.not_le.mpr hf, hp]; rfl) rfl
  case duplicate =>
    intro ht
    have ht : (s.asked.tagIndex tag).isSome = true := ht
    subst hpos
    exact request_refused rfl ha (by simp [addSlot, hl, slotFieldsInRange_iff.mpr hr, Nat.not_le.mpr hroom, ht]; rfl) rfl
  case unknownArticle =>
    intro before y after hy hb hn
    have hi : lines.findIdx? (fun x => (s.asked.article? x.article).isNone) = some before.length := by
      have none : before.findIdx? (fun x => (s.asked.article? x.article).isNone) = none := by
        simp only [List.findIdx?_eq_none_iff]
        intro x hx
        simpa using hb x hx
      rw [hy, List.findIdx?_append, none]
      simp [List.findIdx?_cons, hn]
    have e := addSlot_unknownArticle (s := s.asked) ⟨hl, slotFieldsInRange_iff.mpr hr, hroom, hpos, ht⟩ hi
    exact request_refused rfl ha e rfl
  case massRange =>
    exact fun harts hm =>
      request_refused rfl ha (addSlot_massRange (s := s.asked) ⟨hl, slotFieldsInRange_iff.mpr hr, hroom, hpos, ht⟩ harts hm) rfl

end Sys2Proof.Machine
end

section
/-! SUPPORT. The requests that only read: the tables and lists they answer with (R18, R25, R49, R70, R71, R172, R195, R196, R203). -/

namespace Sys2Proof.Machine

open State

variable {s : State} {l : Load}

/-! ### READ_LOAD (R25) -/

/-- The entries of a list from an index on, each with its index. -/
theorem zipIdx_map_drop {α β : Type} (g : Nat → α → β) (m : Nat) (xs : List α) :
    (xs.zipIdx.map fun x => g x.2 x.1).drop m
      = ((List.range xs.length).filter fun i => m ≤ i).filterMap fun i => (xs[i]?).map (g i) := by
  induction xs using List.reverseRecOn with
  | nil => simp
  | append_singleton xs a ih =>
    have same : ((List.range xs.length).filter fun i => m ≤ i).filterMap (fun i => ((xs ++ [a])[i]?).map (g i))
        = ((List.range xs.length).filter fun i => m ≤ i).filterMap (fun i => (xs[i]?).map (g i)) := by
      refine List.filterMap_congr fun i hi => ?_
      have hi : i < xs.length := List.mem_range.mp (List.mem_of_mem_filter hi)
      rw [List.getElem?_append_left hi]
    rw [List.length_append, List.length_singleton, List.range_succ, List.filter_append, List.filterMap_append, same, ← ih,
      List.zipIdx_append, List.map_append, List.drop_append, List.length_map, List.length_zipIdx]
    congr 1
    by_cases h : m ≤ xs.length
    · simp [h]
    · simp [h]
      omega

/-- The summaries of a load's slots from a position on. -/
theorem summaries_drop (l : Load) {first : Nat} (h : 1 ≤ first) :
    l.summaries.drop (first - 1) = ((List.range l.slots.length).filter fun i => first ≤ i + 1).filterMap (fun i =>
      (l.slots[i]?).map fun x => (⟨i + 1, x.tag, x.state, x.claimant, x.rejects, x.base, x.recipe, x.gross, x.net⟩ : SlotRow)) := by
  have e := zipIdx_map_drop (fun i (x : Slot) =>
    (⟨i + 1, x.tag, x.state, x.claimant, x.rejects, x.base, x.recipe, x.gross, x.net⟩ : SlotRow)) (first - 1) l.slots
  have p : (fun i => decide (first - 1 ≤ i)) = fun i => decide (first ≤ i + 1) := by
    funext i
    exact decide_eq_decide.mpr (by omega)
  rw [p] at e
  exact e

theorem readLoad_summary {id pos form : Nat} (hn : id ≠ 0) (hl : s.load? id = some l) (hf : form ≤ 1)
    (hk : pos ≤ l.slots.length + 1) (h : pos = 0 ∨ form = 0) : readLoadOp id pos form s = (s, .ok, l.summaryFrom (max 1 pos)) := by
  unfold readLoadOp
  rw [if_neg (Nat.not_lt.mpr hf), if_neg (by simpa using hn), hl]
  dsimp only
  by_cases h0 : pos = 0
  · rw [if_pos (by simpa using h0), h0, max_eq_left (by omega)]
  · have hf0 : form = 0 := h.resolve_left h0
    rw [if_neg (by simpa using h0), if_pos (by simpa using hf0), if_pos hk, max_eq_right (by omega)]

theorem readLoad_slot {id pos : Nat} (hn : id ≠ 0) (hl : s.load? id = some l) (hk : pos ≠ 0) :
    readLoadOp id pos 1 s = match l.slotAt pos with
      | some sl => (s, .ok, .slot pos sl)
      | none => refuse s .badArgument := by
  unfold readLoadOp
  rw [if_neg (by decide), if_neg (by simpa using hn), hl]
  dsimp only
  rw [if_neg (by simpa using hk), if_neg (by decide)]
    <;> rfl

theorem readLoad_beyond {id pos form : Nat} (hn : id ≠ 0) (hl : s.load? id = some l) (hf : form ≤ 1) (hk : l.slots.length < pos)
    (h : form = 1 ∨ l.slots.length + 1 < pos) : readLoadOp id pos form s = refuse s .badArgument := by
  rcases Nat.le_one_iff_eq_zero_or_eq_one.mp hf with rfl | rfl
  · unfold readLoadOp
    rw [if_neg (by decide), if_neg (by simpa using hn), hl]
    dsimp only
    rw [if_neg (by simp; omega), if_pos (by decide), if_neg (by omega)]
  · rw [readLoad_slot hn hl (by omega), slotAt_none (.inr hk)]

/-! ### LIST_PLACES (R49) -/

theorem allPlaces_numbers : allPlaces.map Place.number = List.range' 1 34 := by decide

theorem covered_iff (p : Place) : s.covered p = true ↔ ∃ i ∈ sensorsOf p, s.input i = true := by
  cases p <;> simp [State.covered, sensorsOf]

theorem placeState_free_iff (p : Place) : s.placeState p = .free
    ↔ (s.place p).unknown = false ∧ s.occupancy p = 0 ∧ (s.place p).incoming = [] ∧ (s.place p).clearing = false := by
  unfold State.placeState
  dsimp only
  cases (s.place p).unknown <;> simp [and_assoc]

theorem placeState_unknown_iff (p : Place) : s.placeState p = .unknown ↔ (s.place p).unknown = true := by
  unfold State.placeState
  dsimp only
  cases (s.place p).unknown <;> simp
  split <;> simp

theorem placeRow_of (p : Place) : PlaceRowOf s p (s.placeRow p) := by
  refine ⟨rfl, placeState_unknown_iff p, ?_, covered_iff p, rfl, rfl, rfl⟩
  refine (placeState_free_iff p).trans (and_congr_right fun _ => and_congr_left fun _ => ?_)
  cases p <;> simp [State.occupancy]

/-! ### READ_LANE (R172) -/

theorem laneOf_number (ln : Lane) : laneOf (ln.val + 1) = some ln := by
  unfold laneOf
  rw [dif_pos (by omega)]
  exact congrArg some (Fin.ext rfl)

theorem allLanes_getElem? (ln : Lane) : allLanes[ln.val]? = some ln := by revert ln; decide

theorem slot_closed_iff {x : Slot} : x.closed = true ↔ x.state = .dispatched ∨ x.state = .skipped := by simp [Slot.closed]

theorem slotAt_eq {k : Nat} (h : 1 ≤ k) : l.slotAt k = l.slots[k - 1]? := by
  unfold Load.slotAt; rw [if_neg (by simp; omega)]

/-- With every slot closed the next position is the one after them, while the load is not whole (R157). -/
theorem nextPosition_of_closed {k : Nat} (h : ∀ x ∈ l.slots, x.closed = true) :
    NextPosition l k ↔ k = l.slots.length + 1 ∧ l.slots.length < l.planned := by
  constructor
  · rintro ⟨-, -, ⟨x, hx, h1, h2⟩ | hk⟩
    · have hm : x ∈ l.slots := List.mem_of_getElem? (slotAt_some hx).2
      exact absurd (slot_closed_iff.mp (h x hm)) (by simp [h1, h2])
    · exact hk
  · rintro ⟨rfl, hp⟩
    refine ⟨by omega, fun j x _ hx => slot_closed_iff.mp (h x (List.mem_of_getElem? (slotAt_some hx).2)), .inr ⟨rfl, hp⟩⟩

/-- The next position is that of the first open slot (R157). -/
theorem nextPosition_of_open {k i : Nat} (hi : i < l.slots.length) (ho : l.slots[i].closed = false)
    (hmin : ∀ j (hj : j < i), l.slots[j].closed = true) : NextPosition l k ↔ k = i + 1 := by
  have openAt : l.slotAt (i + 1) = some l.slots[i] := by rw [slotAt_eq (by omega)]; simp [hi]
  have closed (j : Nat) (x : Slot) (hj : j < i + 1) (hx : l.slotAt j = some x) : x.closed = true := by
    obtain ⟨h0, hx⟩ := slotAt_some hx
    have hj' : j - 1 < i := by omega
    have e : l.slots[j - 1] = x := by
      rw [List.getElem?_eq_getElem (by omega)] at hx
      exact Option.some.inj hx
    exact e ▸ hmin (j - 1) hj'
  constructor
  · rintro ⟨h1, h2, h3⟩
    rcases Nat.lt_trichotomy k (i + 1) with hk | hk | hk
    · rcases h3 with ⟨x, hx, n1, n2⟩ | ⟨rfl, -⟩
      · exact absurd (slot_closed_iff.mp (closed k x hk hx)) (by simp [n1, n2])
      · omega
    · exact hk
    · have := slot_closed_iff.mpr (h2 (i + 1) _ hk openAt)
      rw [ho] at this
      cases this
  · rintro rfl
    refine ⟨by omega, fun j x hj hx => slot_closed_iff.mp (closed j x hj hx), .inl ⟨_, openAt, ?_⟩⟩
    exact not_or.mp fun h => by rw [slot_closed_iff.mpr h] at ho; cases ho

/-- The next position of a load is the lowest one that is open (R157). -/
theorem nextPosition_iff {k : Nat} : l.nextPosition = some k ↔ NextPosition l k := by
  unfold Load.nextPosition
  rcases e : l.slots.findIdx? (fun x => !x.closed) with _ | i
  · have h : ∀ x ∈ l.slots, x.closed = true := by simpa using List.findIdx?_eq_none_iff.mp e
    rw [nextPosition_of_closed h, e]
    dsimp only
    split
    · simp [*, eq_comm]
    · simp [*]
  · obtain ⟨hi, ho, hmin⟩ := List.findIdx?_eq_some_iff_getElem.mp e
    rw [nextPosition_of_open hi (by simpa using ho) fun j hj => by simpa using hmin j hj, e]
    simp [eq_comm]

theorem laneRow_of (ln : Lane) : LaneRowOf s ln (s.laneRow ln) := by
  refine ⟨rfl, rfl, rfl, rfl, rfl, rfl, fun hn => ?_, fun ld hl => ?_⟩
  · have hn : s.boundLoad ln = none := hn
    simp [State.laneRow, State.laneStatus, hn]
  · have hl : s.boundLoad ln = some ld := hl
    refine ⟨?_, by simp [State.laneRow, hl], fun k => ?_, ?_, fun n st => ?_, by simp [State.laneRow, hl]⟩
    · simp [State.laneRow, State.laneStatus, hl]
    · simp only [State.laneRow, hl, Option.bind_some]
      exact nextPosition_iff
    · simp only [State.laneRow, hl, Option.bind_some]
      rw [← nextPosition_iff]
      rcases e : ld.nextPosition with _ | k
      · simp
      · obtain ⟨-, -, ⟨x, hx, -⟩ | ⟨rfl, -⟩⟩ := nextPosition_iff.mp e
        · have := (List.getElem?_eq_some_iff.mp (slotAt_some hx).2).1
          simp
          omega
        · simp
    · simp only [State.laneRow, hl, Option.bind_some, Option.map_eq_some_iff, Option.bind_eq_some_iff, Prod.mk.injEq]
      constructor
      · rintro ⟨r, ⟨m, ⟨x, ⟨k, hk, hx⟩, hc⟩, hr⟩, rfl, rfl⟩
        have hn := record?_number hr
        exact ⟨k, x, r, nextPosition_iff.mp hk, hx, hn ▸ hc, hn ▸ hr, rfl⟩
      · rintro ⟨k, x, r, hk, hx, hc, hr, rfl⟩
        exact ⟨r, ⟨n, ⟨x, ⟨k, nextPosition_iff.mpr hk, hx⟩, hc⟩, hr⟩, record?_number hr, rfl⟩

theorem shuttleWaiting_iff : s.shuttleWaiting = true ↔ ∃ k, s.buffer.task = some k ∧ k.leg = .delivery
    ∧ ∀ m ∈ s.field.moves, m.track = k.track → m.source ≠ .shuttle := by
  unfold State.shuttleWaiting
  cases s.buffer.task with
  | none => simp
  | some k => simp [imp_iff_not_or]

theorem shuttleShown : ShuttleShown s s.shuttleCondition (s.stationState .shuttle) := by
  unfold ShuttleShown
  rw [← shuttleWaiting_iff]
  refine ⟨?_, ?_, ?_, ?_, ?_⟩
  · unfold State.shuttleCondition
    rcases s.buffer.task with _ | ⟨n, g, _ | _⟩ <;> simp
  · unfold State.shuttleCondition
    rcases s.buffer.task with _ | ⟨n, g, _ | _⟩ <;> simp
  all_goals
    simp only [State.stationState]
    cases s.buffer.fault <;> cases s.shuttleWaiting <;> simp

/-- Settles O47: each request by what its operation answers. -/
theorem theReadingRequestsOnlyAnswer : Obligations.TheReadingRequestsOnlyAnswer := by
  intro q n s ha
  refine ⟨request_read rfl ha rfl, fun k hk => ?setting, fun hn => ?noSetting, fun body hb => ?table, fun hn => ?noTable,
    fun a h => ?article, fun a h => ?nextArticle, fun h => ?noArticle, fun h => ?noNext, fun form hf => ?loads,
    fun k form hn hl hf => ?noLoad, fun k form hf => ?badForm, fun l k form first rows hn hl hf h1 hk h0 hr => ?summaries,
    fun l k form hn hl hf hk h => ?noSummary, fun l sl hn hl k hk hs => ?slot, ?places, fun r hr => ?pallet, fun hr => ?noPallet,
    fun k rest hn hk hr => ?pallets, fun k h => ?badSelector, ?lanes, fun hn => ?noLane⟩
  case setting => exact request_read rfl ha (by subst hk; simp only [getSettingOp, settingOf_idx]; rfl)
  case noSetting =>
    have none : settingOf n = none := by
      unfold settingOf
      refine List.find?_eq_none.mpr fun k _ h => ?_
      have : k.idx.val + 1 = n := by simpa using h
      omega
    exact request_refused rfl ha (by simp only [getSettingOp, none]; rfl) rfl
  case table =>
    simp only [List.mem_cons, Prod.mk.injEq, List.not_mem_nil, or_false] at hb
    rcases hb with ⟨rfl, rfl⟩ | ⟨rfl, rfl⟩ | ⟨rfl, rfl⟩ | ⟨rfl, rfl⟩ | ⟨rfl, rfl⟩ <;> exact request_read rfl ha rfl
  case noTable =>
    have e : getTableOp n s.asked = refuse s.asked .badArgument := by
      obtain rfl | ⟨m, rfl⟩ : n = 0 ∨ ∃ m, n = m + 6 := hn.imp_right fun h => ⟨n - 6, by omega⟩
      · rfl
      · rfl
    exact request_refused rfl ha e rfl
  case article => exact request_read rfl ha (by simp only [getArticle, State.article?, asked_plan, h])
  case nextArticle => exact request_read rfl ha (by simp only [getArticle, asked_plan, h])
  case noArticle =>
    have none : s.article? n = none := by simpa [State.article?] using h
    exact request_refused rfl ha (by simp only [getArticle, asked_article?, none]; rfl) rfl
  case noNext =>
    have none : s.plan.articles.find? (fun a => decide (n < a.code)) = none := by simpa using h
    exact request_refused rfl ha (by simp only [getArticle, asked_plan, none]; rfl) rfl
  case loads =>
    exact request_read rfl ha (by simp only [readLoadOp, if_neg (Nat.not_lt.mpr hf), beq_self_eq_true, if_true]; rfl)
  case noLoad =>
    exact request_refused rfl ha (by simp [readLoadOp, Nat.not_lt.mpr hf, hn, hl]; rfl) rfl
  case badForm => exact request_refused rfl ha (by simp [readLoadOp, hf]; rfl) rfl
  case summaries =>
    have hp : 1 ≤ max 1 k := le_max_left 1 k
    subst hr h1
    rw [← summaries_drop l hp]
    exact request_read rfl ha (readLoad_summary (s := s.asked) hn hl hf hk h0)
  case noSummary => exact request_refused rfl ha (readLoad_beyond (s := s.asked) hn hl hf hk h) rfl
  case slot => exact request_read rfl ha (by rw [readLoad_slot (s := s.asked) hn hl hk, hs])
  case places =>
    refine ⟨_, request_read rfl ha rfl, ?_, fun row hrow => ?_⟩
    · rw [List.map_map, ← allPlaces_numbers]
      rfl
    · obtain ⟨p, -, rfl⟩ := List.mem_map.mp hrow
      exact ⟨p, placeRow_of p⟩
  case pallet => exact request_read rfl ha (by simp [readPalletOp, hr])
  case noPallet => exact request_refused rfl ha (by simp only [readPalletOp, asked_record?, hr]; rfl) rfl
  case pallets =>
    have p : (fun r : Record => n == 0 || r.stage.number == n) = fun r => decide (n = 0 ∨ r.stage.number = n) := by
      funext r; simp [Bool.decide_or]; rfl
    subst hr
    refine request_read rfl ha ?_
    have hc : ¬ (decide (31 < k) || decide (13 < n)) = true := by simp; omega
    unfold listPalletsOp
    rw [if_neg hc, p]
    rfl
  case badSelector =>
    have hc : (decide (31 < k) || decide (13 < n)) = true := by simp; omega
    exact request_refused rfl ha (by unfold listPalletsOp; rw [if_pos hc]; rfl) rfl
  case lanes =>
    refine ⟨_, _, shuttleShown, fun l hl => ⟨_, laneRow_of l, ?_⟩, allLanes.map s.laneRow, rfl, fun l => ⟨_, ?_, laneRow_of l⟩,
      request_read rfl ha rfl⟩
    · subst hl
      refine request_read rfl ha ?_
      unfold readLaneOp
      simp only [laneOf_number]
      rfl
    · rw [List.getElem?_map, allLanes_getElem?]
      rfl
  case noLane =>
    refine request_refused (t := s.asked) rfl ha ?_ rfl
    unfold readLaneOp
    simp only [laneOf_none (.inr hn)]
    rw [if_neg (by simp; omega)]
    rfl

end Sys2Proof.Machine
end

section
/-! SUPPORT. The parts of a full and a line reset: places, the gate, the halt, the wake holds, and outputs that stay off (R30, R33,
R37, R74, R180, R183). -/

namespace Sys2Proof.Machine

open State

variable {bs : List Block} {r s t u : State}

/-! ### Places (R37) -/

/-- The report of a place covered at a reset (R37). -/
def coveredReport (now : LineTime) (p : Place) : Report := ⟨.placeUnknown, now, none, none, none, p.number, some 3⟩

theorem resetPlace_keeps (p : Place) : KeepsAllBut [.places, .queue] s (s.resetPlace p) := (keeps_resetPlace (by simp)).mpr keeps_refl

theorem resetPlace_place (p c : Place) :
    (s.resetPlace p).place c = if c = p then ⟨s.covered p, false, [], []⟩ else s.place c := by
  unfold State.resetPlace
  dsimp only
  split
  · exact ((raise_keeps _ _ _).place c).trans (modPlace_place p _ c)
  · exact modPlace_place p _ c

theorem resetPlace_queues (p : Place) :
    Queues s (s.resetPlace p) (if s.covered p then [coveredReport s.lineTime p] else []) := by
  have k : Queues s (s.modPlace p fun _ => ⟨s.covered p, false, [], []⟩) [] := .of_keeps (bs := [.places]) (by simp)
  unfold State.resetPlace
  dsimp only
  split
  · exact k.trans (.raise _ _)
  · exact k

theorem foldl_resetPlace_keeps (l : List Place) : KeepsAllBut [.places, .queue] s (l.foldl State.resetPlace s) :=
  (keeps_foldl (fun _ _ => keeps_resetPlace (by simp)) l).mpr keeps_refl

theorem foldl_resetPlace_place (l : List Place) (c : Place) :
    (l.foldl State.resetPlace s).place c = if c ∈ l then ⟨s.covered c, false, [], []⟩ else s.place c := by
  induction l generalizing s with
  | nil => simp
  | cons p l ih =>
    rw [List.foldl_cons, ih, (resetPlace_keeps p).covered c, resetPlace_place]
    by_cases hc : c = p
    · subst c; simp
    · simp [hc]

theorem foldl_resetPlace_queues (l : List Place) :
    Queues s (l.foldl State.resetPlace s) ((l.filter s.covered).map (coveredReport s.lineTime)) := by
  induction l generalizing s with
  | nil => exact .refl s
  | cons p l ih =>
    have q := (resetPlace_queues (s := s) p).trans (ih (s := s.resetPlace p))
    have hc : (s.resetPlace p).covered = s.covered := funext fun c => (resetPlace_keeps p).covered c
    rw [hc, resetPlace_keeps p .lineTime (by decide)] at q
    rw [List.filter_cons]
    split
    · rename_i h; rw [if_pos h] at q; exact q
    · rename_i h; rw [if_neg h] at q; exact q

theorem resetPlaces_place (p : Place) : s.resetPlaces.place p = ⟨s.covered p, false, [], []⟩ :=
  (foldl_resetPlace_place allPlaces p).trans (if_pos (mem_allPlaces p))

/-! ### The gate (R74) -/

theorem forall_infeed {p : Infeed → Prop} : (∀ i, p i) ↔ p .a ∧ p .b ∧ p .c :=
  ⟨fun h => ⟨h _, h _, h _⟩, fun ⟨ha, hb, hc⟩ i => by cases i <;> assumption⟩

/-- The gate is taken to stand at the one infeed whose input alone is active. -/
theorem gateInputs_iff (i : Infeed) : s.gateInputs = some i ↔ ∀ j, s.input (.gateAt j) = (j == i) := by
  unfold State.gateInputs
  rw [forall_infeed]
  cases s.input (.gateAt .a) <;> cases s.input (.gateAt .b) <;> cases s.input (.gateAt .c) <;> cases i <;> decide

/-! ### The halt, and the end of a reset (R180, R183) -/

theorem changeMode_keeps (m : LineMode) (c : ModeCause) : KeepsAllBut [.queue, .wakeHolds, .mode] s (s.changeMode m c) :=
  (keeps_changeMode (by simp)).mpr keeps_refl

/-- The report of a line that enters HALTED (R174). -/
def haltReport (now : LineTime) : Report := ⟨.modeChange, now, none, none, none, 4, some 6⟩

theorem halt_sent : s.halt.sent = s.sent ++ [.hold (.wrapper .one), .hold (.wrapper .two), .hold .printer] := by
  refine (changeMode_keeps .halted .estop .sent (by decide)).trans ?_
  simp [State.emptyWindow, State.sendAll, State.send]

theorem halt_mass (h : s.mass.capture = none) : s.halt.mass = s.mass := by
  refine (changeMode_keeps .halted .estop .mass (by decide)).trans ?_
  cases e : s.mass
  simp_all [State.emptyWindow, State.sendAll]

theorem changeMode_wakeHolds (m : LineMode) (c : ModeCause) : (s.changeMode m c).field.wakeHolds
    = if m = .stopped then s.field.wakeHolds else Vector.replicate 3 none := by
  have e (u : State) : ((u.modMode fun x => { x with mode := m }).raise .modeChange
      { detail := m.number, value := some c.number }).field.wakeHolds = u.field.wakeHolds := raise_keeps _ _ _ .wakeHolds (by decide)
  unfold State.changeMode
  cases m <;> exact e _

theorem halt_wakeHolds : s.halt.field.wakeHolds = Vector.replicate 3 none := changeMode_wakeHolds .halted .estop

theorem changeMode_queues (m : LineMode) (c : ModeCause) :
    Queues s (s.changeMode m c) [⟨.modeChange, s.lineTime, none, none, none, m.number, some c.number⟩] := by
  have q (u : State) : Queues u ((u.modMode fun x => { x with mode := m }).raise .modeChange
      { detail := m.number, value := some c.number }) [⟨.modeChange, u.lineTime, none, none, none, m.number, some c.number⟩] :=
    (Queues.of_keeps (bs := [.mode]) (by simp)).trans (.raise _ _)
  unfold State.changeMode
  split
  · exact q s
  · exact (Queues.of_keeps (bs := [.wakeHolds]) ((keeps_stopWakes (by simp)).mpr keeps_refl)).trans (q s.stopWakes)

theorem halt_queues : Queues s s.halt [haltReport s.lineTime] :=
  (Queues.of_keeps (bs := [.mode, .sent, .mass]) (by simp)).trans (changeMode_queues .halted .estop)

section
variable {b : Bool}

theorem endReset_keeps : KeepsAllBut [.queue, .wakeHolds, .mass, .mode, .sent] s (s.endReset b) :=
  (keeps_endReset (by simp)).mpr keeps_refl

theorem endReset_mode :
    (s.endReset b).mode = if s.field.estop then ⟨.halted, some s.mode.mode, s.mode.drain⟩ else s.mode := by
  unfold State.endReset
  split
  · exact halt_mode
  · cases b <;> rfl

theorem endReset_sent : (s.endReset b).sent = s.sent
    ++ if s.field.estop then [.hold (.wrapper .one), .hold (.wrapper .two), .hold .printer]
       else if b then [.resume (.wrapper .one), .resume (.wrapper .two), .resume .printer] else [] := by
  unfold State.endReset
  split
  · exact halt_sent
  · cases b <;> simp [State.sendAll, State.send]

theorem endReset_mass (h : s.mass.capture = none) : (s.endReset b).mass = s.mass := by
  unfold State.endReset
  split
  · exact halt_mass h
  · cases b <;> rfl

theorem endReset_wakeHolds (h : s.field.wakeHolds = Vector.replicate 3 none) :
    (s.endReset b).field.wakeHolds = Vector.replicate 3 none := by
  unfold State.endReset
  split
  · exact halt_wakeHolds
  · cases b <;> exact h

theorem endReset_queues : Queues s (s.endReset b) (if s.field.estop then [haltReport s.lineTime] else []) := by
  unfold State.endReset
  split
  · exact halt_queues
  · cases b
    · exact .refl s
    · exact .of_keeps (bs := [.sent]) ((keeps_sendAll (by simp)).mpr keeps_refl)

end

/-! ### The purge combination and the wake holds (R32, R33) -/

theorem purgeWatch_purgeHold (h : s.field.purgeHold = none) (hs : s.field.purgeSpent = false) :
    s.purgeWatch.field.purgeHold = (if s.purgeActive then some 400 else none) ∧ s.purgeWatch.field.purgeSpent = false := by
  unfold State.purgeWatch
  split
  · simp [h, hs, Config.purgeHold]
  · exact ⟨rfl, rfl⟩

theorem startWake_hold (i j : Infeed) : tget (s.startWake i).field.wakeHolds j.idx =
    if j = i ∧ s.mode.mode = .stopped ∧ s.setting .autoWake = 1 ∧ tget s.track.enabled i.idx = true ∧ s.input (.entry i) = true
    then some (s.setting .wakeHold) else tget s.field.wakeHolds j.idx := by
  unfold State.startWake State.settingOn
  by_cases h : (s.mode.mode == .stopped && s.setting .autoWake == 1 && tget s.track.enabled i.idx && s.input (.entry i)) = true
  · have h' : s.mode.mode = .stopped ∧ s.setting .autoWake = 1 ∧ tget s.track.enabled i.idx = true ∧ s.input (.entry i) = true := by
      simpa [and_assoc] using h
    rw [if_pos h]
    show tget (tset s.field.wakeHolds i.idx _) j.idx = _
    by_cases hj : j = i
    · subst j; rw [tget_tset_self, if_pos ⟨rfl, h'⟩]
    · rw [tget_tset_of_ne _ _ fun e => hj (infeed_idx_injective e).symm, if_neg fun k => hj k.1]
  · have h' : ¬ (s.mode.mode = .stopped ∧ s.setting .autoWake = 1 ∧ tget s.track.enabled i.idx = true ∧ s.input (.entry i) = true) := by
      simpa [and_assoc] using h
    rw [if_neg h, if_neg fun k => h' k.2]

/-- Where holds start, each infeed's runs as its own conditions say. -/
theorem startWakes_hold (i : Infeed) : tget s.startWakes.field.wakeHolds i.idx =
    if s.mode.mode = .stopped ∧ s.setting .autoWake = 1 ∧ tget s.track.enabled i.idx = true ∧ s.input (.entry i) = true
    then some (s.setting .wakeHold) else tget s.field.wakeHolds i.idx := by
  have k (i : Infeed) (u : State) : KeepsAllBut [.wakeHolds] u (u.startWake i) := (keeps_startWake (by simp)).mpr keeps_refl
  have hm (i : Infeed) (u : State) : (u.startWake i).mode = u.mode := k i u .mode (by decide)
  have he (i : Infeed) (u : State) : (u.startWake i).track.enabled = u.track.enabled := k i u .enabled (by decide)
  show tget (((s.startWake .a).startWake .b).startWake .c).field.wakeHolds i.idx = _
  simp only [startWake_hold, (k _ _).setting, (k _ _).input, hm, he]
  cases i <;> simp

/-- With the holds abandoned before, the start of holds leaves those of the conditions as they then stand. -/
theorem startWakes_anew (h : s.field.wakeHolds = Vector.replicate 3 none) (k : KeepsAllBut bs s.startWakes t)
    (hw : .wakeHolds ∉ bs := by decide) (hm : .mode ∉ bs := by decide) (hs : .settings ∉ bs := by decide)
    (he : .enabled ∉ bs := by decide) (hi : .filtered ∉ bs := by decide) : WakesAnew t := by
  intro i
  have j : KeepsAllBut [.wakeHolds] s s.startWakes := (keeps_startWakes (by simp)).mpr keeps_refl
  have e : tget t.field.wakeHolds i.idx = _ := (congrArg (fun v => tget v i.idx) (k .wakeHolds hw)).trans (startWakes_hold i)
  rw [h, tget_replicate] at e
  unfold WakeStarts
  rw [e, k.setting _ hs, k.setting _ hs, k.input _ hi, j.setting, j.setting, j.input,
    show t.track.enabled = _ from k .enabled he, show t.mode = _ from k .mode hm, j .enabled (by decide), j .mode (by decide)]
  by_cases hstop : s.mode.mode = .stopped <;> simp [hstop]

/-! ### Derived signals of an empty line -/

theorem settleZone_of_off {z : Zone} (hl : s.drivesLive = false) (hz : (s.zone z).drive = false) : s.settleZone z = s := by
  simp [State.settleZone, State.zoneDrive, hl, hz]

theorem settleZones_of_off (hl : s.drivesLive = false) (hz : ∀ z, (s.zone z).drive = false) : s.settleZones = s := by
  unfold State.settleZones
  induction allZones with
  | nil => rfl
  | cons z l ih => rw [List.foldl_cons, settleZone_of_off hl (hz z), ih]

theorem foldl_settleLamp_zones (l : List Lamp) : (l.foldl State.settleLamp s).field.zones = s.field.zones := by
  induction l generalizing s with
  | nil => rfl
  | cons x l ih =>
    rw [List.foldl_cons, ih]
    unfold State.settleLamp
    dsimp only
    split <;> rfl

theorem settleCarriers_zones : s.settleCarriers.field.zones = s.field.zones := by
  unfold State.settleCarriers; split <;> rfl

/-- Setting the outputs of a line whose drives are all off, in STOPPED or HALTED, leaves the zones. -/
theorem settleOutputs_zones (hl : s.drivesLive = false) (hz : ∀ z, (s.zone z).drive = false) :
    s.settleOutputs.field.zones = s.field.zones := by
  unfold State.settleOutputs State.settleLamps
  rw [settleZones_of_off hl hz, foldl_settleLamp_zones, settleCarriers_zones]

theorem settleOutputs_keeps (s : State) : KeepsAllBut [.outputs] s s.settleOutputs := (keeps_settleOutputs (by simp)).mpr keeps_refl

end Sys2Proof.Machine
end

section
/-! The full reset (R26, R37, R183, R184, R204). -/

namespace Sys2Proof.Machine

open State

variable {bs : List Block} {r s t u : State} {q : Req}

/-- Every block at its full-reset values but the places, which are set next: the gate stands as its inputs do, and the messages of a
reset are sent (R183). -/
def State.cleared (s : State) : State := s.blank.sendResets.modMerge fun m => { m with gate := s.blank.sendResets.gateInputs }

theorem fullReset_eq :
    s.fullReset = (s.cleared.resetPlaces.endReset (s.mode.mode == .halted)).purgeWatch.settleSilently := rfl

theorem KeepsAllBut.link (k : KeepsAllBut bs s t) (ho : t.link.overflow = s.link.overflow)
    (h : .counters ∉ bs ∧ .address ∉ bs ∧ .straps ∉ bs ∧ .receiver ∉ bs ∧ .answering ∉ bs ∧ .identity ∉ bs ∧ .mask ∉ bs := by decide) :
    t.link = { s.link with reports := t.link.reports, attention := t.link.attention } := by
  obtain ⟨h1, h2, h3, h4, h5, h6, h7⟩ := h
  have e1 : t.link.counters = _ := k .counters h1
  have e2 : t.link.address = _ := k .address h2
  have e3 : t.link.straps = _ := k .straps h3
  have e4 : t.link.receiver = _ := k .receiver h4
  have e5 : t.link.answering = _ := k .answering h5
  have e6 : t.link.identity = _ := k .identity h6
  have e7 : t.link.mask = _ := k .mask h7
  generalize t.link = u at *
  cases u
  simp_all

theorem KeepsAllBut.plan (k : KeepsAllBut bs s t)
    (h : .articles ∉ bs ∧ .bases ∉ bs ∧ .recipes ∉ bs ∧ .bands ∉ bs ∧ .loads ∉ bs := by decide) : t.plan = s.plan := by
  obtain ⟨h1, h2, h3, h4, h5⟩ := h
  have e1 : t.plan.articles = _ := k .articles h1
  have e2 : t.plan.bases = _ := k .bases h2
  have e3 : t.plan.recipes = _ := k .recipes h3
  have e4 : t.plan.bands = _ := k .bands h4
  have e5 : t.plan.loads = _ := k .loads h5
  generalize t.plan = u at *
  cases u
  simp_all

theorem KeepsAllBut.track (k : KeepsAllBut bs s t)
    (h : .records ∉ bs ∧ .nextNumber ∉ bs ∧ .enabled ∉ bs ∧ .scanners ∉ bs := by decide) : t.track = s.track := by
  obtain ⟨h1, h2, h3, h4⟩ := h
  have e1 : t.track.records = _ := k .records h1
  have e2 : t.track.nextNumber = _ := k .nextNumber h2
  have e3 : t.track.enabled = _ := k .enabled h3
  have e4 : t.track.scanners = _ := k .scanners h4
  generalize t.track = u at *
  cases u
  simp_all

theorem KeepsAllBut.wholeLabel (k : KeepsAllBut bs s t) (h : .label ∉ bs ∧ .printLimit ∉ bs := by decide) : t.label = s.label := by
  have e : t.label.print = s.label.print := k .printLimit h.2
  rw [k.label h.1, e]

theorem KeepsAllBut.wholeBuffer (k : KeepsAllBut bs s t) (h : .buffer ∉ bs ∧ .windows ∉ bs ∧ .deadlock ∉ bs := by decide) :
    t.buffer = s.buffer := by
  have e : t.buffer.deadlock = s.buffer.deadlock := k .deadlock h.2.2
  rw [k.buffer h.1 h.2.1, e]

theorem KeepsAllBut.wholeMerge (k : KeepsAllBut bs s t) (h : .merge ∉ bs ∧ .grant ∉ bs := by decide) : t.merge = s.merge := by
  obtain ⟨e1, e2⟩ := k .grant h.2
  rw [k.merge h.1, e1, e2]

theorem settleSilently_keeps (s : State) : KeepsAllBut [.outputs, .laneStates, .reported] s s.settleSilently :=
  (keeps_settleSilently (by simp)).mpr keeps_refl

theorem settleSilently_zones (hl : s.drivesLive = false) (hz : ∀ z, (s.zone z).drive = false) :
    s.settleSilently.field.zones = s.field.zones := by
  unfold State.settleSilently
  dsimp only
  rw [settleOutputs_zones]
  · exact hl
  · exact hz

/-! ### A line with nothing on it -/

theorem tmod_of_fixed {α : Type} {n : Nat} {v : Vector α n} {i : Fin n} {f : α → α} (h : f (tget v i) = tget v i) : tmod v i f = v := by
  refine table_ext fun j => ?_
  rw [tget_tmod]
  split
  · subst i; exact h
  · rfl

/-- Where nothing is covered and every place is free already, resetting the places changes nothing. -/
theorem resetPlaces_of_free (hc : ∀ p, s.covered p = false) (hp : ∀ p, s.place p = ⟨false, false, [], []⟩) : s.resetPlaces = s := by
  have one (p : Place) : s.resetPlace p = s := by
    have e : tmod s.field.places p.idx (fun _ => ⟨false, false, [], []⟩) = s.field.places := tmod_of_fixed (hp p).symm
    unfold State.resetPlace State.modPlace State.modField
    simp only [hc p, e]
    rfl
  unfold State.resetPlaces
  induction allPlaces with
  | nil => rfl
  | cons p l ih => rw [List.foldl_cons, one p, ih]

/-- The reset state but for the messages and the model's own fields. -/
def State.resetWith (sent : List Message) (draws : Nat) (queue : List Instr) : State :=
  { State.reset with sent := sent, freeDraws := draws, pending := queue }

/-- After a reset every lamp shows its pattern. -/
theorem resetWith_lamp (m : List Message) (n : Nat) (c : List Instr) (l : Lamp) :
    (State.resetWith m n c).settleLamp l = State.resetWith m n c := by
  have h : ((tget (State.resetWith m n c).field.lamps l.idx).pattern == (State.resetWith m n c).pattern l) = true := by
    rcases l with x | i | p | _
    · fin_cases x <;> rfl
    · cases i <;> rfl
    · cases p <;> rfl
    · rfl
  unfold State.settleLamp
  dsimp only
  rw [if_pos h]

theorem resetWith_lanes (m : List Message) (n : Nat) (c : List Instr) (l : Lane) :
    (State.resetWith m n c).laneStatus l = .unbound := rfl

theorem resetWith_settled (m : List Message) (n : Nat) (c : List Instr) :
    (State.resetWith m n c).settleSilently = State.resetWith m n c := by
  have zones : (State.resetWith m n c).settleZones = State.resetWith m n c := by
    exact settleZones_of_off rfl fun z => congrArg ZoneEntry.drive (tget_replicate (⟨.normal, 0, false, false, 0, 0, none⟩ : ZoneEntry) z.idx)
  have carriers : (State.resetWith m n c).settleCarriers = State.resetWith m n c := by
    unfold State.settleCarriers
    rw [show (State.resetWith m n c).drivesLive = false from rfl]
    rfl
  have lamps (l : List Lamp) : l.foldl State.settleLamp (State.resetWith m n c) = State.resetWith m n c := by
    induction l with
    | nil => rfl
    | cons x l ih => rw [List.foldl_cons, resetWith_lamp, ih]
  have outputs : (State.resetWith m n c).settleOutputs = State.resetWith m n c := by
    unfold State.settleOutputs State.settleLamps
    rw [zones, carriers, lamps]
  unfold State.settleSilently
  dsimp only
  simp only [resetWith_lanes]
  exact outputs

/-! ### What a full reset leaves -/

theorem cleared_placed (s : State) : KeepsAllBut [.places, .queue] s.cleared s.cleared.resetPlaces := foldl_resetPlace_keeps _

theorem fullReset_ended (s : State) : KeepsAllBut [.purgeHold, .outputs, .laneStates, .reported]
    (s.cleared.resetPlaces.endReset (s.mode.mode == .halted)) s.fullReset := by
  rw [fullReset_eq]; simp

theorem fullReset_keeps (s : State) :
    KeepsAllBut [.places, .queue, .wakeHolds, .mass, .mode, .sent, .purgeHold, .outputs, .laneStates, .reported] s.cleared s.fullReset := by
  rw [fullReset_eq]; simp

theorem fullReset_place (p : Place) : s.fullReset.place p = ⟨s.fullReset.covered p, false, [], []⟩ := by
  rw [(fullReset_keeps s).covered, (fullReset_ended s).place, endReset_keeps.place, resetPlaces_place]

theorem fullReset_mode :
    s.fullReset.mode = if s.field.estop then ⟨.halted, some .stopped, none⟩ else ⟨.stopped, none, none⟩ := by
  have k := cleared_placed s
  rw [show s.fullReset.mode = _ from fullReset_ended s .mode (by decide), endReset_mode, k .mode (by decide),
    k .estop (by decide)]
  rfl

theorem fullReset_sent : s.fullReset.sent = s.sent ++ resetMessages
    ++ if s.field.estop then [.hold (.wrapper .one), .hold (.wrapper .two), .hold .printer]
       else if s.mode.mode = .halted then [.resume (.wrapper .one), .resume (.wrapper .two), .resume .printer] else [] := by
  have k := cleared_placed s
  rw [show s.fullReset.sent = _ from fullReset_ended s .sent (by decide), endReset_sent, k .sent (by decide),
    k .estop (by decide)]
  simp only [beq_iff_eq]
  rfl

theorem fullReset_mass : s.fullReset.mass = State.reset.mass := by
  have k : s.cleared.resetPlaces.mass = State.reset.mass := cleared_placed s .mass (by decide)
  refine ((fullReset_ended s .mass (by decide)).trans (endReset_mass ?_)).trans k
  rw [k]; rfl

theorem fullReset_wakeHolds : s.fullReset.field.wakeHolds = Vector.replicate 3 none :=
  (fullReset_ended s .wakeHolds (by decide)).trans (endReset_wakeHolds (cleared_placed s .wakeHolds (by decide)))

theorem cleared_input (i : Input) : s.cleared.input i = s.rawLevel i := rfl

theorem fullReset_purgeHold :
    s.fullReset.field.purgeHold = (if s.rawLevel .op1 ∧ s.rawLevel .op2 ∧ s.rawLevel .key then some 400 else none)
      ∧ s.fullReset.field.purgeSpent = false := by
  have k : KeepsAllBut [.places, .queue, .wakeHolds, .mass, .mode, .sent] s.cleared
      (s.cleared.resetPlaces.endReset (s.mode.mode == .halted)) := by simp
  obtain ⟨h1, h2⟩ := k .purgeHold (by decide)
  have ks : KeepsAllBut [.outputs, .laneStates, .reported]
      (s.cleared.resetPlaces.endReset (s.mode.mode == .halted)).purgeWatch s.fullReset := settleSilently_keeps _
  obtain ⟨e1, e2⟩ := ks .purgeHold (by decide)
  obtain ⟨p1, p2⟩ := purgeWatch_purgeHold (h1.trans rfl) (h2.trans rfl)
  have active : (s.cleared.resetPlaces.endReset (s.mode.mode == .halted)).purgeActive
      = (s.rawLevel .op1 && s.rawLevel .op2 && s.rawLevel .key) := by
    unfold State.purgeActive
    simp only [k.setting, k.input, cleared_input]
    rfl
  refine ⟨e1.trans (p1.trans ?_), e2.trans p2⟩
  rw [active]
  simp [and_assoc]

/-- The reports of a full reset, with no overflow: one for each covered place, and that of the halt. -/
theorem fullReset_queue : s.fullReset.link.reports = (allPlaces.filter s.fullReset.covered).map (coveredReport 0)
      ++ (if s.field.estop then [haltReport 0] else [])
    ∧ s.fullReset.link.overflow = false := by
  have hc : s.fullReset.covered = s.cleared.covered := funext fun p => (fullReset_keeps s).covered p
  have k := cleared_placed s
  have q := ((foldl_resetPlace_queues (s := s.cleared) allPlaces).trans
    (endReset_queues (s := s.cleared.resetPlaces) (b := s.mode.mode == .halted))).trans (Queues.of_keeps (fullReset_ended s))
  rw [show s.cleared.resetPlaces.field.estop = s.field.estop from k .estop (by decide),
    show s.cleared.resetPlaces.lineTime = 0 from k .lineTime (by decide), List.append_nil] at q
  have hl : s.cleared.link.reports.length + ((allPlaces.filter s.cleared.covered).map (coveredReport s.cleared.lineTime)
      ++ if s.field.estop then [haltReport 0] else []).length ≤ 64 := by
    have h1 : (allPlaces.filter s.cleared.covered).length ≤ 34 := List.length_filter_le _ allPlaces
    have h2 : (if s.field.estop then [haltReport 0] else []).length ≤ 1 := by split <;> simp
    show 0 + _ ≤ 64
    rw [List.length_append, List.length_map]
    omega
  rw [hc]
  exact ⟨q.reports rfl hl, q.overflow rfl hl⟩

theorem KeepsAllBut.zone (k : KeepsAllBut bs s t) (z : Zone) (h : .zones ∉ bs := by decide) (ho : .outputs ∉ bs := by decide) :
    t.zone z = s.zone z := by
  obtain ⟨h1, h2, h3, h4⟩ := k .zones h z.idx
  obtain ⟨-, -, -, -, h5⟩ := k .outputs ho
  obtain ⟨h5, h6, h7⟩ := h5 z.idx
  unfold State.zone
  generalize tget t.field.zones z.idx = x at *
  generalize tget s.field.zones z.idx = y at *
  cases x
  cases y
  simp_all

theorem drivesLive_of_mode {b : Bool} (h : s.mode = if b then ⟨.halted, some .stopped, none⟩ else ⟨.stopped, none, none⟩) :
    s.drivesLive = false := by
  unfold State.drivesLive
  rw [h]
  cases b <;> rfl

theorem fullReset_zone (z : Zone) : s.fullReset.zone z = ⟨.normal, 0, false, false, 0, 0, none⟩ := by
  have k : KeepsAllBut [.places, .queue, .wakeHolds, .mass, .mode, .sent, .purgeHold] s.cleared
      (s.cleared.resetPlaces.endReset (s.mode.mode == .halted)).purgeWatch := by simp
  have ks : KeepsAllBut [.outputs, .laneStates, .reported]
      (s.cleared.resetPlaces.endReset (s.mode.mode == .halted)).purgeWatch s.fullReset := settleSilently_keeps _
  have off (z : Zone) : (s.cleared.resetPlaces.endReset (s.mode.mode == .halted)).purgeWatch.zone z
      = ⟨.normal, 0, false, false, 0, 0, none⟩ := (k.zone z).trans (tget_replicate ..)
  have mode : s.fullReset.mode = _ := ks .mode (by decide)
  unfold State.zone
  rw [fullReset_eq, settleSilently_zones (drivesLive_of_mode (mode.symm.trans fullReset_mode)) fun z => congrArg ZoneEntry.drive (off z)]
  exact off z

/-- With every input inactive and the straps at 0, a full reset outside HALTED leaves the reset state (log entry 5). -/
theorem fullReset_of_quiet (hm : s.mode.mode ≠ .halted) (hr : s.field.raw = Vector.replicate 59 false) (he : s.field.estop = false)
    (hs : s.link.straps = 0) : s.fullReset = State.resetWith (s.sent ++ resetMessages) s.freeDraws s.pending := by
  have cleared : s.cleared = State.resetWith (s.sent ++ resetMessages) s.freeDraws s.pending := by
    simp only [State.cleared, State.blank, hr, he, hs]
    rfl
  have input (i : Input) : (State.resetWith (s.sent ++ resetMessages) s.freeDraws s.pending).input i = false := tget_replicate ..
  have places : s.cleared.resetPlaces = s.cleared := by
    rw [cleared]
    refine resetPlaces_of_free (fun p => ?_) fun p => tget_replicate ..
    cases p <;> simp [State.covered, input]
  have watch : s.cleared.purgeWatch = s.cleared := by rw [cleared]; rfl
  have ended : s.cleared.endReset false = s.cleared := by
    unfold State.endReset
    rw [show s.cleared.field.estop = false from he]
    rfl
  have halted : (s.mode.mode == .halted) = false := by simpa using hm
  rw [fullReset_eq, places, halted, ended, watch, cleared, resetWith_settled]

/-- The cases of a full reset: the state it is made from. -/
theorem exec_fullReset {c : Instr} (h : ((c = .powerOn ∨ c = .resetPin) ∧ u = s)
      ∨ (c = .resetFull q ∧ Addressed q s ∧ u = s.send (.reply s.link.address 0xC2 .ok .nothing))) :
    exec c s = .next u.fullReset := by
  rcases h with ⟨rfl | rfl, rfl⟩ | ⟨rfl, ⟨hw, hb, ha⟩, rfl⟩
  · rfl
  · rfl
  · show execResetFull q s = _
    simp [execResetFull, hw, hb, ha, State.reply]

/-- Settles O46: each part of the state after the reset is that of the cleared blocks, of the places set from the sensors, or of the
halt that ESTOP asks for. -/
theorem aFullResetReturnsToPowerOn : Obligations.AFullResetReturnsToPowerOn := by
  intro q c s u h
  refine ⟨u.fullReset, exec_fullReset h, ?_⟩
  obtain ⟨m, rfl⟩ : ∃ m, u = { s with sent := m } := by
    rcases h with ⟨-, rfl⟩ | ⟨-, -, rfl⟩
    exacts [⟨_, rfl⟩, ⟨_, rfl⟩]
  clear h
  have k := fullReset_keeps { s with sent := m }
  obtain ⟨reports, overflow⟩ := fullReset_queue (s := { s with sent := m })
  have link := k.link overflow
  have gate := congrArg MergeArbiter.gate k.wholeMerge
  refine ⟨k .lineTime (by decide), k.plan, k .settings (by decide), k.track, k .check (by decide), fullReset_mass, k .wrap (by decide),
    k.wholeLabel, k.wholeBuffer, fun l => ?lanes, ?merge, fun i => ?gate, link, fullReset_tables.link.2.1, reports,
    fullReset_wakeHolds, fullReset_purgeHold.2, fullReset_purgeHold.1, k .raw (by decide), k .filtered (by decide), k .estop (by decide),
    k .moves (by decide), fullReset_place, fullReset_zone, fullReset_mode, fullReset_sent,
    fun hm hr he hs => fullReset_of_quiet (s := { s with sent := m }) hm hr he hs, ?keeps⟩
  case lanes =>
    obtain ⟨hc, hh⟩ := k .lanes (by decide) l
    rw [hc, hh]
    exact ⟨congrArg LaneEntry.count (tget_replicate (⟨0, false, .unbound⟩ : LaneEntry) l),
      congrArg LaneEntry.halt (tget_replicate (⟨0, false, .unbound⟩ : LaneEntry) l)⟩
  case merge => rw [gate, k.wholeMerge]; rfl
  case gate => rw [gate]; exact gateInputs_iff i
  case keeps =>
    intro b hb
    cases b with
    | straps => exact k .straps (by decide)
    | raw => exact k .raw (by decide)
    | estop => exact k .estop (by decide)
    | freeDraws => exact k .freeDraws (by decide)
    | pending => exact k .pending (by decide)
    | _ => exact absurd (by decide) hb

end Sys2Proof.Machine
end

section
/-! The line reset (R26, R33, R37, R73, R74, R111, R130, R173, R183, R184). -/

namespace Sys2Proof.Machine

open State

variable {bs : List Block} {r s t u : State} {q : Req}

/-! ### Derived signals that are up to date -/

theorem KeepsAllBut.laneStatus (k : KeepsAllBut bs s t) (l : Lane) (hl : .loads ∉ bs := by decide) (hn : .lanes ∉ bs := by decide)
    (hi : .filtered ∉ bs := by decide) : t.laneStatus l = s.laneStatus l := by
  obtain ⟨hc, hh⟩ := k .lanes hn l
  unfold State.laneStatus
  simp only [k.boundLoad l hl, hc, hh, k.input _ hi]

/-- After a reset's silent settling every station is reported as working and each lane state is the one derived. -/
theorem settleSilently_reported (s : State) (st : Station) : tget s.settleSilently.reported st.idx = .working := by
  unfold State.settleSilently
  dsimp only
  rw [settleOutputs_keeps _ .reported (by decide)]
  exact tget_replicate ..

theorem settleSilently_laneStatus (s : State) (l : Lane) : (tget s.settleSilently.lanes l).status = s.settleSilently.laneStatus l := by
  rw [(settleSilently_keeps s).laneStatus l]
  unfold State.settleSilently
  dsimp only
  rw [settleOutputs_keeps _ .laneStates (by decide) l]
  fin_cases l <;> rfl

/-- The line is empty and at rest, and what is reported of it stands. -/
structure AtRestAsReported (s : State) : Prop where
  grant : s.merge.grant = none
  requests : s.merge.requests = Vector.replicate 3 none
  places : ∀ p, (s.place p).occupants = []
  stations : ∀ st, s.stationState st = .working ∧ tget s.reported st.idx = .working
  lanes : ∀ l, (tget s.lanes l).status = s.laneStatus l
  exit : s.buffer.exitPallet = none
  deadlock : s.buffer.deadlock = false
  print : s.label.print = none
  condition : s.label.condition = .empty

namespace AtRestAsReported

theorem settleRequests (h : AtRestAsReported s) : s.settleRequests = s := by
  have one (i : Infeed) : s.settleRequest i = s := by
    have e : s.requests i = false := by simp [State.requests, State.oldest, h.places]
    unfold State.settleRequest
    rw [e, h.requests, tget_replicate]
  unfold State.settleRequests
  induction allInfeeds with
  | nil => rfl
  | cons i l ih => rw [List.foldl_cons, one, ih]

theorem settleStations (h : AtRestAsReported s) : s.settleStations = s := by
  have one (st : Station) : s.settleStation st = s := by
    obtain ⟨h1, h2⟩ := h.stations st
    unfold State.settleStation
    rw [h1, h2]
    rfl
  unfold State.settleStations
  induction allStations with
  | nil => rfl
  | cons st l ih => rw [List.foldl_cons, one, ih]

theorem settleLanes (h : AtRestAsReported s) : s.settleLanes = s := by
  have one (l : Lane) : s.settleLane l = s := by simp [State.settleLane, h.lanes l]
  unfold State.settleLanes
  induction allLanes with
  | nil => rfl
  | cons x l ih => rw [List.foldl_cons, one, ih]

theorem settleDeadlock (h : AtRestAsReported s) : s.settleDeadlock = s := by
  have e : s.deadlocked = none := by simp [State.deadlocked, h.exit]
  simp [State.settleDeadlock, e, h.deadlock]

theorem settlePrint (h : AtRestAsReported s) : s.settlePrint = s := by
  have e : s.printRuns = false := by simp [State.printRuns, h.condition]
  unfold State.settlePrint
  rw [e, h.print]

/-- Bringing the derived signals of such a line up to date changes no more than outputs. -/
theorem settle (h : AtRestAsReported s) : s.settle = s.settleOutputs := by
  have grant : s.settleGrant = s := by unfold State.settleGrant; rw [h.grant]
  unfold State.settle
  rw [grant, h.settleRequests, h.settleStations, h.settleLanes, h.settleDeadlock, h.settlePrint]

end AtRestAsReported

/-! ### The stages of a line reset -/

/-- Every block at its line-reset values but the places, which are set next, and the messages of a reset sent. -/
def State.swept (s : State) : State := s.emptied.sendResets

/-- The line after the places are set and LINE_RESET is raised. -/
def State.sweptPlaces (s : State) (cause : Nat) : State :=
  s.swept.resetPlaces.raise .lineReset { detail := cause, value := some s.track.records.length }

/-- The line after the halt that ESTOP asks for, or the end of one. -/
def State.sweptEnded (s : State) (cause : Nat) : State := (s.sweptPlaces cause).endReset (s.mode.mode == .halted)

theorem lineReset_eq (c : Nat) : s.lineReset c = (s.sweptEnded c).startWakes.settleSilently := rfl

theorem sweptPlaces_keeps (c : Nat) : KeepsAllBut [.places, .queue] s.swept (s.sweptPlaces c) := by
  simp [State.sweptPlaces]

theorem lineReset_ended (c : Nat) : KeepsAllBut [.wakeHolds, .outputs, .laneStates, .reported] (s.sweptEnded c) (s.lineReset c) := by
  rw [lineReset_eq]; simp

theorem lineReset_keeps (c : Nat) : KeepsAllBut [.places, .queue, .wakeHolds, .mass, .mode, .sent, .outputs, .laneStates, .reported]
    s.swept (s.lineReset c) := by
  rw [lineReset_eq]; simp [State.sweptEnded, State.sweptPlaces]

theorem lineReset_place (c : Nat) (p : Place) : (s.lineReset c).place p = ⟨s.covered p, false, [], []⟩ := by
  rw [(lineReset_ended c).place, State.sweptEnded, endReset_keeps.place, State.sweptPlaces, (raise_keeps _ _ _).place, resetPlaces_place]
  rfl

theorem lineReset_mode (c : Nat) :
    (s.lineReset c).mode = if s.field.estop then ⟨.halted, some .stopped, none⟩ else ⟨.stopped, none, none⟩ := by
  have k := sweptPlaces_keeps (s := s) c
  rw [show (s.lineReset c).mode = _ from lineReset_ended c .mode (by decide), State.sweptEnded, endReset_mode, k .mode (by decide),
    k .estop (by decide)]
  rfl

theorem lineReset_sent (c : Nat) : (s.lineReset c).sent = s.sent ++ resetMessages
    ++ if s.field.estop then [.hold (.wrapper .one), .hold (.wrapper .two), .hold .printer]
       else if s.mode.mode = .halted then [.resume (.wrapper .one), .resume (.wrapper .two), .resume .printer] else [] := by
  have k := sweptPlaces_keeps (s := s) c
  rw [show (s.lineReset c).sent = _ from lineReset_ended c .sent (by decide), State.sweptEnded, endReset_sent, k .sent (by decide),
    k .estop (by decide)]
  simp only [beq_iff_eq]
  rfl

theorem lineReset_mass (c : Nat) : (s.lineReset c).mass = s.mass.lineReset := by
  have k : (s.sweptPlaces c).mass = s.mass.lineReset := sweptPlaces_keeps c .mass (by decide)
  refine ((lineReset_ended c .mass (by decide)).trans (endReset_mass ?_)).trans k
  rw [k]; rfl

theorem sweptEnded_wakeHolds (c : Nat) : (s.sweptEnded c).field.wakeHolds = Vector.replicate 3 none := by
  have k : (s.sweptPlaces c).field.wakeHolds = Vector.replicate 3 none := sweptPlaces_keeps c .wakeHolds (by decide)
  rw [State.sweptEnded, endReset_wakeHolds k]

/-- The reports of a line reset: one for each covered place, LINE_RESET, and that of the halt. -/
theorem lineReset_queues (c : Nat) : Queues s (s.lineReset c) ((allPlaces.filter s.covered).map (coveredReport s.lineTime)
    ++ [⟨.lineReset, s.lineTime, none, none, none, c, some (s.track.records.length : Int)⟩]
    ++ if s.field.estop then [haltReport s.lineTime] else []) := by
  have q0 : Queues s s.swept [] := ⟨rfl, fun _ _ => by rw [List.append_nil]; rfl, fun _ _ => rfl⟩
  have kp : KeepsAllBut [.places, .queue] s.swept s.swept.resetPlaces := foldl_resetPlace_keeps _
  have k := sweptPlaces_keeps (s := s) c
  have q := (((q0.trans (foldl_resetPlace_queues allPlaces)).trans (Queues.raise (s := s.swept.resetPlaces) .lineReset
    { detail := c, value := some s.track.records.length })).trans
    (endReset_queues (s := s.sweptPlaces c) (b := s.mode.mode == .halted))).trans (Queues.of_keeps (lineReset_ended c))
  rw [show (s.sweptPlaces c).field.estop = s.field.estop from k .estop (by decide),
    show (s.sweptPlaces c).lineTime = s.lineTime from k .lineTime (by decide), List.append_nil, List.nil_append, State.report,
    show s.swept.resetPlaces.lineTime = s.lineTime from kp .lineTime (by decide)] at q
  exact q

theorem lineReset_wakes (c : Nat) (k : KeepsAllBut [.outputs, .sent] (s.lineReset c) t) : WakesAnew t := by
  have j : KeepsAllBut [.outputs, .laneStates, .reported] (s.sweptEnded c).startWakes (s.lineReset c) := settleSilently_keeps _
  exact startWakes_anew (bs := [.outputs, .laneStates, .reported, .sent]) (sweptEnded_wakeHolds c)
    ((j.mono (by simp)).trans (k.mono (by simp)))

theorem lineReset_zone (c : Nat) (z : Zone) : (s.lineReset c).zone z = (s.zone z).lineReset := by
  have k : KeepsAllBut [.places, .queue, .wakeHolds, .mass, .mode, .sent] s.swept (s.sweptEnded c).startWakes := by
    simp [State.sweptEnded, State.sweptPlaces]
  have ks : KeepsAllBut [.outputs, .laneStates, .reported] (s.sweptEnded c).startWakes (s.lineReset c) := settleSilently_keeps _
  have off (z : Zone) : (s.sweptEnded c).startWakes.zone z = (s.zone z).lineReset := (k.zone z).trans (tget_tmap ..)
  have mode : (s.lineReset c).mode = _ := ks .mode (by decide)
  unfold State.zone
  rw [lineReset_eq, settleSilently_zones (drivesLive_of_mode (mode.symm.trans (lineReset_mode c))) fun z => congrArg ZoneEntry.drive (off z)]
  exact off z

theorem lineReset_atRest (c : Nat) : AtRestAsReported (s.lineReset c) := by
  have k := lineReset_keeps (s := s) c
  have wrapper (w : Side) : ((s.lineReset c).wrapper w).status = .idle := by
    rw [k.wrapper]
    exact congrArg WrapperState.status (tget_tmap ..)
  refine ⟨(congrArg _ k.wholeMerge).trans rfl, (congrArg _ k.wholeMerge).trans rfl, fun p => by rw [lineReset_place], fun st => ⟨?_, settleSilently_reported _ st⟩,
    settleSilently_laneStatus _, (congrArg _ k.wholeBuffer).trans rfl, (congrArg _ k.wholeBuffer).trans rfl,
    (congrArg _ k.wholeLabel).trans rfl, (congrArg _ k.wholeLabel).trans rfl⟩
  have check : (s.lineReset c).check = ⟨.empty, false, none⟩ := k .check (by decide)
  cases st with
  | check => simp [State.stationState, check]
  | wrapper w => simp [State.stationState, wrapper w]
  | label => simp only [State.stationState, k.wholeLabel]; rfl
  | shuttle => simp only [State.stationState, State.shuttleWaiting, k.wholeBuffer]; rfl
  | mergeGate => simp only [State.stationState, k.wholeMerge]; rfl

/-! ### The commands -/

/-- A line with answering and the purge hold as a command of a line reset leaves them before the reset. -/
def State.before (s : State) (answering : Bool) (hold : Option Nat) (spent : Bool) : State :=
  (s.modLink fun u => { u with answering := answering }).modField fun u => { u with purgeHold := hold, purgeSpent := spent }

theorem before_keeps (a : Bool) (h : Option Nat) (b : Bool) : KeepsAllBut [.answering, .purgeHold] s (s.before a h b) := by
  unfold State.before
  rw [keeps_modField (by simp) (by simp) (by simp) (by simp) (by simp) (by simp) (by simp) (by simp) (by simp) (by simp) (by simp)
    (by simp)]
  simp

theorem lineReset_settle_zone (c : Nat) (z : Zone) : (s.lineReset c).settle.zone z = (s.lineReset c).zone z := by
  have off (z : Zone) : ((s.lineReset c).zone z).drive = false := by rw [lineReset_zone]; rfl
  rw [(lineReset_atRest c).settle]
  unfold State.zone
  rw [settleOutputs_zones (drivesLive_of_mode (lineReset_mode c)) off]

/-- The commands of a line reset make it, and RESET LINE then sends its reply. -/
theorem exec_lineReset {c : Instr} {cause : Nat} (h : (c = .purgeHoldExpiry ∧ s.field.purgeHold = some 0 ∧ cause = 2)
      ∨ (c = .resetLine q ∧ Addressed q s ∧ cause = 1)) :
    ∃ a hold spent t, exec c s = .next t ∧ KeepsAllBut [.outputs, .sent] ((s.before a hold spent).lineReset cause) t
      ∧ (∀ z, t.zone z = ((s.before a hold spent).lineReset cause).zone z)
      ∧ t.sent = ((s.before a hold spent).lineReset cause).sent
          ++ (if cause = 1 then [.reply s.link.address 0xC2 .ok (.reset s.track.records.length t.mode.mode)] else [])
      ∧ (c = .purgeHoldExpiry → hold = none ∧ spent = true)
      ∧ (c = .resetLine q → hold = s.field.purgeHold ∧ spent = s.field.purgeSpent) := by
  rcases h with ⟨rfl, hp, rfl⟩ | ⟨rfl, ha, rfl⟩
  · refine ⟨s.link.answering, none, true, (s.before s.link.answering none true).lineReset 2, ?_, keeps_refl, fun _ => rfl,
      (List.append_nil _).symm, fun _ => ⟨rfl, rfl⟩, nofun⟩
    show execPurgeHoldExpiry s = _
    unfold execPurgeHoldExpiry
    rw [hp]
    rfl
  · have e : resetLineOp s.asked = (s.asked.lineReset 1, .ok, .reset s.track.records.length (s.asked.lineReset 1).mode.mode) := rfl
    have hb : s.asked = s.before true s.field.purgeHold s.field.purgeSpent := rfl
    have es := serve_taken (kind := 0x42) (how := .changes) ha e rfl (by decide)
    have rest := (lineReset_atRest (s := s.asked) 1).settle
    have k : KeepsAllBut [.outputs] (s.asked.lineReset 1) (s.asked.lineReset 1).settle := by
      rw [rest]; exact settleOutputs_keeps _
    refine ⟨true, s.field.purgeHold, s.field.purgeSpent, _, congrArg Host.Outcome.next es, ?_, ?_, ?_, nofun, fun _ => ⟨rfl, rfl⟩⟩
    · rw [← hb]
      exact (keeps_send (by simp)).mpr (k.mono (by simp))
    · rw [← hb]
      intro z
      unfold State.zone
      rw [send_field]
      exact lineReset_settle_zone 1 z
    · rw [← hb]
      show (s.asked.lineReset 1).settle.sent ++ _ = _
      rw [settle_sent, send_mode, settle_mode]
      rfl

theorem dropped_eq (e : ScannerState) :
    e.dropped = ⟨none, [], match e.outstanding with | some (_, left) => some left | none => e.ended⟩ := by
  unfold ScannerState.dropped
  rcases e.outstanding with _ | ⟨rd, left⟩ <;> rfl

theorem returned_eq (x : Slot) : x.returned
    = if x.state = .claimed ∨ x.state = .finished then { x with state := .expected, claimant := none } else x := by
  simp [Slot.returned]

/-- Settles O45: each part of the state after the reset is that of the swept blocks, of the places set from the sensors, of the halt
that ESTOP asks for, or of the wake holds started anew. -/
theorem aLineResetEmptiesTheLine : Obligations.ALineResetEmptiesTheLine := by
  intro q c cause s h
  obtain ⟨a, hold, spent, t, es, k, zones, sent, purge, reset⟩ := exec_lineReset h
  have kr := lineReset_keeps (s := s.before a hold spent) cause
  have ks : KeepsAllBut [.places, .queue, .wakeHolds, .mass, .mode, .sent, .outputs, .laneStates, .reported]
      (s.before a hold spent).swept t := kr.trans (k.mono (by simp))
  have mode : t.mode = _ := (k .mode (by decide)).trans (lineReset_mode cause)
  refine ⟨t, es, ?track, fun sc => ?scanner, ks .moves (by decide), ks .entryTaken (by decide), ks .diverter (by decide),
    ks .check (by decide), ?mass, ?grant, ?lastGranted, ?train, ?switch, ?fault, ?parkPending, fun i => ?gate, ?staging, ?labelOrder,
    fun w => ?wrapper, ks.wholeLabel, ks.wholeBuffer, ?loads, fun p => ?place, fun l => ?lanes, fun z => ?zone, mode, ?purge, ?reset,
    ?sent, lineReset_wakes cause k, ?reports, ?keeps⟩
  case track => rw [ks.track]; rfl
  case scanner => rw [ks.scanner]; exact (tget_tmap ..).trans (dropped_eq (s.scanner sc))
  case mass =>
    rw [show t.mass = _ from k .mass (by decide), lineReset_mass]
    simp only [MassUnit.lineReset, beq_iff_eq]
    rfl
  case grant => rw [ks.wholeMerge]; rfl
  case lastGranted => rw [ks.wholeMerge]; rfl
  case train => rw [ks.wholeMerge]; rfl
  case switch => rw [ks.wholeMerge]; rfl
  case fault => rw [ks.wholeMerge]; rfl
  case parkPending => rw [ks.wholeMerge]; rfl
  case gate => rw [ks.wholeMerge]; exact gateInputs_iff i
  case staging => rw [show t.wrap = _ from ks .wrap (by decide)]; rfl
  case labelOrder => rw [show t.wrap = _ from ks .wrap (by decide)]; rfl
  case wrapper => rw [ks.wrapper]; exact tget_tmap ..
  case loads =>
    have e : t.plan.loads = s.plan.loads.map fun l => { l with slots := l.slots.map Slot.returned } := ks .loads (by decide)
    rw [e, funext returned_eq]
  case place => rw [k.place, lineReset_place]; rfl
  case lanes =>
    obtain ⟨hc, hh⟩ := ks .lanes (by decide) l
    have e : tget (s.before a hold spent).swept.lanes l = { tget s.lanes l with count := 0 } := tget_tmap ..
    exact ⟨hc.trans (by rw [e]), hh.trans (by rw [e])⟩
  case zone => rw [zones, lineReset_zone]; rfl
  case purge =>
    intro hc
    obtain ⟨rfl, rfl⟩ := purge hc
    exact ks .purgeHold (by decide)
  case reset =>
    intro hc
    obtain ⟨rfl, rfl⟩ := reset hc
    exact ks .purgeHold (by decide)
  case sent => rw [sent, lineReset_sent]; rfl
  case reports =>
    intro hm hl
    have q := (lineReset_queues (s := s.before a hold spent) cause).reports hm ?_
    · rw [(k .queue (by decide)).1, q, ← List.append_assoc, ← List.append_assoc]
      rfl
    · have h2 : (if (s.before a hold spent).field.estop then [haltReport (s.before a hold spent).lineTime] else []).length ≤ 1 := by
        split <;> simp
      have h1 : s.link.reports.length + (allPlaces.filter (s.before a hold spent).covered).length ≤ 62 := hl
      show s.link.reports.length + _ ≤ 64
      rw [List.length_append, List.length_append, List.length_map, List.length_singleton]
      omega
  case keeps =>
    exact ((keeps_lineReset (by simp [derived])).mpr ((before_keeps a hold spent).mono (by simp [derived]))).trans (k.mono (by simp [derived]))

end Sys2Proof.Machine
end

section
/-! The reads of scanners: how a read ends, which is sent next, and what the answer of an entry read does (R11, R58, R59, R61, R65). -/

namespace Sys2Proof.Machine

open State

variable {bs : List Block} {r s t u : State} {sc : Scanner} {d : Text} {n : Nat} {ref : LoadRef}

theorem slot?_of_loads (h : t.plan.loads = s.plan.loads) (ref : LoadRef) : t.slot? ref = s.slot? ref := by
  unfold State.slot? State.load?; rw [h]

theorem load?_of_loads (h : t.plan.loads = s.plan.loads) (id : Nat) : t.load? id = s.load? id := by
  unfold State.load?; rw [h]

/-! ### The end of a read, and the next one (R58) -/

/-- The message that asks a scanner for a read. -/
def readMessage (sc : Scanner) (rd : Read) : Message := .read sc (match rd.purpose with | .verify f => some f | _ => none)

/-- The next read waiting at an idle scanner is outstanding, under its own limit. -/
theorem sendRead_scanner {w : List Read} (h : s.scanner sc = ⟨none, w, none⟩) (c : Scanner) : (s.sendRead sc).scanner c
    = if c = sc then ⟨w.head?.map fun rd => (rd, s.setting .ackLimit), w.tail, none⟩ else s.scanner c := by
  unfold State.sendRead
  rw [h]
  cases w with
  | nil =>
    by_cases hc : c = sc
    · subst c; rw [if_pos rfl]; exact h
    · rw [if_neg hc]
  | cons rd rest => exact modScanner_scanner sc _ c

theorem sendRead_sent {w : List Read} (h : s.scanner sc = ⟨none, w, none⟩) :
    (s.sendRead sc).sent = s.sent ++ (w.head?.map (readMessage sc)).toList := by
  unfold State.sendRead
  rw [h]
  cases w with
  | nil => exact (List.append_nil _).symm
  | cons rd rest => rfl

theorem sendRead_keeps (s : State) (sc : Scanner) : KeepsAllBut [.scanners, .sent] s (s.sendRead sc) :=
  (keeps_sendRead (by simp)).mpr keeps_refl

/-- The read outstanding at a scanner has ended, and none is outstanding. -/
def State.answered (s : State) (sc : Scanner) : State := s.modScanner sc fun e => { e with outstanding := none, ended := none }

theorem answered_scanner (c : Scanner) :
    (s.answered sc).scanner c = if c = sc then ⟨none, (s.scanner sc).waiting, none⟩ else s.scanner c :=
  modScanner_scanner sc _ c

theorem answered_keeps (s : State) (sc : Scanner) : KeepsAllBut [.scanners] s (s.answered sc) := by simp [State.answered]

/-- A TAG for an outstanding read applies its digits; the next waiting read is then sent. -/
theorem exec_tag {rd : Read} {left : Nat} (h : (s.scanner sc).outstanding = some (rd, left)) :
    exec (.tag sc d) s = .next (((s.answered sc).applyRead rd (some d)).sendRead sc).settle := by
  show execTag sc d s = _
  unfold execTag
  rw [h]
  rfl

/-! ### What an entry read leaves of the stage (R65) -/

/-- With its read ended, a record is made READY just where the read was its last. -/
theorem readied_answered {i : Infeed} {x y : Record} (hn : y.number = x.number) (hi : y.infeed = x.infeed) (hs : y.stage = x.stage)
    (hh : y.headMark = x.headMark) :
    (s.answered (.entry i)).readied y = { y with stage := StageAfterRead s i x } := by
  have ended : EntryReadOver (s.answered (.entry i)) y ↔ ¬ ((x.infeed ≠ i
      ∧ ∃ o, (s.scanner (.entry x.infeed)).outstanding = some o ∧ o.1.track = x.number)
      ∨ ∃ rd ∈ (s.scanner (.entry x.infeed)).waiting, rd.track = x.number) := by
    unfold EntryReadOver
    rw [hn, hi, answered_scanner]
    by_cases e : x.infeed = i
    · subst i
      rw [if_pos rfl]
      simp
    · rw [if_neg fun h => e (Scanner.entry.inj h)]
      simp [e]
  have may := and_congr (iff_of_eq (congrArg (· = Stage.entering) hs))
    (and_congr (iff_of_eq (congrArg (· = true) hh)) (entryResolved_iff.trans ended))
  unfold State.readied StageAfterRead
  by_cases h : y.stage = .entering ∧ y.headMark = true ∧ (s.answered (.entry i)).entryResolved y = true
  · rw [if_pos h]
    exact congrArg (fun st => { y with stage := st }) (if_pos (may.mp h)).symm
  · rw [if_neg h]
    refine Eq.trans ?_ (congrArg (fun st => { y with stage := st }) (if_neg fun k => h (may.mpr k)).symm)
    rw [← hs]

/-! ### An entry tag (R59, R61) -/

/-- The record of a read answered with a tag carries it. -/
def State.tagged (s : State) (n : Nat) (d : Text) : State := s.modRecord n fun r => { r with tag := some d }

theorem tagged_keeps (s : State) (n : Nat) (d : Text) : KeepsAllBut [.records] s (s.tagged n d) := by simp [State.tagged]

theorem tagged_record? (c : Nat) :
    (s.tagged n d).record? c = if c = n then (s.record? n).map fun r => { r with tag := some d } else s.record? c :=
  modRecord_record? c

theorem testReady_keeps (s : State) (n : Nat) : KeepsAllBut [.records] s (s.testReady n) := (keeps_testReady (by simp)).mpr keeps_refl

theorem entryAnswer_expected {sl : Slot} (ht : s.tagIndex d = some ref) (hs : s.slot? ref = some sl) (he : sl.state = .expected) :
    s.entryAnswer n (some d) = ((s.tagged n d).matchClaimed ref n 1).testReady n := by
  have e := matchTag_expected (s := s.tagged n d) (d := d) (ref := ref) (sl := sl) ht hs he n 1
  unfold State.tagged at e
  simp only [State.entryAnswer, e]
  rfl

theorem entryAnswer_taken {sl : Slot} (ht : s.tagIndex d = some ref) (hs : s.slot? ref = some sl) (he : sl.state ≠ .expected) :
    s.entryAnswer n (some d) = ((s.tagged n d).matchTaken n 1).testReady n := by
  have e := matchTag_taken (s := s.tagged n d) (d := d) (ref := ref) (sl := sl) ht hs he n 1
  unfold State.tagged at e
  simp only [State.entryAnswer, e]
  rfl

theorem entryAnswer_notFound (ht : s.tagIndex d = none) : s.entryAnswer n (some d)
    = if s.setting .deferLimit = 0 then ((s.tagged n d).markUnplanned n 1).testReady n else (s.tagged n d).beginDeferral n := by
  have e := matchTag_notFound (s := s.tagged n d) (d := d) ht n 1
  unfold State.tagged at e
  simp only [State.entryAnswer, e, beq_iff_eq]
  rfl

theorem markUnplanned_keeps (s : State) (n o : Nat) : KeepsAllBut [.records, .queue] s (s.markUnplanned n o) :=
  (keeps_markUnplanned (by simp)).mpr keeps_refl

theorem markUnplanned_record? (o c : Nat) : (s.markUnplanned n o).record? c
    = if c = n then (s.record? n).map fun r => { r with mark := some .unplanned } else s.record? c :=
  ((reportMatch_keeps _ _ _ _).record? c).trans (modRecord_record? c)

theorem markUnplanned_queues (s : State) (n o : Nat) : Queues s (s.markUnplanned n o) [s.matchReport n 3 o] := by
  have k : KeepsAllBut [.records] s (s.modRecord n fun r => { r with mark := some .unplanned }) := by simp
  have q := (Queues.of_keeps k).trans (reportMatch_queues _ n 3 o)
  have e : (s.modRecord n fun r => { r with mark := some .unplanned }).refOf n = s.refOf n := modRecord_refOf n
  rw [State.matchReport, e] at q
  exact q

/-- The deadline of a deferral that begins now (R61). -/
def State.deferral (s : State) : Deadline := ⟨s.lineTime + BitVec.ofNat 32 (s.setting .deferLimit), s.setting .deferLimit⟩

theorem beginDeferral_eq {x : Record} (h : s.record? n = some x) : s.beginDeferral n
    = (s.modRecord n fun r => { r with stage := .deferred, deferral := some s.deferral }).raise .defer
        (noteOf n x.ref x.infeed.number (some s.deferral.due.toInt)) := by
  simp only [State.beginDeferral, h]
  rfl

end Sys2Proof.Machine
end

section
/-! The tag read at an infeed entry (R11, R58, R59, R61, R65). -/

namespace Sys2Proof.Machine

open State

variable {bs : List Block} {r s t u : State} {sc : Scanner} {d : Text} {n : Nat} {ref : LoadRef} {i : Infeed}

theorem entryAnswer_tag_keeps (s : State) (n : Nat) (d : Text) :
    KeepsAllBut [.records, .loads, .queue] s (s.entryAnswer n (some d)) := by
  have k : KeepsAllBut [.records, .loads, .queue] s ((s.tagged n d).matchTag n d 1).1 := by simp [State.tagged]
  unfold State.tagged at k
  unfold State.entryAnswer
  dsimp only
  rcases e : (s.modRecord n fun r => { r with tag := some d }).matchTag n d 1 with ⟨u, answer⟩
  rw [e] at k
  cases answer with
  | notFound =>
    dsimp only
    split
    · exact (keeps_testReady (by simp)).mpr ((keeps_markUnplanned (by simp)).mpr k)
    · exact (keeps_beginDeferral (by simp)).mpr k
  | _ => exact (keeps_testReady (by simp)).mpr k

/-- A record made ready, or left, by the end of its read. -/
theorem testReady_answered {x y : Record} (k : KeepsAllBut bs (s.answered (.entry i)) u) (hs : .scanners ∉ bs)
    (hy : u.record? n = some y) (hn : y.number = x.number) (hi : y.infeed = x.infeed) (hst : y.stage = x.stage)
    (hh : y.headMark = x.headMark) (c : Nat) :
    (u.testReady n).record? c = if c = n then some { y with stage := StageAfterRead s i x } else u.record? c := by
  have e : u.readied y = (s.answered (.entry i)).readied y := by unfold State.readied; rw [k.entryResolved y hs]
  rw [testReady_record?, hy, Option.map_some, e, readied_answered hn hi hst hh]

/-- Of the records, an entry answer changes the one of its read alone. -/
theorem entryAnswer_tag_record?_of_ne {c : Nat} (hc : c ≠ n) : (s.entryAnswer n (some d)).record? c = s.record? c := by
  have ready (u : State) : (u.testReady n).record? c = u.record? c := by rw [testReady_record?, if_neg hc]
  have defer (u : State) : (u.beginDeferral n).record? c = u.record? c := by
    rcases e : u.record? n with _ | x
    · simp only [State.beginDeferral, e]
    · rw [beginDeferral_eq e, (raise_keeps _ _ _).record?, modRecord_record? c, if_neg hc]
  have matched : ((s.tagged n d).matchTag n d 1).1.record? c = s.record? c := by
    have k : KeepsAllBut [.loads] (s.tagged n d) ((s.tagged n d).claim d n).1 := by simp
    have e : ((s.tagged n d).claim d n).1.record? c = s.record? c := by rw [k.record?, tagged_record?, if_neg hc]
    unfold State.matchTag
    generalize (s.tagged n d).claim d n = answer at e
    rcases answer with ⟨u, _ | _ | _⟩ <;> dsimp only at e ⊢
    · rw [(reportMatch_keeps _ _ _ _).record?, modRecord_record? c, if_neg hc, e]
    · rw [(reportMatch_keeps _ _ _ _).record?, modRecord_record? c, if_neg hc, e]
    · exact e
  unfold State.tagged at matched
  unfold State.entryAnswer
  dsimp only
  generalize (s.modRecord n fun r => { r with tag := some d }).matchTag n d 1 = answer at matched
  rcases answer with ⟨u, _ | _ | _⟩ <;> dsimp only at matched ⊢
  · rw [ready, matched]
  · rw [ready, matched]
  · split
    · rw [ready, markUnplanned_record?, if_neg hc, matched]
    · rw [defer, matched]

/-! ### The four outcomes of an entry read that ends with a tag -/

section
variable {x : Record} (hx : s.record? n = some x)
include hx

theorem answered_tagged_record? (c : Nat) :
    ((s.answered (.entry i)).tagged n d).record? c = if c = n then some { x with tag := some d } else s.record? c := by
  rw [tagged_record?, (answered_keeps _ _).record?, hx, (answered_keeps _ _).record?]; rfl

/-- The answer finds an EXPECTED slot, which it claims. -/
theorem entryAnswer_claims {sl : Slot} (ht : s.tagIndex d = some ref) (hs : s.slot? ref = some sl) (he : sl.state = .expected) :
    ((s.answered (.entry i)).entryAnswer n (some d)).record? n
        = some { x with tag := some d, ref := some ref, stage := StageAfterRead s i x }
      ∧ ((s.answered (.entry i)).entryAnswer n (some d)).slot? ref = some { sl with state := .claimed, claimant := some n }
      ∧ Queues s ((s.answered (.entry i)).entryAnswer n (some d))
          [⟨.matched, s.lineTime, some n, some ref.load, some ref.position, 1, some 1⟩] := by
  have e := entryAnswer_expected (s := s.answered (.entry i)) (n := n) ht hs he
  have hr := answered_tagged_record? (i := i) (d := d) hx
  have km := matchClaimed_keeps ((s.answered (.entry i)).tagged n d) ref n 1
  have k := ((tagged_keeps (s.answered (.entry i)) n d).mono (by simp)).trans km
  have hy : (((s.answered (.entry i)).tagged n d).matchClaimed ref n 1).record? n = some { x with tag := some d, ref := some ref } := by
    rw [matchClaimed_record?, if_pos rfl, hr, if_pos rfl]; rfl
  rw [e]
  refine ⟨?record, ?slot, ?queue⟩
  case record => rw [testReady_answered (x := x) k (by decide) hy rfl rfl rfl rfl, if_pos rfl]
  case slot =>
    have hl := (testReady_keeps _ n .loads (by decide)).trans (matchClaimed_loads ((s.answered (.entry i)).tagged n d) ref n 1)
    have hs' : ((s.answered (.entry i)).tagged n d).slot? ref = some sl := hs
    rw [slot?_of_loads hl, modSlot_slot?, if_pos rfl, hs']
    rfl
  case queue =>
    have q := matchClaimed_queues ((s.answered (.entry i)).tagged n d) ref n 1 ((hr n).trans (if_pos rfl))
    have q0 : Queues s ((s.answered (.entry i)).tagged n d) [] := .of_keeps
      (((answered_keeps s (.entry i)).mono (cs := [.scanners, .records]) (by simp)).trans ((tagged_keeps _ n d).mono (by simp)))
    exact (q0.trans q).trans (.of_keeps (testReady_keeps _ n))

/-- The answer finds its slot in another state. -/
theorem entryAnswer_duplicate {sl : Slot} (ht : s.tagIndex d = some ref) (hs : s.slot? ref = some sl) (he : sl.state ≠ .expected) :
    ((s.answered (.entry i)).entryAnswer n (some d)).record? n
        = some { x with tag := some d, mark := some .duplicate, stage := StageAfterRead s i x }
      ∧ ((s.answered (.entry i)).entryAnswer n (some d)).plan.loads = s.plan.loads
      ∧ Queues s ((s.answered (.entry i)).entryAnswer n (some d)) [((s.answered (.entry i)).tagged n d).matchReport n 2 1] := by
  have e := entryAnswer_taken (s := s.answered (.entry i)) (n := n) ht hs he
  have hr := answered_tagged_record? (i := i) (d := d) hx
  have kt := tagged_keeps (s.answered (.entry i)) n d
  have km := matchTaken_keeps ((s.answered (.entry i)).tagged n d) n 1
  have k := (kt.mono (by simp)).trans km
  have hy : (((s.answered (.entry i)).tagged n d).matchTaken n 1).record? n
      = some { x with tag := some d, mark := some .duplicate } := by
    rw [matchTaken_record?, if_pos rfl, hr, if_pos rfl]; rfl
  have kr := testReady_keeps (((s.answered (.entry i)).tagged n d).matchTaken n 1) n
  rw [e]
  refine ⟨?record, (kr .loads (by decide)).trans (k .loads (by decide)), ?queue⟩
  case record => rw [testReady_answered (x := x) k (by decide) hy rfl rfl rfl rfl, if_pos rfl]
  case queue =>
    have q0 : Queues s ((s.answered (.entry i)).tagged n d) [] := .of_keeps
      (((answered_keeps s (.entry i)).mono (cs := [.scanners, .records]) (by simp)).trans (kt.mono (by simp)))
    simpa using (q0.trans (matchTaken_queues _ n 1)).trans (.of_keeps kr)

/-- The answer finds no slot, and no deferral is made. -/
theorem entryAnswer_unplanned (ht : s.tagIndex d = none) (hl : s.setting .deferLimit = 0) :
    ((s.answered (.entry i)).entryAnswer n (some d)).record? n
        = some { x with tag := some d, mark := some .unplanned, stage := StageAfterRead s i x }
      ∧ ((s.answered (.entry i)).entryAnswer n (some d)).plan.loads = s.plan.loads
      ∧ Queues s ((s.answered (.entry i)).entryAnswer n (some d)) [((s.answered (.entry i)).tagged n d).matchReport n 3 1] := by
  have e := entryAnswer_notFound (s := s.answered (.entry i)) (n := n) ht
  have hr := answered_tagged_record? (i := i) (d := d) hx
  have kt := tagged_keeps (s.answered (.entry i)) n d
  have km := markUnplanned_keeps ((s.answered (.entry i)).tagged n d) n 1
  have k := (kt.mono (by simp)).trans km
  have hy : (((s.answered (.entry i)).tagged n d).markUnplanned n 1).record? n
      = some { x with tag := some d, mark := some .unplanned } := by
    rw [markUnplanned_record?, if_pos rfl, hr, if_pos rfl]; rfl
  have kr := testReady_keeps (((s.answered (.entry i)).tagged n d).markUnplanned n 1) n
  rw [e, if_pos (show (s.answered (.entry i)).setting .deferLimit = 0 from hl)]
  refine ⟨?record, (kr .loads (by decide)).trans (k .loads (by decide)), ?queue⟩
  case record => rw [testReady_answered (x := x) k (by decide) hy rfl rfl rfl rfl, if_pos rfl]
  case queue =>
    have q0 : Queues s ((s.answered (.entry i)).tagged n d) [] := .of_keeps
      (((answered_keeps s (.entry i)).mono (cs := [.scanners, .records]) (by simp)).trans (kt.mono (by simp)))
    simpa using (q0.trans (markUnplanned_queues _ n 1)).trans (.of_keeps kr)

/-- The answer finds no slot, and the record is deferred. -/
theorem entryAnswer_deferred (ht : s.tagIndex d = none) (hl : 0 < s.setting .deferLimit) :
    ((s.answered (.entry i)).entryAnswer n (some d)).record? n
        = some { x with tag := some d, stage := .deferred, deferral := some s.deferral }
      ∧ ((s.answered (.entry i)).entryAnswer n (some d)).plan.loads = s.plan.loads
      ∧ Queues s ((s.answered (.entry i)).entryAnswer n (some d))
          [s.report .defer (noteOf n x.ref x.infeed.number (some s.deferral.due.toInt))] := by
  have e := entryAnswer_notFound (s := s.answered (.entry i)) (n := n) ht
  have hr := answered_tagged_record? (i := i) (d := d) hx
  have hy := (hr n).trans (if_pos rfl)
  have kd : KeepsAllBut [.scanners, .records] s (((s.answered (.entry i)).tagged n d).modRecord n
      fun r => { r with stage := .deferred, deferral := some s.deferral }) := by
    simp [State.answered, State.tagged]
  have b := beginDeferral_eq hy
  rw [e, if_neg (show ¬ (s.answered (.entry i)).setting .deferLimit = 0 from hl.ne'), b]
  refine ⟨?record, raise_keeps _ _ _ .loads (by decide), (Queues.of_keeps kd).trans (.raise _ _)⟩
  case record =>
    rw [(raise_keeps _ _ _).record?, modRecord_record? n, if_pos rfl, hy]
    rfl

end

/-- Settles O14: the answer is applied with the read ended, by the case of the match. -/
theorem anEntryTagIsMatched : Obligations.AnEntryTagIsMatched := by
  intro i d s n left r ho hr hl hdig hnz
  have valid : (some d).filter validTag = some d := by
    rw [Option.filter_some, if_pos (validTag_iff.mpr ⟨hl, hdig, hnz⟩)]
  have es : exec (.tag (.entry i) d) s
      = .next (((s.answered (.entry i)).entryAnswer n (some d)).sendRead (.entry i)).settle := by
    rw [exec_tag ho, State.applyRead]
    simp only [valid]
  have k := entryAnswer_tag_keeps (s.answered (.entry i)) n d
  have idle : ((s.answered (.entry i)).entryAnswer n (some d)).scanner (.entry i) = ⟨none, (s.scanner (.entry i)).waiting, none⟩ := by
    rw [k.scanner, answered_scanner, if_pos rfl]
  have kr := sendRead_keeps ((s.answered (.entry i)).entryAnswer n (some d)) (.entry i)
  have ks : KeepsAllBut (.scanners :: .sent :: derived) ((s.answered (.entry i)).entryAnswer n (some d))
      (((s.answered (.entry i)).entryAnswer n (some d)).sendRead (.entry i)).settle :=
    (kr.mono (by simp)).trans ((settle_keeps _).mono (by simp))
  have reported {new : List Report} (q : Queues s ((s.answered (.entry i)).entryAnswer n (some d)) new) :
      Queues s (((s.answered (.entry i)).entryAnswer n (some d)).sendRead (.entry i)) new := by
    simpa using q.trans (.of_keeps kr)
  refine ⟨_, es, fun k hk => ?others, ?scanner, fun ht => claim_notFound ht n, fun ref sl ht hs => ⟨fun he => ?claim, fun he => claim_taken ht hs he n⟩,
    fun ref sl ht hs he => ?claimed, fun ref sl ht hs he => ?taken, fun ht hd => ?deferred, fun ht hd => ?unplanned, ?keeps⟩
  case others => rw [ks.record?, entryAnswer_tag_record?_of_ne hk]; rfl
  case scanner =>
    rw [settle_scanner, sendRead_scanner idle, if_pos rfl]
    cases (s.scanner (.entry i)).waiting <;> rfl
  case claim => rw [claim_expected ht hs he]
  case claimed =>
    obtain ⟨h1, h2, q⟩ := entryAnswer_claims (i := i) hr ht hs he
    rw [ks.record?, ks.slot?]
    exact ⟨h1, h2, fun hq => (reported q).reported (List.mem_singleton_self _) rfl ⟨rfl, rfl, rfl, rfl⟩ hq⟩
  case taken =>
    obtain ⟨h1, h2, q⟩ := entryAnswer_duplicate (i := i) hr ht hs he
    rw [ks.record?]
    exact ⟨h1, (ks .loads (by decide)).trans h2, fun hq => (reported q).reported (List.mem_singleton_self _) rfl ⟨rfl, rfl, rfl⟩ hq⟩
  case deferred =>
    obtain ⟨h1, h2, q⟩ := entryAnswer_deferred (i := i) hr ht hd
    rw [ks.record?]
    exact ⟨h1, (ks .loads (by decide)).trans h2, fun hq => (reported q).reported (List.mem_singleton_self _) rfl ⟨rfl, rfl⟩ hq⟩
  case unplanned =>
    obtain ⟨h1, h2, q⟩ := entryAnswer_unplanned (i := i) hr ht hd
    rw [ks.record?]
    exact ⟨h1, (ks .loads (by decide)).trans h2, fun hq => (reported q).reported (List.mem_singleton_self _) rfl ⟨rfl, rfl, rfl⟩ hq⟩
  case keeps =>
    exact (((answered_keeps s _).mono (by simp)).trans (k.mono (by simp [derived]))).trans (ks.mono (by simp))

end Sys2Proof.Machine
end

section
/-! SUPPORT. Operations shared by the stations: faults entered, a reject, a move asked for (R12, R39, R54), and the answers that end
a read (R58). -/

namespace Sys2Proof.Machine

open State

variable {bs : List Block} {r s t u : State} {n : Nat} {ref : LoadRef} {c : Code}

/-! ### Faults (R54) -/

theorem withFaults_nil (x : Record) : x.withFaults [] = x := by simp [Record.withFaults]

theorem withFaults_cons (x : Record) (c : Code) (l : List Code) : x.withFaults (c :: l) = (x.enterFault c).withFaults l := by
  unfold Record.withFaults Record.enterFault
  dsimp only
  by_cases h : x.faults.length < 4
  · obtain ⟨k, hk⟩ : ∃ k, 4 - x.faults.length = k + 1 := ⟨3 - x.faults.length, by omega⟩
    have hk' : 4 - (x.faults ++ [c]).length = k := by simp; omega
    simp only [if_pos h, hk, hk', List.take_succ_cons, List.append_assoc, List.singleton_append, List.length_cons,
      Nat.add_le_add_iff_right, Nat.add_sub_add_right]
  · have hk : 4 - x.faults.length = 0 := by omega
    simp only [if_neg h, hk, List.take_zero, List.append_nil, List.length_cons, Nat.le_zero, Nat.sub_zero]
    rcases l with _ | ⟨a, l⟩
    · simp
    · simp only [List.length_cons, Nat.add_eq_zero_iff, one_ne_zero, and_false, if_false]
      congr 1
      omega

/-- Faults entered one after another in a record's list. -/
def State.enterFaults (s : State) (n : Nat) (l : List Code) : State := l.foldl (fun s c => s.enterFault n c) s

theorem enterFaults_record? (l : List Code) (k : Nat) : (s.enterFaults n l).record? k
    = if k = n then (s.record? n).map (·.withFaults l) else s.record? k := by
  unfold State.enterFaults
  induction l generalizing s with
  | nil =>
    split
    · subst k; simp [withFaults_nil]
    · rfl
  | cons c l ih =>
    have e (k : Nat) : (s.enterFault n c).record? k = if k = n then (s.record? n).map (·.enterFault c) else s.record? k :=
      modRecord_record? k fun x => by unfold Record.enterFault; split <;> rfl
    rw [List.foldl_cons, ih, e, e, if_pos rfl]
    split
    · cases s.record? n with
      | none => rfl
      | some x => simp [withFaults_cons]
    · rfl

theorem enterFaults_keeps (s : State) (n : Nat) (l : List Code) : KeepsAllBut [.records] s (s.enterFaults n l) :=
  (keeps_foldl (fun _ _ => keeps_enterFault (by simp)) l).mpr keeps_refl

/-! ### A reject (R12) -/

/-- The report of a reject: the load reference released, the code, and the reject count of its slot (R12). -/
def State.rejectReport (s : State) (x : Record) (c : Code) : Report :=
  s.report .reject (noteOf x.number x.ref c.number
    (x.ref.map fun ref => (((s.slot? ref).map Slot.rejected).map fun y => (y.rejects : Int)).getD 0))

theorem reject_keeps (s : State) (n : Nat) (c : Code) : KeepsAllBut [.queue, .loads, .records] s (s.reject n c) :=
  (keeps_reject (by simp)).mpr keeps_refl

theorem reject_of_ref (h : s.refOf n = some ref) : s.reject n c
    = (((s.modSlot ref Slot.rejected).modRecord n fun r => { r with ref := none })).raise .reject
        (noteOf n (some ref) c.number (some ((((s.modSlot ref Slot.rejected).slot? ref).map fun x => (x.rejects : Int)).getD 0))) := by
  simp only [State.reject, h]
  rfl

theorem reject_of_none (h : s.refOf n = none) : s.reject n c = s.raise .reject (noteOf n none c.number) := by
  simp only [State.reject, h]

theorem reject_record? (k : Nat) :
    (s.reject n c).record? k = if k = n then (s.record? n).map fun r => { r with ref := none } else s.record? k := by
  rcases h : s.refOf n with _ | ref
  · rw [reject_of_none h, (raise_keeps _ _ _).record?]
    split
    · subst k
      rcases hx : s.record? n with _ | x
      · rfl
      · have hr : x.ref = none := by simpa [State.refOf, hx] using h
        cases x
        simp_all
    · rfl
  · rw [reject_of_ref h, (raise_keeps _ _ _).record?, modRecord_record? k]
    rfl

section
variable {x : Record} (hx : s.record? n = some x)
include hx

theorem refOf_record : s.refOf n = x.ref := by rw [State.refOf, hx]; rfl

theorem reject_loads (c : Code) : (s.reject n c).plan.loads
    = match x.ref with | some ref => (s.modSlot ref Slot.rejected).plan.loads | none => s.plan.loads := by
  have h := refOf_record hx
  rcases e : x.ref with _ | ref
  · rw [reject_of_none (h.trans e)]
    exact raise_keeps _ _ _ .loads (by decide)
  · rw [reject_of_ref (h.trans e)]
    exact raise_keeps _ _ _ .loads (by decide)

/-- The slot of a rejected pallet's record. -/
theorem reject_slot? {sl : Slot} (hr : x.ref = some ref) (hs : s.slot? ref = some sl) (c : Code) :
    (s.reject n c).slot? ref = some sl.rejected := by
  have e := reject_loads hx c
  rw [hr] at e
  rw [slot?_of_loads e, modSlot_slot?, if_pos rfl, hs]
  rfl

theorem reject_queues (c : Code) : Queues s (s.reject n c) [s.rejectReport x c] := by
  have h := refOf_record hx
  have hn := record?_number hx
  unfold State.rejectReport
  rw [hn]
  rcases e : x.ref with _ | ref
  · rw [reject_of_none (h.trans e)]
    exact .raise _ _
  · rw [reject_of_ref (h.trans e)]
    have k : KeepsAllBut [.loads, .records] s ((s.modSlot ref Slot.rejected).modRecord n fun r => { r with ref := none }) := by simp
    have q := (Queues.of_keeps k).trans (Queues.raise (s := (s.modSlot ref Slot.rejected).modRecord n fun r => { r with ref := none }) .reject
      (noteOf n (some ref) c.number (some ((((s.modSlot ref Slot.rejected).slot? ref).map fun x => (x.rejects : Int)).getD 0))))
    rw [modSlot_slot?, if_pos rfl] at q ⊢
    exact q

end

/-! ### A move asked for (R39) -/

section
variable {src dest p : Place} {z : Zone} {x : Record}

/-- A move of a record to a place waits in the list, and the place expects it. -/
def State.moveAsked (s : State) (n : Nat) (src dest : Place) (z : Zone) : State :=
  ((s.modField fun u => { u with moves := u.moves ++ [⟨n, src, dest, z, .waiting, 0, 0, false⟩] }).modRecord n
    fun r => { r with movingTo := some dest }).modPlace dest fun e => { e with incoming := e.incoming ++ [n] }

/-- A move to a place other than CHECK is entered exactly when the place has room and the record has no move. -/
theorem askMove_eq (hx : s.record? n = some x) (hz : moveZone x.location dest = some z) (hd : dest ≠ .check) :
    s.askMove n dest = if s.hasRoom dest = true ∧ s.move? n = none then some (s.moveAsked n x.location dest z) else none := by
  have hc : (dest == Place.check) = false := by simpa using hd
  simp only [State.askMove, hx, hz, hc, Bool.false_and, Bool.false_eq_true, if_false, Bool.and_eq_true, Option.isNone_iff_eq_none]
  rfl

theorem askMove_of_apart (hx : s.record? n = some x) (hz : moveZone x.location dest = none) : s.askMove n dest = none := by
  simp only [State.askMove, hx, hz]

theorem moveAsked_record? (k : Nat) : (s.moveAsked n src dest z).record? k
    = if k = n then (s.record? n).map fun r => { r with movingTo := some dest } else s.record? k :=
  modRecord_record? (s := s.modField _) k

theorem moveAsked_place : (s.moveAsked n src dest z).place p
    = if p = dest then { s.place dest with incoming := (s.place dest).incoming ++ [n] } else s.place p :=
  modPlace_place dest _ p

theorem moveAsked_move? (h : s.move? n = none) (k : Nat) : (s.moveAsked n src dest z).move? k
    = if k = n then some ⟨n, src, dest, z, .waiting, 0, 0, false⟩ else s.move? k := by
  show (s.field.moves ++ [_]).find? _ = _
  rw [List.find?_append]
  split
  · subst k
    rw [show s.field.moves.find? (·.track == n) = none from h]
    simp
  · rename_i hk
    rw [List.find?_cons_of_neg (by simpa using Ne.symm hk), List.find?_nil, Option.or_none]
    rfl

end

/-! ### The answers that end a read (R58) -/

section
variable {sc : Scanner} {rd : Read} {left : Nat} {digits : Option Text} {i : Instr}

/-- A command that ends the read outstanding at a scanner, of which this much time is left, and the digits it gives. -/
def EndsRead (s : State) (sc : Scanner) (left : Nat) (i : Instr) (digits : Option Text) : Prop :=
  (∃ d, i = .tag sc d ∧ digits = some d) ∨ (i = .noRead sc ∧ digits = none)
    ∨ (i = .answerLimitExpiry sc ∧ left = 0 ∧ s.mode.mode ≠ .halted ∧ digits = none)

theorem exec_endsRead (h : (s.scanner sc).outstanding = some (rd, left)) (e : EndsRead s sc left i digits) :
    exec i s = .next (((s.answered sc).applyRead rd digits).sendRead sc).settle := by
  rcases e with ⟨d, rfl, rfl⟩ | ⟨rfl, rfl⟩ | ⟨rfl, rfl, hm, rfl⟩
  · exact exec_tag h
  · show execNoRead sc s = _
    unfold execNoRead
    rw [h]
    rfl
  · show execAnswerLimitExpiry sc s = _
    have hm' : (0 == 0 && s.mode.mode != .halted) = true := by simpa using hm
    unfold execAnswerLimitExpiry
    rw [h]
    dsimp only
    rw [if_pos hm']
    rfl

/-- The limit of a read that has not run out is nothing. -/
theorem exec_answerLimit_running (h : (s.scanner sc).outstanding = some (rd, left)) (hl : 0 < left) :
    exec (.answerLimitExpiry sc) s = .next s := by
  show execAnswerLimitExpiry sc s = _
  have e : (left == 0) = false := by simpa using hl.ne'
  simp [execAnswerLimitExpiry, h, e]

end

end Sys2Proof.Machine
end

section
/-! SUPPORT. The label unit: LABEL_OK, LABEL_FAILED and the way to the finish reject spur (R139, R142, R143). -/

namespace Sys2Proof.Machine

open State

variable {bs : List Block} {r s t u : State} {n : Nat} {ref : LoadRef} {x : Record}

theorem counted_congr (k : KeepsAllBut bs s t) (c : Counter) (h : .counters ∉ bs := by decide) : t.counted c = s.counted c := by
  have e : t.link.counters = s.link.counters := k .counters h
  unfold State.counted
  rw [e]

theorem halfReports_congr (k : KeepsAllBut bs s t) (c : Counter) (h : .counters ∉ bs := by decide) (hl : .lineTime ∉ bs := by decide) :
    halfReports t c = halfReports s c := by
  have e : t.link.counters = s.link.counters := k .counters h
  have et : t.lineTime = s.lineTime := k .lineTime hl
  unfold halfReports
  rw [e, et]

theorem rejectReport_congr (k : KeepsAllBut bs s t) (x : Record) (c : Code) (h : .loads ∉ bs := by decide) (hl : .lineTime ∉ bs := by decide) :
    t.rejectReport x c = s.rejectReport x c := by
  have et : t.lineTime = s.lineTime := k .lineTime hl
  unfold State.rejectReport State.report
  simp only [k.slot? _ h, et]

theorem setStage_record? {st : Stage} (k : Nat) :
    (s.setStage n st).record? k = if k = n then (s.record? n).map fun r => { r with stage := st } else s.record? k :=
  modRecord_record? k

/-! ### The way to the finish reject spur (R143) -/

theorem moveZone_finish (p : Place) : moveZone p (.spur .finish) = if p = .label then some .centre else none := by
  cases p <;> rfl

/-- The pallet of a record may be passed on to the finish reject spur at once. -/
def PassesOn (s : State) (x : Record) : Prop := x.location = .label ∧ s.move? x.number = none ∧ s.hasRoom (.spur .finish) = true

theorem passOn_goes (hx : s.record? n = some x) (h : PassesOn s x) :
    s.passOn n = (s.moveAsked n .label (.spur .finish) .centre).modLabel fun u => { u with condition := .rejecting } := by
  obtain ⟨hl, hm, hr⟩ := h
  rw [record?_number hx] at hm
  have e : s.askMove n (.spur .finish) = some (s.moveAsked n .label (.spur .finish) .centre) := by
    rw [askMove_eq hx (by rw [moveZone_finish, if_pos hl]) (by decide), if_pos ⟨hr, hm⟩, hl]
  rw [State.passOn, e]

theorem passOn_waits (hx : s.record? n = some x) (h : ¬ PassesOn s x) :
    s.passOn n = s.modLabel fun u => { u with condition := .blocked } := by
  have e : s.askMove n (.spur .finish) = none := by
    by_cases hl : x.location = .label
    · rw [askMove_eq hx (by rw [moveZone_finish, if_pos hl]) (by decide), if_neg]
      rw [← record?_number hx]
      exact fun ⟨hr, hm⟩ => h ⟨hl, hm, hr⟩
    · exact askMove_of_apart hx (by rw [moveZone_finish, if_neg hl])
  rw [State.passOn, e]

open Classical in
/-- The record of a pallet that is passed on, or waits. -/
theorem passOn_record? (hx : s.record? n = some x) (k : Nat) : (s.passOn n).record? k = if k = n then
    some { x with movingTo := if PassesOn s x then some (.spur .finish) else x.movingTo } else s.record? k := by
  by_cases h : PassesOn s x
  · rw [passOn_goes hx h, if_pos h]
    exact (moveAsked_record? k).trans (by rw [hx]; rfl)
  · rw [passOn_waits hx h, if_neg h]
    split
    · subst k; exact hx
    · rfl

open Classical in
theorem passOn_label (hx : s.record? n = some x) :
    (s.passOn n).label = { s.label with condition := if PassesOn s x then .rejecting else .blocked } := by
  by_cases h : PassesOn s x
  · rw [passOn_goes hx h, if_pos h]; rfl
  · rw [passOn_waits hx h, if_neg h]; rfl

theorem passOn_keeps (hx : s.record? n = some x) : KeepsAllBut [.moves, .records, .places, .label] s (s.passOn n) := by
  by_cases h : PassesOn s x
  · rw [passOn_goes hx h]
    simp [State.moveAsked]
  · rw [passOn_waits hx h]
    simp

theorem passOn_place (hx : s.record? n = some x) {p : Place} (h : p ≠ .spur .finish ∨ ¬ PassesOn s x) :
    (s.passOn n).place p = s.place p := by
  by_cases hp : PassesOn s x
  · rw [passOn_goes hx hp]
    exact moveAsked_place.trans (if_neg (h.resolve_right (not_not_intro hp)))
  · rw [passOn_waits hx hp]
    rfl

theorem passOn_moves (hx : s.record? n = some x) (h : ¬ PassesOn s x) : (s.passOn n).field.moves = s.field.moves := by
  rw [passOn_waits hx h]; rfl

theorem passOn_move?_of_ne (hx : s.record? n = some x) {k : Nat} (hk : k ≠ n) : (s.passOn n).move? k = s.move? k := by
  by_cases h : PassesOn s x
  · rw [passOn_goes hx h]
    have hm : s.move? n = none := by rw [← record?_number hx]; exact h.2.1
    exact (moveAsked_move? hm k).trans (if_neg hk)
  · rw [passOn_waits hx h]; rfl

/-- A pallet that is passed on has its move asked for. -/
theorem passOn_asked (hx : s.record? n = some x) (h : PassesOn s x) : MoveAsked s (s.passOn n) n .label (.spur .finish) .centre := by
  have hm : s.move? n = none := by rw [← record?_number hx]; exact h.2.1
  rw [passOn_goes hx h]
  exact ⟨(moveAsked_move? hm n).trans (if_pos rfl), moveAsked_place.trans (if_pos rfl)⟩

/-- What is left of a line on which a pallet is passed on, or waits. -/
structure PassedOnBy (s t : State) (n : Nat) (x : Record) (goes : Bool) : Prop where
  may : goes = true ↔ PassesOn s x
  record : t.record? n = some { x with movingTo := if goes then some (.spur .finish) else x.movingTo }
  others : ∀ k, k ≠ n → t.record? k = s.record? k
  label : t.label = { s.label with condition := if goes then .rejecting else .blocked }
  asked : goes = true → MoveAsked s t n .label (.spur .finish) .centre
  moves : ∀ k, k ≠ n → t.move? k = s.move? k
  stays : goes = false → t.field.moves = s.field.moves
  places : ∀ p, p ≠ .spur .finish ∨ goes = false → t.place p = s.place p
  keeps : KeepsAllBut [.moves, .records, .places, .label] s t

theorem passOn_leaves (hx : s.record? n = some x) : ∃ goes, PassedOnBy s (s.passOn n) n x goes := by
  classical
  have hf {p : Prop} [Decidable p] (h : decide p = false) : ¬ p := by simpa using h
  refine ⟨decide (PassesOn s x), decide_eq_true_iff, ?_, fun k hk => ?_, ?_, fun h => passOn_asked hx (of_decide_eq_true h),
    fun k hk => passOn_move?_of_ne hx hk, fun h => passOn_moves hx (hf h), fun p hp => passOn_place hx (hp.imp_right hf), passOn_keeps hx⟩
  · rw [passOn_record? hx, if_pos rfl]; simp only [decide_eq_true_iff]
  · rw [passOn_record? hx, if_neg hk]
  · rw [passOn_label hx]; simp only [decide_eq_true_iff]

theorem MoveAsked.of_keeps {src dest : Place} {z : Zone} (h : MoveAsked s t n src dest z) (k : KeepsAllBut bs r s)
    (hp : .places ∉ bs := by decide) : MoveAsked r t n src dest z :=
  ⟨h.1, by rw [h.2, k.place dest hp]⟩

theorem MoveAsked.to_keeps {src dest : Place} {z : Zone} (h : MoveAsked s t n src dest z) (k : KeepsAllBut bs t u)
    (hp : .places ∉ bs := by decide) (hm : .moves ∉ bs := by decide) : MoveAsked s u n src dest z :=
  ⟨(k.move? n hm).trans h.1, (k.place dest hp).trans h.2⟩

/-! ### LABEL_FAILED (R142) -/

/-- The record of the label unit's pallet becomes LABEL_FAILED, before the pallet is passed on. -/
def State.labelFailing (s : State) (n : Nat) : State :=
  (((s.modRecord n fun r => { r with verdict := some .labelFailed }).reject n .labelFailed).count .labelFailures).setStage n .toReject

theorem failLabel_eq : s.failLabel n = (s.labelFailing n).passOn n := rfl

theorem labelFailing_keeps (s : State) (n : Nat) : KeepsAllBut [.queue, .loads, .records, .counters] s (s.labelFailing n) := by
  simp [State.labelFailing]

theorem labelFailing_record? (k : Nat) : (s.labelFailing n).record? k = if k = n then
    (s.record? n).map fun r => { r with verdict := some .labelFailed, ref := none, stage := .toReject } else s.record? k := by
  unfold State.labelFailing
  simp only [setStage_record?, (count_keeps _ _).record?, reject_record?, modRecord_record?, implies_true, if_true, Option.map_map]
  split <;> rfl

section
variable (hx : s.record? n = some x)
include hx

theorem labelFailing_loads : (s.labelFailing n).plan.loads
    = match x.ref with | some ref => (s.modSlot ref Slot.rejected).plan.loads | none => s.plan.loads := by
  have hv : (s.modRecord n fun r => { r with verdict := some .labelFailed }).record? n = some { x with verdict := some .labelFailed } := by
    rw [modRecord_record? n, if_pos rfl, hx]; rfl
  exact (count_keeps _ _ .loads (by decide)).trans (reject_loads hv .labelFailed)

theorem labelFailing_slot? {sl : Slot} (hr : x.ref = some ref) (hs : s.slot? ref = some sl) :
    (s.labelFailing n).slot? ref = some sl.rejected := by
  have e := labelFailing_loads hx
  rw [hr] at e
  rw [slot?_of_loads e, modSlot_slot?, if_pos rfl, hs]
  rfl

theorem labelFailing_queues : Queues s (s.labelFailing n) (s.rejectReport x .labelFailed :: halfReports s .labelFailures) := by
  have hv : (s.modRecord n fun r => { r with verdict := some .labelFailed }).record? n = some { x with verdict := some .labelFailed } := by
    rw [modRecord_record? n, if_pos rfl, hx]; rfl
  have k : KeepsAllBut [.records] s (s.modRecord n fun r => { r with verdict := some .labelFailed }) := by simp
  have kr := reject_keeps (s.modRecord n fun r => { r with verdict := some .labelFailed }) n .labelFailed
  have ks (v : State) : KeepsAllBut [.records] v (v.setStage n .toReject) := by simp
  have q := (((Queues.of_keeps k).trans (reject_queues hv .labelFailed)).trans (Queues.count _ .labelFailures)).trans (Queues.of_keeps (ks _))
  rw [rejectReport_congr k, halfReports_congr kr, halfReports_congr k, List.append_nil] at q
  exact q

end

theorem labelFailing_counters (s : State) (n : Nat) : (s.labelFailing n).link.counters = s.counted .labelFailures := by
  have k : KeepsAllBut [.queue, .loads, .records] s ((s.modRecord n fun r => { r with verdict := some .labelFailed }).reject n .labelFailed) := by
    simp
  exact (count_counters _ _).trans (counted_congr k _)

end Sys2Proof.Machine
end

section
/-! The end of a verify (R12, R54, R58, R138 to R143). -/

namespace Sys2Proof.Machine

open State

variable {bs : List Block} {r s t u : State} {n : Nat} {ref : LoadRef} {x : Record} {b : FaceResult}

/-! ### LABEL_OK (R139) -/

/-- The slot FINISHED, the record TO_BUFFER and the condition LABELLED. -/
def State.labelled (s : State) (n : Nat) (ref : LoadRef) : State :=
  ((s.modSlot ref fun sl => { sl with state := .finished }).setStage n .toBuffer).modLabel fun u => { u with condition := .labelled }

theorem labelOk_eq (h : s.refOf n = some ref) : s.labelOk n = ((s.labelled n ref).raise .labelDone
    (noteOf n ((s.labelled n ref).refOf n) 1 (some ((s.labelled n ref).labelAttempts n)))).modBuffer fun u => { u with exitPallet := some n } := by
  simp only [State.labelOk, h]
  rfl

theorem labelled_record? (k : Nat) : (s.labelled n ref).record? k
    = if k = n then (s.record? n).map fun r => { r with stage := .toBuffer } else s.record? k := setStage_record? (s := s.modSlot _ _) k

theorem labelled_keeps (s : State) (n : Nat) (ref : LoadRef) : KeepsAllBut [.loads, .records, .label] s (s.labelled n ref) := by
  simp [State.labelled]

section
variable (hx : s.record? n = some x) (hr : x.ref = some ref)
include hx hr

theorem labelOk_keeps : KeepsAllBut [.loads, .records, .label, .queue, .buffer] s (s.labelOk n) := by
  rw [labelOk_eq ((refOf_record hx).trans hr)]
  have k := (raise_keeps (s.labelled n ref) .labelDone (noteOf n ((s.labelled n ref).refOf n) 1 (some ((s.labelled n ref).labelAttempts n))))
  have kb : KeepsAllBut [.buffer] _ (State.modBuffer ((s.labelled n ref).raise .labelDone
    (noteOf n ((s.labelled n ref).refOf n) 1 (some ((s.labelled n ref).labelAttempts n)))) fun u => { u with exitPallet := some n }) :=
    (keeps_modBuffer (by simp) (by simp) (by simp)).mpr keeps_refl
  exact (((labelled_keeps s n ref).mono (by simp)).trans (k.mono (by simp))).trans (kb.mono (by simp))

theorem labelOk_record? (k : Nat) : (s.labelOk n).record? k = if k = n then some { x with stage := .toBuffer } else s.record? k := by
  rw [labelOk_eq ((refOf_record hx).trans hr)]
  exact ((raise_keeps _ _ _).record? k).trans ((labelled_record? k).trans (by rw [hx]; rfl))

theorem labelOk_slot? {sl : Slot} (hs : s.slot? ref = some sl) : (s.labelOk n).slot? ref = some { sl with state := .finished } := by
  rw [labelOk_eq ((refOf_record hx).trans hr)]
  have e : (s.modSlot ref fun sl => { sl with state := .finished }).slot? ref = some { sl with state := .finished } := by
    rw [modSlot_slot?, if_pos rfl, hs]; rfl
  exact ((raise_keeps _ _ _).slot? ref).trans e

theorem labelOk_label : (s.labelOk n).label = { s.label with condition := .labelled } := by
  rw [labelOk_eq ((refOf_record hx).trans hr)]
  exact (raise_keeps _ _ _).wholeLabel

theorem labelOk_buffer : (s.labelOk n).buffer = { s.buffer with exitPallet := some n } := by
  rw [labelOk_eq ((refOf_record hx).trans hr)]
  exact congrArg (fun b : BufferController => { b with exitPallet := some n }) (raise_keeps _ _ _).wholeBuffer

theorem labelOk_queues : Queues s (s.labelOk n) [s.report .labelDone (noteOf n x.ref 1 (some x.labelAttempts))] := by
  have hl : (s.labelled n ref).record? n = some { x with stage := .toBuffer } := by rw [labelled_record?, if_pos rfl, hx]; rfl
  have ha : (s.labelled n ref).labelAttempts n = x.labelAttempts := by unfold State.labelAttempts; rw [hl]; rfl
  rw [labelOk_eq ((refOf_record hx).trans hr), refOf_record hl, ha]
  have kb (v : State) : KeepsAllBut [.buffer] v (v.modBuffer fun u => { u with exitPallet := some n }) :=
    (keeps_modBuffer (by simp) (by simp) (by simp)).mpr keeps_refl
  exact ((Queues.of_keeps (labelled_keeps s n ref)).trans (.raise _ _)).trans (.of_keeps (kb _))

end

/-! ### The faults of the faces (R140) -/

/-- The faults of a verify are entered, and LABEL_FAULT carries the first. -/
def State.faced (s : State) (n : Nat) (c : Code) (rest : List Code) : State :=
  (s.enterFaults n (c :: rest)).raise .labelFault (noteOf n ((s.enterFaults n (c :: rest)).refOf n) c.number
    (some ((s.enterFaults n (c :: rest)).labelAttempts n)))

theorem faced_keeps (s : State) (n : Nat) (c : Code) (rest : List Code) : KeepsAllBut [.records, .queue] s (s.faced n c rest) :=
  ((enterFaults_keeps s n (c :: rest)).mono (by simp)).trans ((raise_keeps _ _ _).mono (by simp))

theorem faced_record? (hx : s.record? n = some x) (c : Code) (rest : List Code) (k : Nat) :
    (s.faced n c rest).record? k = if k = n then some (x.withFaults (c :: rest)) else s.record? k := by
  refine ((raise_keeps _ _ _).record? k).trans ((enterFaults_record? (c :: rest) k).trans ?_)
  rw [hx]; rfl

theorem faced_queues (hx : s.record? n = some x) (c : Code) (rest : List Code) :
    Queues s (s.faced n c rest) [s.report .labelFault (noteOf n x.ref c.number (some x.labelAttempts))] := by
  have k := enterFaults_keeps s n (c :: rest)
  have hf : (s.enterFaults n (c :: rest)).record? n = some (x.withFaults (c :: rest)) := by
    rw [enterFaults_record?, if_pos rfl, hx]; rfl
  have ha : (s.enterFaults n (c :: rest)).labelAttempts n = x.labelAttempts := by unfold State.labelAttempts; rw [hf]; rfl
  have q := (Queues.of_keeps k).trans (Queues.raise (s := s.enterFaults n (c :: rest)) .labelFault
    (noteOf n x.ref c.number (some x.labelAttempts)))
  rw [List.nil_append, State.report, k .lineTime (by decide)] at q
  unfold State.faced
  rw [refOf_record hf, ha]
  exact q

theorem endVerify_fault {c : Code} {rest : List Code}
    (h : (faceFault .a s.label.faceA).toList ++ (faceFault .b s.label.faceB).toList = c :: rest) :
    s.endVerify n = if (s.faced n c rest).labelAttempts n ≤ (s.faced n c rest).setting .labelRetries
      then (s.faced n c rest).waitForPrint.makePurgePending else (s.faced n c rest).failLabel n := by
  simp only [State.endVerify, h]
  rfl

/-! ### The answer for face B (R138) -/

/-- The result of face B is set, its read ended. -/
def State.facedB (s : State) (b : FaceResult) : State := (s.answered .verify).modLabel fun u => { u with faceB := b }

theorem facedB_keeps (s : State) (b : FaceResult) : KeepsAllBut [.scanners, .label] s (s.facedB b) := by
  simp [State.facedB, State.answered]

theorem applyRead_faceB (hc : s.label.condition = .verifying) (ha : s.label.faceA ≠ .pending) {digits : Option Text}
    (hb : (match digits with | some d => (s.answered .verify).faceResult n d | none => .noRead) = b) (hp : b ≠ .pending) :
    (s.answered .verify).applyRead ⟨n, .verify .b⟩ digits = (s.facedB b).endVerify n := by
  have e : ((s.facedB b).label.condition == .verifying && (s.facedB b).label.faceA != .pending && (s.facedB b).label.faceB != .pending) = true := by
    simp [State.facedB, State.answered, hc, ha, hp]
  have e' : (s.answered .verify).applyRead ⟨n, .verify .b⟩ digits = (s.answered .verify).faceAnswer n .b b := by
    rw [← hb]; cases digits <;> rfl
  rw [e']
  exact if_pos e

/-- The result of face B that a fault of it, or none, stands for. -/
def faceBResult : Option Code → FaceResult
  | none => .ok
  | some .noReadB => .noRead
  | _ => .mismatch

/-- A fault of face B, or none (R140). -/
def FaceBFault (fb : Option Code) : Prop := fb = none ∨ fb = some .mismatchB ∨ fb = some .noReadB

theorem faceFault_b {fb : Option Code} (h : FaceBFault fb) : faceFault .b (faceBResult fb) = fb ∧ faceBResult fb ≠ .pending := by
  rcases h with rfl | rfl | rfl <;> exact ⟨rfl, by decide⟩

/-! ### What the end of a verify leaves, before the next read is sent -/

theorem endVerify_ok (h : (faceFault .a s.label.faceA).toList ++ (faceFault .b b).toList = []) :
    (s.facedB b).endVerify n = (s.facedB b).labelOk n := by
  have e : (faceFault .a (s.facedB b).label.faceA).toList ++ (faceFault .b (s.facedB b).label.faceB).toList = [] := h
  simp only [State.endVerify, e]

section
variable {c : Code} {rest : List Code} (hx : s.record? n = some x)
  (hl : (faceFault .a s.label.faceA).toList ++ (faceFault .b b).toList = c :: rest)
include hx hl

theorem endVerify_retry (ha : x.labelAttempts ≤ s.setting .labelRetries) :
    (s.facedB b).endVerify n = ((s.facedB b).faced n c rest).waitForPrint.makePurgePending := by
  have k := faced_keeps (s.facedB b) n c rest
  have h0 : (s.facedB b).record? n = some x := hx
  have hf : ((s.facedB b).faced n c rest).record? n = some (x.withFaults (c :: rest)) := by rw [faced_record? h0, if_pos rfl]
  rw [endVerify_fault hl, if_pos]
  rw [k.setting]
  unfold State.labelAttempts
  rw [hf]
  exact ha

theorem endVerify_givesUp (ha : s.setting .labelRetries < x.labelAttempts) :
    (s.facedB b).endVerify n = (((s.facedB b).faced n c rest).labelFailing n).passOn n := by
  have k := faced_keeps (s.facedB b) n c rest
  have h0 : (s.facedB b).record? n = some x := hx
  have hf : ((s.facedB b).faced n c rest).record? n = some (x.withFaults (c :: rest)) := by rw [faced_record? h0, if_pos rfl]
  rw [endVerify_fault hl, if_neg, failLabel_eq]
  rw [k.setting]
  unfold State.labelAttempts
  rw [hf]
  exact not_le.mpr ha

end

/-- The commands that end the read of face B, and the fault of it that each stands for. -/
theorem endsRead_faceB {left : Nat} {c : Instr} {fb : Option Code} (hx : s.record? n = some x)
    (h : (∃ d, c = .tag .verify d ∧ TagDigits d ∧ fb = if x.tag = some d then none else some .mismatchB)
      ∨ (((∃ d, c = .tag .verify d ∧ ¬ TagDigits d) ∨ c = .noRead .verify
          ∨ (c = .answerLimitExpiry .verify ∧ left = 0 ∧ s.mode.mode ≠ .halted)) ∧ fb = some .noReadB)) :
    FaceBFault fb ∧ ∃ digits, EndsRead s .verify left c digits
      ∧ (match digits with | some d => (s.answered .verify).faceResult n d | none => .noRead) = faceBResult fb := by
  have hx' : (s.answered .verify).record? n = some x := hx
  rcases h with ⟨d, rfl, hd, rfl⟩ | ⟨h, rfl⟩
  · have e : (s.answered .verify).faceResult n d = if x.tag = some d then .ok else .mismatch := by
      unfold State.faceResult
      rw [validTag_iff.mpr hd, hx']
      simp
    refine ⟨?_, some d, .inl ⟨d, rfl, rfl⟩, e.trans ?_⟩
    · unfold FaceBFault; split <;> simp
    · split <;> rfl
  · refine ⟨.inr (.inr rfl), ?_⟩
    rcases h with ⟨d, rfl, hd⟩ | rfl | ⟨rfl, hl, hm⟩
    · refine ⟨some d, .inl ⟨d, rfl, rfl⟩, ?_⟩
      have e : validTag d = false := by rw [← Bool.not_eq_true, validTag_iff]; exact hd
      show (s.answered .verify).faceResult n d = .noRead
      unfold State.faceResult
      rw [e]
      rfl
    · exact ⟨none, .inr (.inl ⟨rfl, rfl⟩), rfl⟩
    · exact ⟨none, .inr (.inr ⟨rfl, hl, hm, rfl⟩), rfl⟩

/-- The pallet that becomes LABEL_FAILED by its verify, before it is passed on. -/
def State.givenUp (s : State) (n : Nat) (b : FaceResult) (c : Code) (rest : List Code) : State :=
  ((s.facedB b).faced n c rest).labelFailing n

theorem givenUp_keeps (s : State) (n : Nat) (b : FaceResult) (c : Code) (rest : List Code) :
    KeepsAllBut [.scanners, .label, .queue, .loads, .records, .counters] s (s.givenUp n b c rest) :=
  (((facedB_keeps s b).mono (by simp)).trans ((faced_keeps _ n c rest).mono (by simp))).trans
    ((labelFailing_keeps _ n).mono (by simp))

section
variable {c : Code} {rest : List Code} (hx : s.record? n = some x)
include hx

theorem givenUp_record? (k : Nat) : (s.givenUp n b c rest).record? k = if k = n then
    some { x.withFaults (c :: rest) with verdict := some .labelFailed, ref := none, stage := .toReject } else s.record? k := by
  have h0 : (s.facedB b).record? n = some x := hx
  unfold State.givenUp
  rw [labelFailing_record?, faced_record? h0, faced_record? h0, if_pos rfl]
  split <;> rfl

theorem givenUp_slot? {sl : Slot} (hr : x.ref = some ref) (hs : s.slot? ref = some sl) :
    (s.givenUp n b c rest).slot? ref = some sl.rejected := by
  have h0 : (s.facedB b).record? n = some x := hx
  have hf : ((s.facedB b).faced n c rest).record? n = some (x.withFaults (c :: rest)) := by rw [faced_record? h0, if_pos rfl]
  refine labelFailing_slot? hf hr ?_
  rw [(faced_keeps _ _ _ _).slot?]
  exact hs

theorem givenUp_queues : Queues s (s.givenUp n b c rest) (s.report .labelFault (noteOf n x.ref c.number (some x.labelAttempts))
    :: s.rejectReport x .labelFailed :: halfReports s .labelFailures) := by
  have h0 : (s.facedB b).record? n = some x := hx
  have k := facedB_keeps s b
  have kf := faced_keeps (s.facedB b) n c rest
  have hf : ((s.facedB b).faced n c rest).record? n = some (x.withFaults (c :: rest)) := by rw [faced_record? h0, if_pos rfl]
  have q := ((Queues.of_keeps k).trans (faced_queues h0 c rest)).trans (labelFailing_queues hf)
  rw [rejectReport_congr kf, rejectReport_congr k, halfReports_congr kf, halfReports_congr k] at q
  exact q

end

/-- The pallet given up and passed on, or left waiting. -/
theorem givenUp_leaves {c : Code} {rest : List Code} (hx : s.record? n = some x) : ∃ goes : Bool,
    (goes = true ↔ x.location = .label ∧ s.move? n = none ∧ s.hasRoom (.spur .finish) = true)
    ∧ PassedOnBy (s.givenUp n b c rest) ((s.givenUp n b c rest).passOn n) n
        { x.withFaults (c :: rest) with verdict := some .labelFailed, ref := none, stage := .toReject } goes
    ∧ (∀ ref sl, x.ref = some ref → s.slot? ref = some sl → ((s.givenUp n b c rest).passOn n).slot? ref = some sl.rejected)
    ∧ ((s.givenUp n b c rest).passOn n).link.counters = s.counted .labelFailures
    ∧ Queues s ((s.givenUp n b c rest).passOn n) (s.report .labelFault (noteOf n x.ref c.number (some x.labelAttempts))
        :: s.rejectReport x .labelFailed :: halfReports s .labelFailures) := by
  obtain ⟨goes, leaves⟩ := passOn_leaves ((givenUp_record? (b := b) (c := c) (rest := rest) hx n).trans (if_pos rfl))
  have kg := givenUp_keeps s n b c rest
  refine ⟨goes, leaves.may.trans ?_, leaves, fun ref sl hr hs => (leaves.keeps.slot? ref).trans (givenUp_slot? hx hr hs), ?_, ?_⟩
  · unfold PassesOn
    rw [kg.hasRoom, kg.move?]
    show (x.location = .label ∧ s.move? x.number = none ∧ _) ↔ _
    rw [record?_number hx]
  · refine (leaves.keeps .counters (by decide)).trans ((labelFailing_counters _ n).trans ?_)
    rw [counted_congr (faced_keeps (s.facedB b) n c rest), counted_congr (facedB_keeps s b)]
  · simpa using (givenUp_queues (b := b) (c := c) (rest := rest) hx).trans (.of_keeps leaves.keeps)

/-- Settles O35: the faults of the two faces decide between LABEL_OK, a retry and LABEL_FAILED. -/
theorem theVerifyDecidesTheLabel : Obligations.TheVerifyDecidesTheLabel := by
  intro s n left r ref sl c fb new hp hcond ho ha hr href hsl hc hnew
  refine ⟨fun h => exec_answerLimit_running ho h, ?_⟩
  obtain ⟨hfb, digits, hends, hb⟩ := endsRead_faceB hr hc
  obtain ⟨hfault, hpend⟩ := faceFault_b hfb
  have hl : (faceFault .a s.label.faceA).toList ++ (faceFault .b (faceBResult fb)).toList = new := by
    rw [hnew, hfault]
    cases s.label.faceA <;> rfl
  have es := exec_endsRead ho hends
  rw [applyRead_faceB hcond ha hb hpend] at es
  refine ⟨_, faceBResult fb, es, rfl, ?_⟩
  clear hnew hc hends hb es
  generalize faceBResult fb = b at hl hpend
  generalize hv : (s.facedB b).endVerify n = v
  have h0 : (s.facedB b).record? n = some r := hr
  have kv : KeepsAllBut [.queue, .counters, .loads, .places, .moves, .records, .check, .label, .buffer] (s.facedB b) v := by
    rw [← hv]; exact (keeps_endVerify (by simp)).mpr keeps_refl
  have ks := sendRead_keeps v .verify
  have kt : KeepsAllBut (.scanners :: .sent :: derived) v (v.sendRead .verify).settle :=
    (ks.mono (by simp)).trans ((settle_keeps _).mono (by simp))
  have idle : v.scanner .verify = ⟨none, (s.scanner .verify).waiting, none⟩ :=
    (kv.scanner .verify).trans ((answered_scanner .verify).trans (if_pos rfl))
  have reported {p : List Report} (q : Queues s v p) : Queues s (v.sendRead .verify) p := by
    simpa using q.trans (.of_keeps ks)
  have others : ∀ k, k ≠ n → v.record? k = s.record? k := by
    intro k hk
    rw [← hv]
    rcases new with _ | ⟨c, rest⟩
    · rw [endVerify_ok hl, labelOk_record? h0 href, if_neg hk]
      rfl
    · rcases le_or_gt r.labelAttempts (s.setting .labelRetries) with hle | hgt
      · rw [endVerify_retry hr hl hle]
        exact (faced_record? h0 c rest k).trans (if_neg hk)
      · rw [endVerify_givesUp hr hl hgt]
        exact (passOn_record? ((givenUp_record? hr n).trans (if_pos rfl)) k).trans ((if_neg hk).trans ((givenUp_record? hr k).trans (if_neg hk)))
  refine ⟨?scanner, fun sc hsc => ?scanners, fun k hk => (kt.record? k).trans (others k hk), fun hn => ?labelOk, fun first rest hn => ⟨?fault, fun hle => ?retry, fun hgt => ?givesUp⟩⟩
  case scanner =>
    rw [settle_scanner, sendRead_scanner idle, if_pos rfl]
    cases (s.scanner .verify).waiting <;> rfl
  case scanners =>
    rw [settle_scanner, sendRead_scanner idle, if_neg hsc, kv.scanner]
    exact (answered_scanner sc).trans (if_neg hsc)
  case labelOk =>
    rw [hn] at hl
    rw [endVerify_ok hl] at hv
    have k0 := facedB_keeps s b
    have hslot : v.slot? ref = some { sl with state := .finished } := by rw [← hv]; exact labelOk_slot? h0 href hsl
    have hrec : v.record? n = some { r with stage := .toBuffer } := by rw [← hv, labelOk_record? h0 href, if_pos rfl]
    have hlab : v.label = { s.label with condition := .labelled, faceB := b } := by rw [← hv]; exact labelOk_label h0 href
    have hbuf : v.buffer = { s.buffer with exitPallet := some n } := by rw [← hv]; exact labelOk_buffer h0 href
    have kok : KeepsAllBut [.loads, .records, .label, .queue, .buffer] (s.facedB b) v := by rw [← hv]; exact labelOk_keeps h0 href
    have q := (Queues.of_keeps k0).trans (labelOk_queues h0 href)
    rw [hv, List.nil_append, State.report, href, k0 .lineTime (by decide)] at q
    refine ⟨(kt.slot? ref).trans hslot, (kt.record? n).trans hrec, ?_, ?_,
      fun hq => (reported q).reported (List.mem_singleton_self _) rfl ⟨rfl, rfl, rfl, rfl⟩ hq, ?_⟩
    · rw [kt.label, hlab]
    · rw [kt.buffer, hbuf]
    · exact ((k0.mono (by simp)).trans (kok.mono (by simp [derived]))).trans (kt.mono (by simp [derived]))
  case fault =>
    intro hq
    rw [hn] at hl
    have found {p : List Report} (q : Queues s v p) (hp : p.length ≤ 32)
        (h : s.report .labelFault (noteOf n r.ref first.number (some r.labelAttempts)) ∈ p) :
        Reported (v.sendRead .verify).settle .labelFault fun x => x.track = some n ∧ x.load = some ref.load ∧ x.detail = first.number
          ∧ x.value = some (r.labelAttempts : Int) :=
      (reported q).reported h rfl ⟨rfl, by rw [href]; rfl, rfl, rfl⟩ hq hp
    rcases le_or_gt r.labelAttempts (s.setting .labelRetries) with hle | hgt
    · rw [endVerify_retry hr hl hle] at hv
      have kf := facedB_keeps s b
      have q := (Queues.of_keeps kf).trans (faced_queues h0 first rest)
      have kw : KeepsAllBut [.label] ((s.facedB b).faced n first rest) v := by rw [← hv]; simp [State.waitForPrint]
      rw [List.nil_append, State.report, kf .lineTime (by decide)] at q
      exact found (q.trans (.of_keeps kw)) (by simp) (by simp [State.report])
    · rw [endVerify_givesUp hr hl hgt] at hv
      have hg : (s.givenUp n b first rest).record? n = _ := (givenUp_record? hr n).trans (if_pos rfl)
      have kp : KeepsAllBut [.moves, .records, .places, .label] (s.givenUp n b first rest) v := by
        rw [← hv]; exact passOn_keeps hg
      have q := (givenUp_queues (b := b) (c := first) (rest := rest) hr).trans (.of_keeps kp)
      have h1 := Queues.halfReports_length s .labelFailures
      exact found q (by simp; omega) (by simp)
  case retry =>
    rw [hn] at hl ⊢
    rw [endVerify_retry hr hl hle] at hv
    have kf := faced_keeps (s.facedB b) n first rest
    have hrec : v.record? n = some (r.withFaults (first :: rest)) := by
      rw [← hv]; exact (faced_record? h0 first rest n).trans (if_pos rfl)
    have hlab : v.label = { s.label with
        condition := .printWait, faceA := .pending, faceB := .pending
        purge := (if s.label.purge = .running then .running else .pending) } := by
      rw [← hv]
      show { ((s.facedB b).faced n first rest).label with
        condition := .printWait, faceA := .pending, faceB := .pending
        purge := if ((s.facedB b).faced n first rest).label.purge == Purge.running then .running else .pending } = _
      rw [kf.wholeLabel]
      simp only [beq_iff_eq]
      rfl
    have kw : KeepsAllBut [.label] ((s.facedB b).faced n first rest) v := by rw [← hv]; simp [State.waitForPrint]
    refine ⟨(kt.record? n).trans hrec, ?_, ?_⟩
    · rw [kt.label, hlab]
    · exact ((((facedB_keeps s b).mono (by simp)).trans (kf.mono (by simp [derived]))).trans (kw.mono (by simp))).trans
        (kt.mono (by simp [derived]))
  case givesUp =>
    rw [hn] at hl ⊢
    rw [endVerify_givesUp hr hl hgt] at hv
    obtain ⟨goes, may, leaves, hslot, counters, q⟩ := givenUp_leaves (b := b) (c := first) (rest := rest) hr
    rw [show (s.givenUp n b first rest).passOn n = v from hv] at leaves hslot counters q
    have kg := givenUp_keeps s n b first rest
    have hh := Queues.halfReports_length s .labelFailures
    have hlab : (s.givenUp n b first rest).label = { s.label with faceB := b } :=
      (labelFailing_keeps _ n).wholeLabel.trans (faced_keeps (s.facedB b) n first rest).wholeLabel
    have hreject : s.rejectReport r .labelFailed = ⟨.reject, s.lineTime, some n, some ref.load, some ref.position,
        Code.labelFailed.number, some ((min 255 (sl.rejects + 1) : Nat) : Int)⟩ := by
      unfold State.rejectReport State.report
      rw [href, record?_number hr, Option.map_some, hsl]
      rfl
    have rejected : QueueOpen s → Reported (v.sendRead .verify).settle .reject fun x => x.track = some n ∧ x.load = some ref.load
        ∧ x.position = some ref.position ∧ x.detail = Code.labelFailed.number
        ∧ x.value = some ((min 255 (sl.rejects + 1) : Nat) : Int) := fun hq =>
      (reported q).reported (x := s.rejectReport r .labelFailed) (by simp) (by rw [hreject])
        (by rw [hreject]; exact ⟨rfl, rfl, rfl, rfl, rfl⟩) hq (by simp; omega)
    have counted := counted_of (s := s) (t := v.sendRead .verify) .labelFailures ((ks .counters (by decide)).trans counters) (reported q)
      (by simp; omega) (filter_halfReports s .labelFailures)
    refine ⟨goes, may, (kt.record? n).trans leaves.record, (kt.slot? ref).trans (hslot ref sl href hsl), rejected, counted, fun k hk => ?_, ?_,
      fun h => ((leaves.asked h).of_keeps kg).to_keeps kt, fun k hk => (kt.move? k).trans ((leaves.moves k hk).trans (kg.move? k)),
      fun h => (kt .moves (by decide)).trans ((leaves.stays h).trans (kg .moves (by decide))),
      fun p hp => (kt.place p).trans ((leaves.places p hp).trans (kg.place p)), fun hq => ?_, ?_⟩
    · have e : (v.sendRead .verify).settle.link.counters = s.counted .labelFailures :=
        (settle_link_counters (s := v.sendRead .verify)).trans ((ks .counters (by decide)).trans counters)
      rw [e, tget_counted_of_ne s hk]
    · rw [kt.label, leaves.label, hlab]
    · obtain ⟨y, hy, hk, h1, h2, -, h3, -⟩ := rejected hq
      exact ⟨y, hy, hk, h1, h2, h3⟩
    · exact ((kg.mono (by simp [derived])).trans (leaves.keeps.mono (by simp))).trans (kt.mono (by simp [derived]))

end Sys2Proof.Machine
end

section
/-! SUPPORT. The routing of the pallet on CHECK, and the conclusion of its check (R12, R54, R89, R90). -/

namespace Sys2Proof.Machine

open State

variable {bs : List Block} {r s t u : State} {n : Nat} {ref : LoadRef} {x : Record} {passing : Bool} {dest : Option Place}

/-! ### The way out of CHECK (R90) -/

/-- The places a pallet on CHECK may be sent to, in order: staging when it passes, the check reject spur when it fails. -/
def waysOut (passing : Bool) : List Place := if passing then [.staging .one, .staging .two] else [.spur .check]

theorem moveZone_wayOut {p : Place} (hp : p ∈ waysOut passing) (src : Place) :
    moveZone src p = if src = .check then some .centre else none := by
  cases passing
  · obtain rfl : p = .spur .check := by simpa [waysOut] using hp
    cases src <;> rfl
  · obtain rfl | rfl : p = .staging .one ∨ p = .staging .two := by simpa [waysOut] using hp
    · cases src <;> rfl
    · cases src <;> rfl

theorem wayOut_ne_check {p : Place} (hp : p ∈ waysOut passing) : p ≠ .check := by
  cases passing <;> simp [waysOut] at hp
  · subst hp; decide
  · rcases hp with rfl | rfl <;> decide

open Classical in
/-- The place a pallet on CHECK is sent to now, if any. -/
noncomputable def wayOut (s : State) (x : Record) (passing : Bool) : Option Place :=
  if x.location = .check ∧ s.move? x.number = none then (waysOut passing).find? s.hasRoom else none

theorem wayOut_mem {p : Place} (h : wayOut s x passing = some p) :
    p ∈ waysOut passing ∧ s.hasRoom p = true ∧ s.move? x.number = none ∧ x.location = .check := by
  unfold wayOut at h
  split at h
  · rename_i hc
    exact ⟨List.mem_of_find?_eq_some h, by simpa using List.find?_some h, hc.2, hc.1⟩
  · cases h

theorem askMove_wayOut (hx : s.record? n = some x) {p : Place} (hp : p ∈ waysOut passing) (hc : x.location = .check) (hm : s.move? n = none) :
    s.askMove n p = if s.hasRoom p = true then some (s.moveAsked n .check p .centre) else none := by
  rw [askMove_eq hx (by rw [moveZone_wayOut hp, if_pos hc]) (wayOut_ne_check hp), hc]
  simp only [hm, and_true]

theorem askMove_noWayOut (hx : s.record? n = some x) {p : Place} (hp : p ∈ waysOut passing)
    (h : ¬ (x.location = .check ∧ s.move? n = none)) : s.askMove n p = none := by
  by_cases hc : x.location = .check
  · rw [askMove_eq hx (by rw [moveZone_wayOut hp, if_pos hc]) (wayOut_ne_check hp), if_neg]
    exact fun hr => h ⟨hc, hr.2⟩
  · exact askMove_of_apart hx (by rw [moveZone_wayOut hp, if_neg hc])

theorem askOut_eq (hx : s.record? n = some x) (passing : Bool) :
    s.askOut n passing = (wayOut s x passing).map fun p => s.moveAsked n .check p .centre := by
  have hn := record?_number hx
  unfold wayOut
  rw [hn]
  by_cases h : x.location = .check ∧ s.move? n = none
  · rw [if_pos h]
    cases passing
    · have e := askMove_wayOut (passing := false) hx (p := .spur .check) (by simp [waysOut]) h.1 h.2
      simp only [State.askOut, Bool.false_eq_true, if_false, e, waysOut, List.find?_cons, List.find?_nil]
      cases s.hasRoom (.spur .check) <;> rfl
    · have e1 := askMove_wayOut (passing := true) hx (p := .staging .one) (by simp [waysOut]) h.1 h.2
      have e2 := askMove_wayOut (passing := true) hx (p := .staging .two) (by simp [waysOut]) h.1 h.2
      simp only [State.askOut, if_true, e1, e2, waysOut, List.find?_cons, List.find?_nil]
      cases s.hasRoom (.staging .one) <;> cases s.hasRoom (.staging .two) <;> rfl
  · rw [if_neg h]
    cases passing
    · simp only [State.askOut, Bool.false_eq_true, if_false,
        askMove_noWayOut (passing := false) hx (p := .spur .check) (by simp [waysOut]) h]
      rfl
    · simp only [State.askOut, if_true, askMove_noWayOut (passing := true) hx (p := .staging .one) (by simp [waysOut]) h,
        askMove_noWayOut (passing := true) hx (p := .staging .two) (by simp [waysOut]) h]
      rfl

/-- What is left where the pallet on CHECK is sent to a place, or waits BLOCKED. -/
structure RoutedBy (s t : State) (n : Nat) (x : Record) (dest : Option Place) : Prop where
  record : t.record? n = some { x with movingTo := if dest.isSome then dest else x.movingTo }
  others : ∀ k, k ≠ n → t.record? k = s.record? k
  check : t.check = ⟨if dest.isSome then .routing else .blocked, s.check.fault, none⟩
  asked : ∀ p, dest = some p → MoveAsked s t n .check p .centre
  moves : ∀ k, k ≠ n → t.move? k = s.move? k
  stays : dest = none → t.field.moves = s.field.moves
  places : ∀ p, dest ≠ some p → t.place p = s.place p
  keeps : KeepsAllBut [.moves, .records, .places, .check] s t

theorem route_leaves (hx : s.record? n = some x) (passing : Bool) : RoutedBy s (s.route n passing) n x (wayOut s x passing) := by
  have e := askOut_eq hx passing
  rcases hw : wayOut s x passing with _ | p
  · have er : s.route n passing = s.modCheck fun c => { c with condition := .blocked, current := none } := by
      rw [State.route, e, hw]; rfl
    rw [er]
    exact ⟨hx, fun _ _ => rfl, rfl, nofun, fun _ _ => rfl, fun _ => rfl, fun _ _ => rfl, by simp⟩
  · obtain ⟨hp, -, hm, -⟩ := wayOut_mem hw
    rw [record?_number hx] at hm
    have er : s.route n passing = (s.moveAsked n .check p .centre).modCheck fun c => { c with condition := .routing, current := none } := by
      rw [State.route, e, hw]; rfl
    rw [er]
    refine ⟨?_, fun k hk => (moveAsked_record? k).trans (if_neg hk), rfl, ?_, fun k hk => (moveAsked_move? hm k).trans (if_neg hk), nofun,
      fun q hq => moveAsked_place.trans (if_neg fun h => hq (by rw [h])), by simp [State.moveAsked]⟩
    · exact (moveAsked_record? n).trans ((if_pos rfl).trans (by rw [hx]; rfl))
    · rintro _ ⟨⟩
      exact ⟨(moveAsked_move? hm n).trans (if_pos rfl), moveAsked_place.trans (if_pos rfl)⟩

/-! ### The conclusion of a check (R89, R90) -/

theorem foldl_enterFault (l : List Code) (x : Record) : l.foldl Record.enterFault x = x.withFaults l := by
  induction l generalizing x with
  | nil => rw [withFaults_nil]; rfl
  | cons c l ih => rw [List.foldl_cons, ih, withFaults_cons]

/-- A record that a verdict has been given on. -/
def Record.judged (x : Record) (fails : List Code) (primary : Code) : Record :=
  { x.withFaults fails with
    verdict := some primary
    stage := if primary.passes then x.stage else .toReject
    ref := if primary.passes then x.ref else none }

/-- The report of the end of a check (R90). -/
def State.checkDoneReport (s : State) (x : Record) (primary : Code) (d : Option Int) : Report :=
  s.report .checkDone (noteOf x.number x.ref primary.number d)

/-- What is left where a verdict has been written to a record and its pallet routed. -/
structure ConcludedBy (s t : State) (n : Nat) (x : Record) (fails : List Code) (primary : Code) (d : Option Int) (dest : Option Place) :
    Prop where
  record : t.record? n = some { x.judged fails primary with movingTo := if dest.isSome then dest else x.movingTo }
  others : ∀ k, k ≠ n → t.record? k = s.record? k
  check : t.check = ⟨if dest.isSome then .routing else .blocked, s.check.fault, none⟩
  asked : ∀ p, dest = some p → MoveAsked s t n .check p .centre
  moves : ∀ k, k ≠ n → t.move? k = s.move? k
  stays : dest = none → t.field.moves = s.field.moves
  places : ∀ p, dest ≠ some p → t.place p = s.place p
  loads : primary.passes = true ∨ x.ref = none → t.plan.loads = s.plan.loads
  slot : primary.passes = false → ∀ ref sl, x.ref = some ref → s.slot? ref = some sl → t.slot? ref = some sl.rejected
  queues : Queues s t (s.checkDoneReport x primary d :: if primary.passes then [] else [s.rejectReport x primary])
  keeps : KeepsAllBut [.queue, .loads, .places, .moves, .records, .check] s t

/-- A record with faults entered and a verdict. -/
def Record.withVerdict (fails : List Code) (primary : Code) (x : Record) : Record :=
  { fails.foldl Record.enterFault x with verdict := some primary }

theorem withVerdict_eq (fails : List Code) (primary : Code) (x : Record) :
    x.withVerdict fails primary = { x.withFaults fails with verdict := some primary } := by
  rw [Record.withVerdict, foldl_enterFault]

/-- The verdict is written and CHECK_DONE raised. -/
def State.verdictWritten (s : State) (n : Nat) (fails : List Code) (primary : Code) (d : Option Int) : State :=
  (s.modRecord n (Record.withVerdict fails primary)).raise .checkDone
    (noteOf n ((s.modRecord n (Record.withVerdict fails primary)).refOf n) primary.number d)

theorem wayOut_congr {y : Record} (k : KeepsAllBut bs s t) (p : Bool) (hn : y.number = x.number) (hy : y.location = x.location) (hp : .places ∉ bs := by decide) (hl : .lanes ∉ bs := by decide)
    (hm : .moves ∉ bs := by decide) : wayOut t y p = wayOut s x p := by
  have e : t.hasRoom = s.hasRoom := funext fun q => k.hasRoom q hp hl
  unfold wayOut
  rw [hn, hy, k.move? _ hm, e]

section
variable {fails : List Code} {primary : Code} {d : Option Int} (hx : s.record? n = some x)
include hx

theorem verdictWritten_record? (k : Nat) : (s.verdictWritten n fails primary d).record? k
    = if k = n then some { x.withFaults fails with verdict := some primary } else s.record? k := by
  refine ((raise_keeps _ _ _).record? k).trans ((modRecord_record? k fun y => by rw [withVerdict_eq]; rfl).trans ?_)
  rw [hx, Option.map_some, withVerdict_eq]

theorem verdictWritten_queues : Queues s (s.verdictWritten n fails primary d) [s.checkDoneReport x primary d] := by
  have k : KeepsAllBut [.records] s (s.modRecord n (Record.withVerdict fails primary)) := by simp
  have hr : (s.modRecord n (Record.withVerdict fails primary)).record? n = some { x.withFaults fails with verdict := some primary } := by
    rw [modRecord_record? n fun y => by rw [withVerdict_eq]; rfl, if_pos rfl, hx, Option.map_some, withVerdict_eq]
  have q := (Queues.of_keeps k).trans (Queues.raise (s := s.modRecord n (Record.withVerdict fails primary))
    .checkDone (noteOf n x.ref primary.number d))
  unfold State.verdictWritten State.checkDoneReport
  rw [refOf_record hr, record?_number hx]
  exact q

end

theorem verdictWritten_keeps (s : State) (n : Nat) (fails : List Code) (primary : Code) (d : Option Int) :
    KeepsAllBut [.records, .queue] s (s.verdictWritten n fails primary d) := by
  simp [State.verdictWritten]

theorem conclude_leaves (hx : s.record? n = some x) (fails : List Code) (primary : Code) (d : Option Int) :
    ConcludedBy s (s.conclude n fails primary d) n x fails primary d (wayOut s x primary.passes) := by
  have kw := verdictWritten_keeps s n fails primary d
  have hw := verdictWritten_record? (fails := fails) (primary := primary) (d := d) hx
  have qw := verdictWritten_queues (fails := fails) (primary := primary) (d := d) hx
  have hwn := (hw n).trans (if_pos rfl)
  cases hp : primary.passes with
  | true =>
    have e : s.conclude n fails primary d = (s.verdictWritten n fails primary d).route n true := by
      unfold State.conclude
      dsimp only
      rw [if_pos hp]
      rfl
    have l := route_leaves hwn true
    have ew : wayOut (s.verdictWritten n fails primary d) { x.withFaults fails with verdict := some primary } true = wayOut s x true :=
      wayOut_congr kw true rfl rfl
    rw [ew] at l
    rw [e]
    refine ⟨?_, fun k hk => (l.others k hk).trans ((hw k).trans (if_neg hk)), ?_, fun p h => (l.asked p h).of_keeps kw,
      fun k hk => (l.moves k hk).trans (kw.move? k), fun h => (l.stays h).trans (kw .moves (by decide)),
      fun p h => (l.places p h).trans (kw.place p), fun _ => (l.keeps .loads (by decide)).trans (kw .loads (by decide)),
      fun h => absurd (hp.symm.trans h) (by decide), ?_, (kw.mono (by simp)).trans (l.keeps.mono (by simp))⟩
    · rw [l.record]
      unfold Record.judged
      rw [hp]
      rfl
    · rw [l.check, kw .check (by decide)]
    · rw [hp]
      simpa using qw.trans (.of_keeps l.keeps)
  | false =>
    have e : s.conclude n fails primary d
        = (((s.verdictWritten n fails primary d).setStage n .toReject).reject n primary).route n false := by
      unfold State.conclude
      dsimp only
      rw [if_neg (by rw [hp]; decide)]
      rfl
    have ks : KeepsAllBut [.records] (s.verdictWritten n fails primary d) ((s.verdictWritten n fails primary d).setStage n .toReject) := by simp
    have hs (k : Nat) := setStage_record? (s := s.verdictWritten n fails primary d) (n := n) (st := .toReject) k
    have kr := reject_keeps ((s.verdictWritten n fails primary d).setStage n .toReject) n primary
    have hsn := (hs n).trans ((if_pos rfl).trans (by rw [hwn, Option.map_some]))
    have kwr := (kw.mono (cs := [.records, .queue, .loads]) (by simp)).trans ((ks.mono (by simp)).trans (kr.mono (by simp)))
    rw [e]
    generalize hv : (s.verdictWritten n fails primary d).setStage n .toReject = v at *
    have hr (k : Nat) := reject_record? (s := v) (n := n) (c := primary) k
    have hrn := (hr n).trans ((if_pos rfl).trans (by rw [hsn, Option.map_some]))
    have l := route_leaves hrn false
    have ew : wayOut (v.reject n primary) { x.withFaults fails with verdict := some primary, stage := .toReject, ref := none } false
        = wayOut s x false := wayOut_congr kwr false rfl rfl
    rw [ew] at l
    have kwv : KeepsAllBut [.records, .queue] s v := (kw.mono (by simp)).trans (ks.mono (by simp))
    have qr := reject_queues hsn primary
    refine ⟨?_, fun k hk => (l.others k hk).trans ?_, ?_, fun p h => (l.asked p h).of_keeps kwr,
      fun k hk => (l.moves k hk).trans (kwr.move? k), fun h => (l.stays h).trans (kwr .moves (by decide)),
      fun p h => (l.places p h).trans (kwr.place p), fun h => ?_, fun _ ref sl hxr hsl => ?_, ?_, (kwr.mono (by simp)).trans (l.keeps.mono (by simp))⟩
    · rw [l.record]
      unfold Record.judged
      rw [hp]
      rfl
    · rw [hr k, if_neg hk, hs k, if_neg hk, hw k, if_neg hk]
    · rw [l.check, kwr .check (by decide)]
    · have hx0 : x.ref = none := h.resolve_left (by rw [hp]; decide)
      refine (l.keeps .loads (by decide)).trans ((reject_loads hsn primary).trans ?_)
      dsimp only [Record.withFaults]
      rw [hx0]
      exact kwv .loads (by decide)
    · rw [l.keeps.slot? ref (by decide)]
      exact reject_slot? hsn hxr (by rw [kwv.slot? ref (by decide)]; exact hsl) primary
    · have q := ((qw.trans (.of_keeps ks)).trans qr).trans (.of_keeps l.keeps)
      rw [rejectReport_congr kwv] at q
      rw [if_neg (by rw [hp]; decide)]
      exact q

end Sys2Proof.Machine
end

section
/-! SUPPORT. The verdict of a check (R89): the conditions that fail, the verdict on mass, and what giving the verdict leaves. -/

namespace Sys2Proof.Machine

open State

variable {bs : List Block} {r s t u : State} {n : Nat} {ref : LoadRef} {x : Record} {c : Check} {mv : Option (Code × Int × Nat)}

/-! ### The tolerance and the verdict on mass (R101 to R103) -/

theorem bandFor_of_used {l : List Band} {net : Nat} {b : Band} (h : BandUsed l net b) : bandFor l net = some b := by
  obtain ⟨before, after, rfl, hb, h⟩ := h
  have none : before.find? (fun b => decide (net < b.edge)) = none := by
    rw [List.find?_eq_none]
    intro y hy
    have := hb y hy
    simp only [decide_eq_true_eq]
    omega
  unfold bandFor
  rw [List.find?_append, none, Option.none_or, List.find?_cons]
  by_cases hn : net < b.edge
  · simp [hn]
  · obtain rfl := h.resolve_left hn
    simp [hn]

theorem tolerance_of_used {l : List Band} {net : Nat} {b : Band} (h : BandUsed l net b) (ceiling : Nat) :
    tolerance l net ceiling = min ceiling (b.fixed + net * b.perMille / 1000) := by
  rw [tolerance, bandFor_of_used h]

theorem massVerdict_is (d : Int) (t : Nat) : MassVerdict d t (massVerdict d t) := by
  unfold massVerdict MassVerdict
  by_cases ho : (t : Int) < d
  · simp [ho]
  by_cases hu : d < -(t : Int)
  · simp [ho, hu]
  by_cases hp : 2 * d.natAbs ≤ t
  · simp [ho, hu, hp]; omega
  · simp [ho, hu, hp]; omega

/-- D, T and the verdict on mass, in the order of the rules' words. -/
def onMassOf (mv : Option (Code × Int × Nat)) : Option (Int × Nat × Code) := mv.map fun (v, d, t) => (d, t, v)

theorem onMassOf_code : (onMassOf mv).map (·.2.2) = mv.map (·.1) := by cases mv <;> rfl

theorem onMassOf_deviation : (onMassOf mv).map (·.1) = mv.map (·.2.1) := by cases mv <;> rfl

/-! ### The conditions that fail (R89) -/

/-- PROFILE_MISSING, when the profile part failed. -/
def profileFaults (c : Check) : List Code := match c.profile with | .failed _ => [.profileMissing] | _ => []

/-- OVERHANG, when the profile shows one. -/
def overhangFaults (c : Check) (x : Record) : List Code :=
  match c.profile, x.overhang with
  | .present, some o => if o.front || o.back || o.left || o.right then [.overhang] else []
  | _, _ => []

/-- HEIGHT, when the profile is above the limit of the load. -/
def heightFaults (c : Check) (x : Record) (l : Option Load) : List Code :=
  match c.profile, x.height, l with
  | .present, some h, some l => if l.heightLimit < h then [.height] else []
  | _, _, _ => []

/-- OVER or UNDER, by the verdict on mass. -/
def massFaults (mv : Option (Code × Int × Nat)) : List Code :=
  match mv with
  | some (.over, _, _) => [.over]
  | some (.under, _, _) => [.under]
  | _ => []

theorem failing_eq (s : State) (c : Check) (x : Record) (mv : Option (Code × Int × Nat)) : s.failing c x mv
    = (if c.tag == .failed .noTag then [.noTag] else []) ++ (if x.mark == some .unplanned then [.unplanned] else [])
      ++ (if x.mark == some .duplicate then [.duplicate] else []) ++ (if c.mass == .failed .overload then [.overload] else [])
      ++ (if c.mass == .failed .unstable then [.unstable] else []) ++ profileFaults c ++ overhangFaults c x
      ++ heightFaults c x (x.ref.bind fun ref => s.load? ref.load) ++ massFaults mv := rfl

theorem failing_sublist (s : State) (c : Check) (x : Record) (mv : Option (Code × Int × Nat)) : (s.failing c x mv).Sublist checkOrder := by
  have one {p : Prop} [Decidable p] {a : Code} : (if p then [a] else []).Sublist [a] := by split <;> simp
  have e : checkOrder = [.noTag] ++ [.unplanned] ++ [.duplicate] ++ [.overload] ++ [.unstable] ++ [.profileMissing] ++ [.overhang]
    ++ [.height] ++ [.over, .under] := rfl
  rw [e, failing_eq]
  refine .append (.append (.append (.append (.append (.append (.append (.append one one) one) one) one) ?_) ?_) ?_) ?_
  · unfold profileFaults; split <;> simp
  · unfold overhangFaults
    split
    · exact one
    · simp
  · unfold heightFaults
    split
    · exact one
    · simp
  · unfold massFaults; split <;> simp

theorem mem_profileFaults (a : Code) : a ∈ profileFaults c ↔ (∃ k, c.profile = .failed k) ∧ a = .profileMissing := by
  unfold profileFaults
  cases c.profile <;> simp

theorem mem_overhangFaults (a : Code) : a ∈ overhangFaults c x
    ↔ (c.profile = .present ∧ ∃ o, x.overhang = some o ∧ o ≠ ⟨false, false, false, false⟩) ∧ a = .overhang := by
  unfold overhangFaults
  cases c.profile <;> rcases x.overhang with _ | ⟨f, b, l, r⟩ <;> simp
  cases f <;> cases b <;> cases l <;> cases r <;> simp

theorem mem_heightFaults (l : Option Load) (a : Code) : a ∈ heightFaults c x l
    ↔ (c.profile = .present ∧ ∃ h k, x.height = some h ∧ l.map (·.heightLimit) = some k ∧ k < h) ∧ a = .height := by
  unfold heightFaults
  cases c.profile <;> rcases x.height with _ | h <;> rcases l with _ | l <;> simp

theorem mem_massFaults (a : Code) : a ∈ massFaults mv
    ↔ (mv.map (·.1) = some .over ∧ a = .over) ∨ (mv.map (·.1) = some .under ∧ a = .under) := by
  unfold massFaults
  rcases mv with _ | ⟨v, d, t⟩
  · simp
  · cases v <;> simp

theorem mem_failing (a : Code) : a ∈ s.failing c x mv
    ↔ CheckFails c x ((x.ref.bind fun ref => s.load? ref.load).map (·.heightLimit)) (mv.map (·.1)) a := by
  rw [failing_eq]
  simp only [List.mem_append, mem_profileFaults, mem_overhangFaults, mem_heightFaults, mem_massFaults, List.mem_ite_nil_right,
    List.mem_singleton, beq_iff_eq]
  cases a <;> simp [CheckFails]

/-- No failing condition passes a pallet. -/
theorem passes_of_mem_checkOrder {a : Code} (h : a ∈ checkOrder) : a.passes = false := by
  revert a; decide

/-- The primary verdict: the first failing condition, or with none the verdict on mass (R89). -/
def primaryOf (fails : List Code) (mv : Option (Code × Int × Nat)) : Code := ((fails ++ (mv.map (·.1)).toList).head?).getD .noTag

theorem primaryOf_failing {a : Code} (h : a ∈ s.failing c x mv) :
    (s.failing c x mv).head? = some (primaryOf (s.failing c x mv) mv) ∧ (primaryOf (s.failing c x mv) mv).passes = false := by
  have hs := failing_sublist s c x mv
  rcases e : s.failing c x mv with _ | ⟨b, l⟩
  · rw [e] at h; cases h
  · rw [e] at hs
    exact ⟨rfl, passes_of_mem_checkOrder (hs.subset (List.mem_cons_self ..))⟩

/-! ### Giving the verdict (R88, R89) -/

/-- The record with D and T written, when they were computed. -/
def Record.weighed (x : Record) (mv : Option (Code × Int × Nat)) : Record :=
  { x with deviation := match mv with | some (_, d, t) => some (d, t) | none => x.deviation }

/-- The line as the verdict is given: the capture and the reads ended, D and T written, the counter raised. -/
def State.weighed (s : State) (c : Check) (x : Record) : State :=
  (((s.closeCapture.endReads .check c.track).modRecord c.track fun y => y.weighed (s.massOf c x)).countVerdict c (s.massOf c x))

theorem closing_keeps (s : State) (c : Check) : KeepsAllBut [.mass, .sent, .scanners] s (s.closeCapture.endReads .check c.track) := by
  simp

theorem massOf_congr (k : KeepsAllBut bs s t) (c : Check) (x : Record) (hl : .loads ∉ bs := by decide) (hb : .bands ∉ bs := by decide)
    (hs : .settings ∉ bs := by decide) : t.massOf c x = s.massOf c x := by
  have eb : t.plan.bands = s.plan.bands := k .bands hb
  have e : t.slot? = s.slot? := funext fun ref => k.slot? ref hl
  unfold State.massOf
  rw [e, eb, k.setting _ hs]

theorem failing_congr (k : KeepsAllBut bs s t) (c : Check) (x : Record) (mv : Option (Code × Int × Nat)) (hl : .loads ∉ bs := by decide) :
    t.failing c x mv = s.failing c x mv := by
  have e : t.load? = s.load? := funext fun id => k.load? id hl
  unfold State.failing
  rw [e]

theorem giveVerdict_eq (hc : s.check.current = some c) (hx : s.record? c.track = some x) : s.giveVerdict
    = (s.weighed c x).conclude c.track (s.failing c x (s.massOf c x)) (primaryOf (s.failing c x (s.massOf c x)) (s.massOf c x))
        ((s.massOf c x).map (·.2.1)) := by
  have k := closing_keeps s c
  have em := massOf_congr k c x
  have ef (mv) := failing_congr (t := (s.closeCapture.endReads .check c.track).modRecord c.track fun y => y.weighed mv) (bs := [.mass, .sent, .scanners, .records])
    (k.mono (by simp) |>.trans (by simp)) c x mv
  unfold State.giveVerdict
  simp only [hc, (k.record? c.track).trans hx, em]
  unfold State.weighed primaryOf
  rw [← ef]
  rfl

theorem countVerdict_keeps (s : State) (c : Check) (mv : Option (Code × Int × Nat)) : KeepsAllBut [.queue, .counters] s (s.countVerdict c mv) := by
  unfold State.countVerdict
  dsimp only
  split
  · split <;> simp
  · split <;> simp

/-- The counter a verdict on mass raises (R104). -/
def massCounter (mv : Option (Code × Int × Nat)) : Option Counter :=
  match mv with
  | some (.over, _, _) => some .over
  | some (.under, _, _) => some .under
  | some (.passMarginal, _, _) => some .marginal
  | _ => none

/-- The counter of a verdict on mass raised, if it has one. -/
def State.massCounted (s : State) (mv : Option (Code × Int × Nat)) : State :=
  match massCounter mv with
  | some k => s.count k
  | none => s

theorem countVerdict_eq : s.countVerdict c mv
    = if c.mass == .failed .unstable then (s.massCounted mv).count .unstable else s.massCounted mv := by
  rcases mv with _ | ⟨v, d, t⟩
  · rfl
  · cases v <;> rfl

theorem massCounted_queues (s : State) (mv : Option (Code × Int × Nat)) : ∃ new, new.length ≤ 1 ∧ Queues s (s.massCounted mv) new := by
  unfold State.massCounted
  split
  · exact ⟨_, Queues.halfReports_length _ _, .count _ _⟩
  · exact ⟨[], by simp, .refl _⟩

theorem countVerdict_of_stable (h : c.mass ≠ .failed .unstable) : s.countVerdict c mv = s.massCounted mv := by
  rw [countVerdict_eq, if_neg (by simpa using h)]

theorem weighed_keeps (s : State) (c : Check) (x : Record) :
    KeepsAllBut [.mass, .sent, .scanners, .records, .queue, .counters] s (s.weighed c x) := by
  have kr : KeepsAllBut [.records] (s.closeCapture.endReads .check c.track)
      ((s.closeCapture.endReads .check c.track).modRecord c.track fun y => y.weighed (s.massOf c x)) := by simp
  exact (((closing_keeps s c).mono (by simp)).trans (kr.mono (by simp))).trans ((countVerdict_keeps _ c _).mono (by simp))

theorem weighed_record? (hx : s.record? c.track = some x) (k : Nat) :
    (s.weighed c x).record? k = if k = c.track then some (x.weighed (s.massOf c x)) else s.record? k := by
  refine ((countVerdict_keeps _ c _).record? k).trans ((modRecord_record? (f := fun y => y.weighed (s.massOf c x)) k fun _ => rfl).trans ?_)
  rw [(closing_keeps s c).record?, (closing_keeps s c).record?, hx]
  rfl

theorem weighed_mass : (s.weighed c x).mass = if s.mass.capture.isSome then { s.mass with capture := none, settleEnd := none, limit := none }
    else s.mass := by
  have kr : KeepsAllBut [.records, .scanners, .queue, .counters] s.closeCapture (s.weighed c x) := by
    have ke : KeepsAllBut [.records, .scanners] s.closeCapture
      ((s.closeCapture.endReads .check c.track).modRecord c.track fun y => y.weighed (s.massOf c x)) := by simp
    exact (ke.mono (by simp)).trans ((countVerdict_keeps _ c _).mono (by simp))
  rw [kr .mass (by decide), State.closeCapture]
  split <;> rfl

theorem weighed_keeps_closed (h : s.mass.capture = none) (c : Check) (x : Record) :
    KeepsAllBut [.scanners, .records, .queue, .counters] s (s.weighed c x) := by
  have e : s.closeCapture = s := if_neg (by rw [h]; nofun)
  have kr : KeepsAllBut [.scanners, .records] s ((s.endReads .check c.track).modRecord c.track fun y => y.weighed (s.massOf c x)) := by simp
  unfold State.weighed
  rw [e]
  exact (kr.mono (by simp)).trans ((countVerdict_keeps _ c _).mono (by simp))

/-- A verdict raises at most one report of a counter for each of its two counts. -/
theorem weighed_queues (s : State) (c : Check) (x : Record) : ∃ new, new.length ≤ 2 ∧ Queues s (s.weighed c x) new := by
  have ke : KeepsAllBut [.records, .scanners, .mass, .sent] s
      ((s.closeCapture.endReads .check c.track).modRecord c.track fun y => y.weighed (s.massOf c x)) := by simp
  unfold State.weighed
  rw [countVerdict_eq]
  obtain ⟨new, hn, q⟩ := massCounted_queues ((s.closeCapture.endReads .check c.track).modRecord c.track fun y => y.weighed (s.massOf c x))
    (s.massOf c x)
  have qe := (Queues.of_keeps ke).trans q
  split
  · have hh := Queues.halfReports_length (((s.closeCapture.endReads .check c.track).modRecord c.track
      fun y => y.weighed (s.massOf c x)).massCounted (s.massOf c x)) .unstable
    exact ⟨_, by simp only [List.nil_append, List.length_append]; omega, qe.trans (.count _ _)⟩
  · exact ⟨_, by simp only [List.nil_append]; omega, qe⟩

/-- The counter of a verdict on mass is raised once, with its report. -/
theorem weighed_raised {k : Counter} (h : c.mass ≠ .failed .unstable) (hk : massCounter (s.massOf c x) = some k) :
    (s.weighed c x).link.counters = s.counted k ∧ Queues s (s.weighed c x) (halfReports s k) := by
  have ke : KeepsAllBut [.records, .scanners, .mass, .sent] s
      ((s.closeCapture.endReads .check c.track).modRecord c.track fun y => y.weighed (s.massOf c x)) := by simp
  unfold State.weighed
  rw [countVerdict_of_stable h, State.massCounted, hk]
  refine ⟨(count_counters _ _).trans (counted_congr ke _), ?_⟩
  rw [← halfReports_congr ke]
  exact (Queues.of_keeps ke).trans (.count _ _)

theorem weighed_unraised (h : c.mass ≠ .failed .unstable) (hk : massCounter (s.massOf c x) = none) :
    KeepsAllBut [.mass, .sent, .scanners, .records] s (s.weighed c x) := by
  unfold State.weighed
  rw [countVerdict_of_stable h, State.massCounted, hk]
  simp

/-- What giving the verdict leaves: the pallet weighed, its verdict concluded. -/
theorem giveVerdict_leaves (hc : s.check.current = some c) (hx : s.record? c.track = some x) :
    ConcludedBy (s.weighed c x) s.giveVerdict c.track (x.weighed (s.massOf c x)) (s.failing c x (s.massOf c x))
      (primaryOf (s.failing c x (s.massOf c x)) (s.massOf c x)) ((s.massOf c x).map (·.2.1))
      (wayOut s x (primaryOf (s.failing c x (s.massOf c x)) (s.massOf c x)).passes) := by
  rw [giveVerdict_eq hc hx]
  have l := conclude_leaves ((weighed_record? hx c.track).trans (if_pos rfl)) (s.failing c x (s.massOf c x))
    (primaryOf (s.failing c x (s.massOf c x)) (s.massOf c x)) ((s.massOf c x).map (·.2.1))
  rwa [wayOut_congr (x := x) (y := x.weighed (s.massOf c x)) (weighed_keeps s c x) _ rfl rfl] at l

end Sys2Proof.Machine
end

section
/-! SUPPORT. The verdict of a check, in the words of R89 and R90. -/

namespace Sys2Proof.Machine

open State

variable {bs : List Block} {r s t u : State} {n : Nat} {ref : LoadRef} {x : Record} {c : Check} {mv : Option (Code × Int × Nat)}

theorem KeepsAllBut.drop {b : Block} (k : KeepsAllBut (b :: bs) s t) (h : b.Same s t) : KeepsAllBut bs s t := by
  intro a ha
  by_cases e : a = b
  · rw [e]; exact h
  · exact k a (by simp [e, ha])

/-- A state whose loads are those of another but for the state of slots and the pallets that claim them. -/
structure SamePlan (s u : State) : Prop where
  limit : ∀ id, (u.load? id).map (·.heightLimit) = (s.load? id).map (·.heightLimit)
  slot : ∀ ref, (u.slot? ref).map Slot.rejected = (s.slot? ref).map Slot.rejected

theorem SamePlan.of_keeps (k : KeepsAllBut bs s u) (h : .loads ∉ bs := by decide) : SamePlan s u :=
  ⟨fun id => by rw [k.load? id h], fun ref => by rw [k.slot? ref h]⟩

/-- The slot read after such a change: its masses and rejects are those before. -/
theorem SamePlan.rejected (p : SamePlan s u) {sl : Slot} (h : s.slot? ref = some sl) :
    ∃ sl', u.slot? ref = some sl' ∧ sl'.rejected = sl.rejected := by
  have e := p.slot ref
  rw [h, Option.map_some, Option.map_eq_some_iff] at e
  exact e

theorem SamePlan.heightLimit (p : SamePlan s u) (x : Record) : (x.ref.bind fun ref => u.load? ref.load).map (·.heightLimit)
    = (x.ref.bind fun ref => s.load? ref.load).map (·.heightLimit) := by
  rcases x.ref with _ | ref
  · rfl
  · exact p.limit ref.load

/-- What the mass part gives the verdict, computed on a state with the same plan, bands and settings (R89, R101 to R103). -/
theorem massJudged_of_massOf (p : SamePlan s u) (hb : u.plan.bands = s.plan.bands) (hs : u.setting .toleranceMax = s.setting .toleranceMax) :
    MassJudged s c x (onMassOf (u.massOf c x)) := by
  unfold State.massOf
  rw [hb, hs]
  constructor
  · intro ref sl m hc hr hsl hm
    obtain ⟨sl', hsl', e⟩ := p.rejected hsl
    have hn := congrArg Slot.net e
    have hg := congrArg Slot.gross e
    change sl'.net = sl.net at hn
    change sl'.gross = sl.gross at hg
    simp only [hc, hr, Option.bind_some, hsl', hm, hn, hg]
    exact ⟨_, _, rfl, massVerdict_is _ _, fun b h => tolerance_of_used h _⟩
  · rintro (h | h)
    · rcases e : c.mass with _ | _ | _
      · rfl
      · exact absurd e h
      · rfl
    · rw [h]
      cases c.mass <;> rfl

theorem massOf_verdict {v : Code} {d : Int} {t : Nat} (h : s.massOf c x = some (v, d, t)) : v = massVerdict d t := by
  unfold State.massOf at h
  split at h
  · cases h; rfl
  · cases h

/-- A verdict can be given: a condition fails, or there is a verdict on mass. -/
def Decided (s : State) (c : Check) (x : Record) : Prop := (∃ a, a ∈ s.failing c x (s.massOf c x)) ∨ (s.massOf c x).isSome = true

/-- The primary verdict is the first failing condition, or with none the verdict on mass (R89). -/
theorem primaryOf_decided (h : Decided s c x) :
    (s.failing c x (s.massOf c x)).head? = some (primaryOf (s.failing c x (s.massOf c x)) (s.massOf c x))
      ∨ (s.failing c x (s.massOf c x) = [] ∧ (s.massOf c x).map (·.1) = some (primaryOf (s.failing c x (s.massOf c x)) (s.massOf c x))) := by
  rcases h with ⟨a, ha⟩ | h
  · exact .inl (primaryOf_failing ha).1
  · rcases e : s.failing c x (s.massOf c x) with _ | ⟨a, l⟩
    · obtain ⟨⟨v, d, t⟩, hm⟩ := Option.isSome_iff_exists.mp h
      rw [hm]
      exact .inr ⟨rfl, rfl⟩
    · exact .inl rfl

/-- A pallet passes exactly when no condition fails (R90). -/
theorem primaryOf_passes (h : Decided s c x) :
    (primaryOf (s.failing c x (s.massOf c x)) (s.massOf c x)).passes = decide (s.failing c x (s.massOf c x) = []) := by
  rcases e : s.failing c x (s.massOf c x) with _ | ⟨a, l⟩
  · have none {a : Code} : a ∉ s.failing c x (s.massOf c x) := by rw [e]; exact List.not_mem_nil
    obtain ⟨⟨v, d, t⟩, hm⟩ := Option.isSome_iff_exists.mp (h.resolve_left fun ⟨a, ha⟩ => none ha)
    have ho : v ≠ .over := fun ho => none (mem_failing (a := .over) |>.mpr (by rw [hm, ho]; rfl))
    have hu : v ≠ .under := fun hu => none (mem_failing (a := .under) |>.mpr (by rw [hm, hu]; rfl))
    have hv := massOf_verdict hm
    rw [hm]
    show v.passes = true
    rcases massVerdict_is d t with ⟨-, -, -, p⟩ | ⟨-, -, -, p⟩ | ⟨-, p⟩ | ⟨-, p⟩
    · rw [hv, p]; rfl
    · rw [hv, p]; rfl
    · exact absurd (hv.trans p) ho
    · exact absurd (hv.trans p) hu
  · have hp := (primaryOf_failing (s := s) (c := c) (x := x) (mv := s.massOf c x) (a := a) (by rw [e]; exact List.mem_cons_self ..)).2
    rw [e] at hp
    rw [hp]
    rfl

/-- What a verdict rests on: a check whose parts are resolved, on a line on which only records, slots claimed, the check, mass, reads and
reports have changed; after it the next read may be sent. -/
structure VerdictRun (s u v : State) (c : Check) (x : Record) : Prop where
  current : u.check.current = some c
  record : u.record? c.track = some x
  before : KeepsAllBut [.records, .loads, .check, .mass, .sent, .scanners, .queue] s u
  queue : ∃ new, new.length ≤ 4 ∧ Queues s u new
  plan : SamePlan s u
  after : KeepsAllBut [.scanners, .sent] u.giveVerdict v

theorem VerdictRun.settled (h : VerdictRun s u v c x) : KeepsAllBut (.scanners :: .sent :: derived) u.giveVerdict v.settle :=
  (h.after.mono (by simp)).trans ((settle_keeps _).mono (by simp))

/-- The record once its verdict is given. -/
theorem VerdictRun.record_after (h : VerdictRun s u v c x) : ∃ dest, v.settle.record? c.track
    = some { (x.weighed (u.massOf c x)).judged (u.failing c x (u.massOf c x)) (primaryOf (u.failing c x (u.massOf c x)) (u.massOf c x)) with
        movingTo := dest } :=
  ⟨_, (h.settled.record? c.track).trans (giveVerdict_leaves h.current h.record).record⟩

/-- A pallet that passes, or has no load reference, leaves the loads as they were. -/
theorem VerdictRun.loads (h : VerdictRun s u v c x)
    (hp : (primaryOf (u.failing c x (u.massOf c x)) (u.massOf c x)).passes = true ∨ x.ref = none) : v.settle.plan.loads = u.plan.loads :=
  (h.settled .loads (by decide)).trans (((giveVerdict_leaves h.current h.record).loads hp).trans (weighed_keeps u c x .loads (by decide)))

/-- The verdict given, in the words of R89 and R90. -/
theorem VerdictRun.given (h : VerdictRun s u v c x) (hd : Decided u c x) : VerdictGiven s v.settle c x (onMassOf (u.massOf c x)) := by
  have l := giveVerdict_leaves h.current h.record
  have kt := h.settled
  have hn : x.number = c.track := record?_number h.record
  have ks : KeepsAllBut [.records, .loads, .check, .mass, .sent, .scanners, .queue, .counters] s (u.weighed c x) :=
    (h.before.mono (by simp)).trans ((weighed_keeps u c x).mono (by simp))
  have hmem (a : Code) := mem_failing (s := u) (c := c) (x := x) (mv := u.massOf c x) a
  rw [h.plan.heightLimit] at hmem
  have hpass := primaryOf_passes hd
  have hfirst := primaryOf_decided hd
  have hsub := failing_sublist u c x (u.massOf c x)
  obtain ⟨new, hnew, q⟩ := h.queue
  obtain ⟨counts, hcounts, qw⟩ := weighed_queues u c x
  have qt := ((q.trans qw).trans l.queues).trans (.of_keeps h.after)
  rw [wayOut_congr (x := x) (y := x) h.before _ rfl rfl] at l
  have plan := h.plan
  have kw := weighed_keeps u c x
  generalize primaryOf (u.failing c x (u.massOf c x)) (u.massOf c x) = primary at *
  generalize u.failing c x (u.massOf c x) = fails at *
  generalize u.massOf c x = mv at *
  have hlen {a b : Report} : (new ++ counts ++ (a :: if primary.passes then [] else [b]) ++ []).length ≤ 32 := by
    split <;> simp <;> omega
  have pass {α : Type} (a b : α) : (if primary.passes then a else b) = if fails = [] then a else b := by
    rw [hpass]; simp
  have hrec : (x.weighed mv).judged fails primary = { x.withFaults fails with
        deviation := match onMassOf mv with | some (d, T, _) => some (d, T) | none => x.deviation
        verdict := some primary
        stage := if fails = [] then x.stage else .toReject
        ref := if fails = [] then x.ref else none } := by
    unfold Record.judged Record.weighed Record.withFaults
    rw [pass, pass]
    rcases mv with _ | ⟨v, d, t⟩ <;> rfl
  have hn' : ((x.weighed mv).judged fails primary).number = c.track := hn
  refine ⟨fails, primary, (x.weighed mv).judged fails primary, hsub, fun a => by rw [hmem a, onMassOf_code],
    by rw [onMassOf_code]; exact hfirst, hrec, ⟨_, by rw [hn]; exact (kt.record? _).trans l.record⟩, fun hloc hmove => ⟨wayOut s x primary.passes, ?way, ?record, ?condition, ?asked, ?stays⟩, ?current, ?weighing,
    fun ref sl hf hr hs => ?slot, fun hq => ?done, fun hq hf => ?reject⟩
  case way =>
    rw [wayOut, if_pos ⟨hloc, hmove⟩, waysOut, pass]
  case record => exact (congrArg v.settle.record? hn').trans ((kt.record? _).trans l.record)
  case condition => rw [kt .check (by decide), l.check]
  case asked =>
    intro p hp
    rw [hn']
    exact ((l.asked p hp).of_keeps ks).to_keeps kt
  case stays =>
    intro hd
    refine ⟨?_, fun p _ => (kt.place p).trans ((l.places p (by rw [hd]; nofun)).trans (ks.place p))⟩
    have e : u.giveVerdict.move? c.track = (u.weighed c x).move? c.track := by unfold State.move?; rw [l.stays hd]
    rw [hn', kt.move?, e, ks.move?, ← hn, hmove]
  case current => rw [kt .check (by decide), l.check]
  case weighing => rw [kt .check (by decide), l.check]; split <;> nofun
  case slot =>
    obtain ⟨sl', hsl', e⟩ := plan.rejected hs
    rw [kt.slot?, ← e]
    exact l.slot (by rw [hpass]; simpa using hf) ref sl' hr ((kw.slot? ref).trans hsl')
  case done =>
    refine qt.reported (x := (u.weighed c x).checkDoneReport (x.weighed mv) primary (mv.map fun m : Code × Int × Nat => m.2.1)) (by simp) rfl ⟨rfl, rfl, rfl, onMassOf_deviation.symm⟩ hq hlen
  case reject =>
    refine qt.reported (x := (u.weighed c x).rejectReport (x.weighed mv) primary) ?_ rfl ⟨rfl, rfl, rfl⟩ hq hlen
    rw [pass, if_neg hf]
    exact List.mem_append_left _ (List.mem_append_right _ (List.mem_cons_of_mem _ (List.mem_singleton_self _)))

end Sys2Proof.Machine
end

section
/-! PROOF. O24: a stable window gives the verdict on mass. -/

namespace Sys2Proof.Machine

open State

variable {bs : List Block} {r s t u v : State} {n : Nat} {ref : LoadRef} {x : Record} {c : Check} {cap : Capture} {g : Int}
  {old win : List Int}

/-! ### The window of a capture (R96, R97) -/

theorem foldl_max_mem (l : List Int) (a : Int) : l.foldl max a ∈ a :: l := by
  induction l generalizing a with
  | nil => simp
  | cons b l ih =>
    rw [List.foldl_cons]
    rcases List.mem_cons.mp (ih (max a b)) with h | h
    · rw [h]; rcases max_choice a b with e | e <;> simp [e]
    · simp [h]

theorem foldl_min_mem (l : List Int) (a : Int) : l.foldl min a ∈ a :: l := by
  induction l generalizing a with
  | nil => simp
  | cons b l ih =>
    rw [List.foldl_cons]
    rcases List.mem_cons.mp (ih (min a b)) with h | h
    · rw [h]; rcases min_choice a b with e | e <;> simp [e]
    · simp [h]

theorem spread_le {w : Int} (hw : 0 ≤ w) (h : ∀ x ∈ win, ∀ y ∈ win, x - y ≤ w) : spread win ≤ w := by
  cases win with
  | nil => exact hw
  | cons a l => exact h _ (foldl_max_mem l a) _ (foldl_min_mem l a)

/-- The window after a reading is the last readings, as many as it holds. -/
theorem enter_eq (hs : 0 < cap.size) (hl : cap.window.length ≤ cap.size) (h : cap.window ++ [g] = old ++ win) (hw : win.length = cap.size) :
    cap.enter g = win := by
  have hlen : cap.window.length + 1 = old.length + cap.size := by rw [← hw, ← List.length_append, ← h]; simp
  have hd : (cap.window ++ [g]).drop old.length = win := by rw [h, List.drop_left]
  unfold Capture.enter
  split
  · rw [← hd, show cap.window.length + 1 - cap.size = old.length by omega, List.drop_append_of_le_length (by omega)]
  · have h0 : old = [] := List.length_eq_zero_iff.mp (by omega)
    rw [h, h0, List.nil_append]

/-- The mean of a full window, by the quotient that the rule rounds to (R97). -/
theorem mean_eq {q : Int} (hs : 0 < cap.size) (hd : 0 < cap.division)
    (h1 : q * (cap.size * cap.division) ≤ win.sum + (cap.size * cap.division) / 2)
    (h2 : win.sum + (cap.size * cap.division) / 2 < (q + 1) * (cap.size * cap.division)) :
    { cap with window := win }.mean = q * cap.division := by
  have hk : (0 : Int) < cap.size * cap.division := by positivity
  have e : (win.sum + ((cap.size : Int) * cap.division) / 2) / (cap.size * cap.division) = q :=
    (Int.ediv_eq_iff_of_pos hk).mpr ⟨h1, by linarith⟩
  unfold Capture.mean
  dsimp only
  rw [e]

/-! ### The mass part resolved (R98, R100) -/

theorem modRecord_id (s : State) (n : Nat) : s.modRecord n id = s := by
  simp [State.modRecord, State.modTrack]

/-- The line as a capture of a check closes with its mass part resolved. -/
def State.massResolved (s : State) (n : Nat) (f : Record → Record) (p : Part) : State :=
  (s.closeCapture.modRecord n f).modCurrent fun c => { c with mass := p }

theorem massResolved_keeps (s : State) (n : Nat) (f : Record → Record) (p : Part) :
    KeepsAllBut [.mass, .sent, .records, .check] s (s.massResolved n f p) := by
  simp [State.massResolved, State.modCurrent]

theorem massResolved_record? {f : Record → Record} (hf : ∀ x, (f x).number = x.number) (p : Part) (k : Nat) :
    (s.massResolved n f p).record? k = if k = n then (s.record? n).map f else s.record? k := by
  have k1 : KeepsAllBut [.mass, .sent] s s.closeCapture := by simp
  refine (modRecord_record? (s := s.closeCapture) (f := f) k hf).trans ?_
  rw [k1.record?, k1.record?]

theorem massResolved_check (hc : s.check.current = some c) (f : Record → Record) (p : Part) :
    (s.massResolved n f p).check.current = some { c with mass := p } := by
  have k1 : KeepsAllBut [.mass, .sent, .records] s (s.closeCapture.modRecord n f) := by simp
  show ((s.closeCapture.modRecord n f).check.current).map _ = _
  rw [k1 .check (by decide), hc]
  rfl

theorem massResolved_mass (h : s.mass.capture.isSome = true) (f : Record → Record) (p : Part) :
    (s.massResolved n f p).mass = { s.mass with capture := none, settleEnd := none, limit := none }
      ∧ (s.massResolved n f p).sent = s.sent ++ [.hush] := by
  have e : s.closeCapture = (s.modMass fun m => { m with capture := none, settleEnd := none, limit := none }).send .hush := if_pos h
  unfold State.massResolved
  rw [e]
  exact ⟨rfl, rfl⟩

/-- What the end of a check's capture leaves: the capture closed, HUSH sent, the pallet judged. -/
structure CaptureEnded (s v : State) (c : Check) (x : Record) (u : State) : Prop where
  run : VerdictRun s u v c x
  mass : v.settle.mass = { s.mass with capture := none, settleEnd := none, limit := none }
  hush : .hush ∈ v.settle.sent
  others : ∀ k, k ≠ c.track → v.settle.record? k = s.record? k

theorem captureEnded {f : Record → Record} {p : Part} {y : Record} (hc : s.check.current = some c) (hcap : s.mass.capture = some cap)
    (hy : s.record? c.track = some y) (hf : ∀ x, (f x).number = x.number) :
    CaptureEnded s (s.massResolved c.track f p).giveVerdict { c with mass := p } (f y) (s.massResolved c.track f p) := by
  have hmass := massResolved_mass (n := c.track) (by rw [hcap]; rfl) f p
  have hr (k : Nat) := massResolved_record? (s := s) (n := c.track) hf p k
  have hk := massResolved_keeps s c.track f p
  have hcur := massResolved_check (n := c.track) hc f p
  generalize s.massResolved c.track f p = u at *
  have run : VerdictRun s u u.giveVerdict { c with mass := p } (f y) :=
    ⟨hcur, (hr c.track).trans ((if_pos rfl).trans (by rw [hy]; rfl)), hk.mono (by simp), ⟨[], by simp, .of_keeps hk⟩, .of_keeps hk,
      by simp⟩
  have l := giveVerdict_leaves run.current run.record
  have kt := settle_keeps u.giveVerdict
  have kc := weighed_keeps_closed (s := u) (by rw [hmass.1]) { c with mass := p } (f y)
  refine ⟨run, ?_, ?_, fun k hk => ?_⟩
  · rw [kt .mass (by decide), l.keeps .mass (by decide), kc .mass (by decide), hmass.1]
  · rw [kt .sent (by decide), l.keeps .sent (by decide), kc .sent (by decide), hmass.2]
    simp
  · rw [kt.record? k, l.others k hk, weighed_record? run.record, if_neg hk, hr, if_neg hk]

/-! ### READING (R94, R96, R98) -/

/-- The check goes on to its verdict once its mass part is resolved. -/
theorem testVerdict_massResolved (hc : s.check.current = some c) {f : Record → Record} {p : Part} (hp : p ≠ .pending) (hprof : c.profile ≠ .pending)
    (htag : c.tag ≠ .pending) : (s.massResolved c.track f p).testVerdict = (s.massResolved c.track f p).giveVerdict := by
  unfold State.testVerdict
  simp only [massResolved_check hc f p]
  rw [if_pos (by simp [hp, hprof, htag])]

section
variable (hcap : s.mass.capture = some cap) (hcol : cap.collecting = true) (hmode : s.mode.mode ≠ .halted)
include hcap hcol hmode

theorem exec_reading_value (hg : -40000 ≤ g) (hg' : g ≤ 1999999) : exec (.reading (.value g)) s = .next (s.enterReading cap g).settle := by
  have hm : (s.mode.mode == .halted) = false := by simpa using hmode
  show execReading (.value g) s = _
  unfold execReading
  simp only [hcap, hcol, hm, Bool.not_true, Bool.or_self, Bool.false_eq_true, if_false]
  exact if_pos ⟨hg, hg'⟩

theorem exec_reading_overload : exec (.reading .overload) s = .next (s.overload cap).settle := by
  have hm : (s.mode.mode == .halted) = false := by simpa using hmode
  show execReading .overload s = _
  unfold execReading
  simp only [hcap, hcol, hm, Bool.not_true, Bool.or_self, Bool.false_eq_true, if_false]

/-- The reading that makes a window stable closes the capture with M. -/
theorem exec_stableReading {m q : Int} (hc : s.check.current = some c) (hpur : cap.purpose = .check c.track) (hprof : c.profile ≠ .pending)
    (htag : c.tag ≠ .pending) (hg : -40000 ≤ g) (hg' : g ≤ 1999999) (hs : 0 < cap.size) (hl : cap.window.length ≤ cap.size)
    (hd : 0 < cap.division) (hwin : cap.window ++ [g] = old ++ win) (hlen : win.length = cap.size)
    (hw : ∀ x ∈ win, ∀ y ∈ win, x - y ≤ cap.width) (h1 : q * (cap.size * cap.division) ≤ win.sum + (cap.size * cap.division) / 2)
    (h2 : win.sum + (cap.size * cap.division) / 2 < (q + 1) * (cap.size * cap.division))
    (hm : m = max 0 (min 2000000 (q * cap.division - s.mass.offset))) :
    exec (.reading (.value g)) s
      = .next (s.massResolved c.track (fun r => { r with mass := some m.toNat }) .present).giveVerdict.settle := by
  have he := enter_eq hs hl hwin hlen
  have hst : { cap with window := cap.enter g }.stable = true := by
    rw [he]
    simpa [Capture.stable, hlen] using spread_le (by omega) hw
  have hmean : { cap with window := cap.enter g }.mean = q * cap.division := by rw [he]; exact mean_eq hs hd h1 h2
  have hoff : s.closeCapture.mass.offset = s.mass.offset := by unfold State.closeCapture; split <;> rfl
  have hstep : s.enterReading cap g = s.checkMean c.track { cap with window := cap.enter g }.mean := by
    unfold State.enterReading
    dsimp only
    rw [if_pos hst]
    split
    · rename_i h; rw [hpur] at h; cases h
    · rename_i h; rw [hpur] at h; cases h; rfl
  rw [exec_reading_value hcap hcol hmode hg hg', ← testVerdict_massResolved hc (by decide) hprof htag, hstep, hmean]
  unfold State.checkMean
  dsimp only
  rw [show measuredMass (q * cap.division) s.closeCapture.mass.offset = m.toNat by rw [measuredMass, hoff, hm]]
  rfl

theorem exec_overload (hc : s.check.current = some c) (hpur : cap.purpose = .check c.track) (hprof : c.profile ≠ .pending)
    (htag : c.tag ≠ .pending) :
    exec (.reading .overload) s = .next (s.massResolved c.track id (.failed .overload)).giveVerdict.settle := by
  have hid : s.massResolved c.track id (.failed .overload) = s.closeCapture.modCurrent fun k => { k with mass := .failed .overload } := by
    unfold State.massResolved
    rw [modRecord_id]
  have hstep : s.overload cap = (s.massResolved c.track id (.failed .overload)).testVerdict := by
    unfold State.overload
    split
    · rename_i h; rw [hpur] at h; cases h
    · rw [hid]
  rw [exec_reading_overload hcap hcol hmode, ← testVerdict_massResolved hc (p := .failed .overload) (by decide) hprof htag, hstep]

end

/-! ### The obligation -/

theorem massCounter_eq_some {v : Code} {d : Int} {T : Nat} (k : Counter) : massCounter (some (v, d, T)) = some k
    ↔ (k = .over ∧ v = .over) ∨ (k = .under ∧ v = .under) ∨ (k = .marginal ∧ v = .passMarginal) := by
  cases v <;> simp [massCounter, eq_comm]

/-- Each counter after a verdict: raised once by the verdict on mass it counts, and as it was otherwise (R104). -/
theorem CaptureEnded.counter (e : CaptureEnded s u.giveVerdict c x u) (hc : c.mass ≠ .failed .unstable) (ku : KeepsAllBut [.mass, .sent, .records, .check] s u)
    (k : Counter) :
    (massCounter (u.massOf c x) = some k → Counted s u.giveVerdict.settle k)
      ∧ (massCounter (u.massOf c x) ≠ some k → tget u.giveVerdict.settle.link.counters k.idx = tget s.link.counters k.idx) := by
  have l := giveVerdict_leaves e.run.current e.run.record
  have hct : u.giveVerdict.link.counters = (u.weighed c x).link.counters := l.keeps .counters (by decide)
  constructor
  · intro hk
    obtain ⟨hcu, hq⟩ := weighed_raised hc hk
    have q := ((Queues.of_keeps ku).trans hq).trans l.queues
    rw [halfReports_congr ku, List.nil_append] at q
    have hh := Queues.halfReports_length s k
    refine counted_of k (hct.trans (hcu.trans (counted_congr ku k))) q ?_ ?_
    · split <;> simp <;> omega
    · rw [List.filter_append, filter_halfReports]
      split <;> simp [State.checkDoneReport, State.rejectReport, State.report]
  · intro hk
    rw [settle_link_counters, hct]
    rcases e' : massCounter (u.massOf c x) with _ | j
    · rw [weighed_unraised hc e' .counters (by decide), ku .counters (by decide)]
    · rw [(weighed_raised hc e').1, tget_counted_of_ne _ (fun h => hk (by rw [e', h])), ku .counters (by decide)]

/-- The check ends judged (R88). -/
theorem VerdictRun.judged (h : VerdictRun s u v c x) (hb : u.plan.bands = s.plan.bands) (hs : u.setting .toleranceMax = s.setting .toleranceMax) :
    Judged s v.settle c x := by
  refine ⟨_, massJudged_of_massOf h.plan hb hs, fun hd => h.given ?_⟩
  rcases hd with ⟨a, ha⟩ | hd
  · rw [onMassOf_code, ← h.plan.heightLimit] at ha
    exact .inl ⟨a, (mem_failing a).mpr ha⟩
  · refine .inr ?_
    rcases e : u.massOf c x with _ | m
    · rw [e] at hd; cases hd
    · rfl

/-- Settles O24: the window's mean resolves the mass part, and the verdict follows. -/
theorem aStableWindowGivesTheVerdictOnMass : Obligations.AStableWindowGivesTheVerdictOnMass := by
  refine ⟨?stable, ?overload, ?noRef⟩
  case stable =>
    intro s c cap r ref sl b g old win hc hpend hprof htag hcap hpur hcol hmode hr href hsl hg hg' hs hl hd hwin hlen hw hb
    have hk : (0 : Int) < cap.size * cap.division := by positivity
    generalize hq : (win.sum + ((cap.size : Int) * cap.division) / 2) / (cap.size * cap.division) = q
    obtain ⟨h1, h2⟩ := (Int.ediv_eq_iff_of_pos hk).mp hq
    replace h2 : win.sum + (cap.size * cap.division) / 2 < (q + 1) * (cap.size * cap.division) := by linarith
    generalize hm : max 0 (min 2000000 (q * cap.division - s.mass.offset)) = m
    have hx := exec_stableReading hcap hcol hmode hc hpur hprof htag hg hg' hs hl hd hwin hlen hw h1 h2 hm.symm
    have e := captureEnded (p := .present) (f := fun r => { r with mass := some m.toNat }) hc hcap hr fun _ => rfl
    have ku := massResolved_keeps s c.track (fun r => { r with mass := some m.toNat }) .present
    generalize s.massResolved c.track (fun r => { r with mass := some m.toNat }) .present = u at *
    have hm0 : ((m.toNat : Nat) : Int) = m := by omega
    have hof : u.massOf { c with mass := .present } { r with mass := some m.toNat }
        = some (massVerdict (m - sl.gross) (min (s.setting .toleranceMax) (b.fixed + sl.net * b.perMille / 1000)), m - sl.gross,
            min (s.setting .toleranceMax) (b.fixed + sl.net * b.perMille / 1000)) := by
      have eb : u.plan.bands = s.plan.bands := ku .bands (by decide)
      unfold State.massOf
      simp only [href, Option.bind_some, ku.slot? ref, hsl, hm0, eb, tolerance_of_used hb, ku.setting]
    have hdec : Decided u { c with mass := .present } { r with mass := some m.toNat } := .inr (by rw [hof]; rfl)
    have l := giveVerdict_leaves e.run.current e.run.record
    have given := e.run.given hdec
    have hpass := primaryOf_passes hdec
    have hcount := e.counter nofun ku
    rw [hof] at given hcount
    refine ⟨_, q, m, _, _, _, hx, h1, h2, hm.symm, rfl, rfl, massVerdict_is _ _, given, e.mass, e.hush, ?_, ?_, e.others, ?_⟩
    · intro x hx hxr
      obtain ⟨dest, hrec⟩ := e.run.record_after
      obtain rfl := Option.some.inj (hx.symm.trans hrec)
      refine (e.run.loads (.inl ?_)).trans (ku .loads (by decide))
      by_contra hp
      exact hxr (if_neg hp)
    · intro k
      dsimp only
      rw [← massCounter_eq_some]
      exact hcount k
    · exact ((ku.mono (by simp)).trans ((weighed_keeps u _ _).mono (by simp [derived]))).trans ((l.keeps.mono (by simp [derived])).trans ((settle_keeps _).mono (by simp [derived])))
  case overload =>
    intro s c cap r hc hprof htag hcap hpur hcol hmode hr
    have hx := exec_overload hcap hcol hmode hc hpur hprof htag
    have e := captureEnded (p := .failed .overload) (f := id) hc hcap hr fun _ => rfl
    have ku := massResolved_keeps s c.track id (.failed .overload)
    generalize s.massResolved c.track id (.failed .overload) = u at *
    have hof : u.massOf { c with mass := .failed .overload } r = none := rfl
    have hdec : Decided u { c with mass := .failed .overload } r := .inl ⟨.overload, (mem_failing _).mpr rfl⟩
    have l := giveVerdict_leaves e.run.current e.run.record
    have kw := weighed_unraised (s := u) (c := { c with mass := .failed .overload }) (x := r) nofun (by rw [hof]; rfl)
    have given := e.run.given hdec
    rw [id, hof] at given
    exact ⟨_, hx, given, e.mass, e.hush, e.others, ((ku.mono (by simp)).trans (kw.mono (by simp [derived]))).trans
      ((l.keeps.mono (by simp [derived])).trans ((settle_keeps _).mono (by simp [derived])))⟩
  case noRef =>
    rintro s c cap r g m hc hprof htag hcap hpur hcol hmode hr href hg hg' ⟨q, old, win, hs, hl, hd, hwin, hlen, hw, h1, h2, hm⟩
    have hx := exec_stableReading hcap hcol hmode hc hpur hprof htag hg hg' hs hl hd hwin hlen hw h1 h2 hm
    have e := captureEnded (p := .present) (f := fun r => { r with mass := some m.toNat }) hc hcap hr fun _ => rfl
    have ku := massResolved_keeps s c.track (fun r => { r with mass := some m.toNat }) .present
    generalize s.massResolved c.track (fun r => { r with mass := some m.toNat }) .present = u at *
    have hof : u.massOf { c with mass := .present } { r with mass := some m.toNat } = none := by
      unfold State.massOf
      simp only [href, Option.bind_none]
    have l := giveVerdict_leaves e.run.current e.run.record
    have kw := weighed_unraised (s := u) (c := { c with mass := .present }) (x := { r with mass := some m.toNat }) nofun (by rw [hof]; rfl)
    have loads := (e.run.loads (.inr href)).trans (ku .loads (by decide))
    have keeps := ((ku.mono (by simp)).trans (kw.mono (by simp [derived]))).trans
      ((l.keeps.mono (cs := .loads :: ([.records, .mass, .sent, .scanners, .check, .moves, .places] ++ derived)) (by simp [derived])).trans
        ((settle_keeps _).mono (by simp [derived])))
    refine ⟨_, hx, e.run.judged (ku .bands (by decide)) (ku.setting _), ?_, e.mass, e.hush, ?_, loads, fun k => ?_, e.others, keeps.drop loads⟩
    · rw [settle_keeps _ .check (by decide), l.check]
    · obtain ⟨dest, hrec⟩ := e.run.record_after
      exact ⟨_, hrec, rfl, by rw [hof]; rfl, by simp [Record.judged, Record.weighed, href]⟩
    · rw [keeps .counters (by decide)]

end Sys2Proof.Machine
end

section
/-! PROOF. O37: the answers of the check read and of the read of face A. -/

namespace Sys2Proof.Machine

open State

variable {bs : List Block} {r s t u v w : State} {n : Nat} {ref : LoadRef} {x a : Record} {k : Check} {part : Part} {got : Option Text}
  {outcome : Nat} {d : Text} {sl : Slot}

/-! ### The tag part of a check (R64, R87) -/

/-- What the answer of the check read makes of the record and of the tag part, before the part is written. -/
structure TagPartTaken (s w : State) (n : Nat) (got : Option Text) (a : Record) (part : Part) (outcome : Nat) : Prop where
  keeps : KeepsAllBut [.scanners, .records, .loads, .queue] s w
  scanners : ∀ c, w.scanner c = (s.answered .check).scanner c
  record : w.record? n = some a
  others : ∀ j, j ≠ n → w.record? j = s.record? j
  plan : SamePlan s w
  resolved : part ≠ .pending
  failed : ∀ v, part = .failed v → a.ref = none
    ∧ (v = .noTag ∨ (v = .unplanned ∧ a.mark = some .unplanned) ∨ (v = .duplicate ∧ a.mark = some .duplicate))
  queue : ∃ new, new.length ≤ 4 ∧ Queues s w new ∧ ∀ d, got = some d → ∃ x ∈ new, x.kind = .matched ∧ x.track = some n
    ∧ x.detail = outcome ∧ x.value = some 2

/-- The line with the tag part of its check written. -/
def State.tagResolved (w : State) (part : Part) : State := w.modCurrent fun c => { c with tag := part }

theorem tagResolved_keeps (w : State) (part : Part) : KeepsAllBut [.check] w (w.tagResolved part) := by
  simp [State.tagResolved, State.modCurrent]

/-- What a match makes of the tag part (R87). -/
def tagOutcome (n : Nat) : State × MatchAnswer → State
  | (s, .claimed _) => (s.tagResolved .present).testVerdict
  | (s, .taken _ _) => (s.tagResolved (.failed .duplicate)).testVerdict
  | (s, .notFound) => ((s.markUnplanned n 2).tagResolved (.failed .unplanned)).testVerdict

section
variable (hk : s.check.current = some k) (hn : k.track = n)
include hk hn

theorem checkTag_none : s.checkTag n none = (s.tagResolved (.failed .noTag)).testVerdict := by
  unfold State.checkTag
  rw [hk]
  dsimp only
  rw [if_neg (by simp [hn])]
  rfl

theorem checkTag_some : s.checkTag n (some d) = tagOutcome n ((s.tagged n d).matchTag n d 2) := by
  unfold State.checkTag
  rw [hk]
  dsimp only
  rw [if_neg (by simp [hn])]
  rfl

end

theorem modSlotAt_heightLimit (l : Load) (pos : Nat) (f : Slot → Slot) : (l.modSlotAt pos f).heightLimit = l.heightLimit := by
  unfold Load.modSlotAt
  split <;> rfl

/-- A slot claimed leaves the plan as a verdict reads it. -/
theorem SamePlan.claimed (s : State) (ref : LoadRef) (n : Nat) (h : w.plan.loads = (s.modSlot ref (Slot.claimedBy n)).plan.loads) :
    SamePlan s w := by
  refine ⟨fun id => ?_, fun r => ?_⟩
  · rw [load?_of_loads h, modSlot_load?]
    split
    · subst id
      rcases s.load? ref.load with _ | l
      · rfl
      · exact congrArg some (modSlotAt_heightLimit l ref.position (Slot.claimedBy n))
    · rfl
  · rw [slot?_of_loads h, modSlot_slot?]
    split
    · subst r; cases s.slot? ref <;> rfl
    · rfl

theorem tagPartTaken_none (hx : s.record? n = some x) (hr : x.ref = none) :
    TagPartTaken s (s.answered .check) n none x (.failed .noTag) 0 where
  keeps := (answered_keeps s .check).mono (by simp)
  scanners _ := rfl
  record := hx
  others _ _ := rfl
  plan := .of_keeps (answered_keeps s .check)
  resolved := nofun
  failed := by rintro v ⟨⟩; exact ⟨hr, .inl rfl⟩
  queue := ⟨[], by simp, .of_keeps (answered_keeps s .check), nofun⟩

theorem answeredTagged_keeps (s : State) (n : Nat) (d : Text) : KeepsAllBut [.scanners, .records] s ((s.answered .check).tagged n d) := by
  simp [State.tagged, State.answered]

theorem answeredTagged_record? (hx : s.record? n = some x) (j : Nat) :
    ((s.answered .check).tagged n d).record? j = if j = n then some { x with tag := some d } else s.record? j := by
  rw [tagged_record?]
  show (if j = n then (s.record? n).map _ else s.record? j) = _
  rw [hx]
  rfl

/-- A tag whose slot is EXPECTED claims it. -/
theorem tagPartTaken_claimed (hx : s.record? n = some x) :
    TagPartTaken s (((s.answered .check).tagged n d).matchClaimed ref n 2) n (some d) { x with tag := some d, ref := some ref } .present 1 where
  keeps := ((answeredTagged_keeps s n d).mono (by simp)).trans ((matchClaimed_keeps _ _ _ _).mono (by simp))
  scanners c := (matchClaimed_keeps ((s.answered .check).tagged n d) ref n 2).scanner c
  record := by
    rw [matchClaimed_record?, if_pos rfl, answeredTagged_record? hx, if_pos rfl]
    rfl
  others j hj := by rw [matchClaimed_record?, if_neg hj, answeredTagged_record? hx, if_neg hj]
  plan := .claimed s ref n (matchClaimed_loads _ _ _ _)
  resolved := nofun
  failed := nofun
  queue := by
    have k0 := answeredTagged_keeps s n d
    have q := matchClaimed_queues ((s.answered .check).tagged n d) ref n 2 ((answeredTagged_record? hx n).trans (if_pos rfl))
    exact ⟨_, by simp, (Queues.of_keeps k0).trans q, fun _ _ => ⟨_, List.mem_singleton_self _, rfl, rfl, rfl, rfl⟩⟩

/-- A tag whose slot is taken makes a DUPLICATE. -/
theorem tagPartTaken_taken (hx : s.record? n = some x) (hr : x.ref = none) :
    TagPartTaken s (((s.answered .check).tagged n d).matchTaken n 2) n (some d) { x with tag := some d, mark := some .duplicate }
      (.failed .duplicate) 2 where
  keeps := ((answeredTagged_keeps s n d).mono (by simp)).trans ((matchTaken_keeps _ _ _).mono (by simp))
  scanners c := (matchTaken_keeps ((s.answered .check).tagged n d) n 2).scanner c
  record := by
    rw [matchTaken_record?, if_pos rfl, answeredTagged_record? hx, if_pos rfl]
    rfl
  others j hj := by rw [matchTaken_record?, if_neg hj, answeredTagged_record? hx, if_neg hj]
  plan := .of_keeps (((answeredTagged_keeps s n d).mono (by simp)).trans ((matchTaken_keeps _ n 2).mono (cs := [.scanners, .records, .queue]) (by simp)))
  resolved := nofun
  failed := by rintro v ⟨⟩; exact ⟨hr, .inr (.inr ⟨rfl, rfl⟩)⟩
  queue := by
    have q := matchTaken_queues ((s.answered .check).tagged n d) n 2
    exact ⟨_, by simp, (Queues.of_keeps (answeredTagged_keeps s n d)).trans q,
      fun _ _ => ⟨_, List.mem_singleton_self _, rfl, rfl, rfl, rfl⟩⟩

/-- A tag with no slot makes the pallet UNPLANNED. -/
theorem tagPartTaken_notFound (hx : s.record? n = some x) (hr : x.ref = none) :
    TagPartTaken s (((s.answered .check).tagged n d).markUnplanned n 2) n (some d) { x with tag := some d, mark := some .unplanned }
      (.failed .unplanned) 3 where
  keeps := ((answeredTagged_keeps s n d).mono (by simp)).trans ((markUnplanned_keeps _ _ _).mono (by simp))
  scanners c := (markUnplanned_keeps ((s.answered .check).tagged n d) n 2).scanner c
  record := by
    rw [markUnplanned_record?, if_pos rfl, answeredTagged_record? hx, if_pos rfl]
    rfl
  others j hj := by rw [markUnplanned_record?, if_neg hj, answeredTagged_record? hx, if_neg hj]
  plan := .of_keeps (((answeredTagged_keeps s n d).mono (by simp)).trans ((markUnplanned_keeps _ n 2).mono (cs := [.scanners, .records, .queue]) (by simp)))
  resolved := nofun
  failed := by rintro v ⟨⟩; exact ⟨hr, .inr (.inl ⟨rfl, rfl⟩)⟩
  queue := by
    have q := markUnplanned_queues ((s.answered .check).tagged n d) n 2
    exact ⟨_, by simp, (Queues.of_keeps (answeredTagged_keeps s n d)).trans q,
      fun _ _ => ⟨_, List.mem_singleton_self _, rfl, rfl, rfl, rfl⟩⟩

/-! ### The check after its tag part (R88) -/

/-- A tag part that failed is the verdict (R89). -/
theorem primaryOf_tagFailed {c : Check} {code : Code} {mv : Option (Code × Int × Nat)} (hc : c.tag = .failed code)
    (h : code = .noTag ∨ (code = .unplanned ∧ x.mark = some .unplanned) ∨ (code = .duplicate ∧ x.mark = some .duplicate)) :
    primaryOf (s.failing c x mv) mv = code := by
  rw [failing_eq, hc]
  rcases h with rfl | ⟨rfl, h⟩ | ⟨rfl, h⟩
  · rfl
  · rw [h]; rfl
  · rw [h]; rfl

/-- What the check read's answer leaves, once the tag part is written: the check goes on, or its verdict is given. -/
structure TagPartLeft (s w t : State) (n : Nat) (k : Check) (got : Option Text) (a : Record) (part : Part) (outcome : Nat) : Prop where
  goesOn : k.mass = .pending ∨ k.profile = .pending → t.record? n = some a ∧ t.check = { s.check with current := some { k with tag := part } }
    ∧ (t.scanner .check).outstanding.map (·.1) = (s.scanner .check).waiting.head?
    ∧ KeepsAllBut ([.records, .loads, .scanners, .sent, .check] ++ derived) s t ∧ t.plan.loads = w.plan.loads
  ends : k.mass ≠ .pending → k.profile ≠ .pending → t.check.current = none ∧ t.mass.capture = none ∧ Judged s t { k with tag := part } a
    ∧ ∃ b, t.record? n = some b ∧ b.tag = a.tag ∧ b.mark = a.mark ∧ b.verdict.isSome = true
      ∧ (∀ v, part = .failed v → b.verdict = some v ∧ b.stage = .toReject ∧ b.ref = none)
  loads : a.ref = none → t.plan.loads = w.plan.loads
  others : ∀ j, j ≠ n → t.record? j = s.record? j
  reported : ∀ d, got = some d → QueueOpen s → Reported t .matched fun x => x.track = some n ∧ x.detail = outcome ∧ x.value = some 2
  keeps : KeepsAllBut ([.records, .loads, .scanners, .sent, .check, .mass, .counters, .moves, .places] ++ derived) s t

theorem TagPartTaken.queues (h : TagPartTaken s w n got a part outcome) : ∃ new, new.length ≤ 4 ∧ Queues s (w.tagResolved part) new ∧ ∀ d, got = some d → ∃ x ∈ new,
    x.kind = .matched ∧ x.track = some n ∧ x.detail = outcome ∧ x.value = some 2 := by
  obtain ⟨new, hn, q, hx⟩ := h.queue
  exact ⟨new, hn, by simpa using q.trans (.of_keeps (tagResolved_keeps w part)), hx⟩

/-- A report of the match is still queued when the step ends. -/
theorem TagPartTaken.reported (h : TagPartTaken s w n got a part outcome) {rest : List Report} (hl : rest.length ≤ 8) (q : Queues (w.tagResolved part) v rest) :
    ∀ d, got = some d → QueueOpen s → Reported v.settle .matched fun x => x.track = some n ∧ x.detail = outcome ∧ x.value = some 2 := by
  intro d hd hq
  obtain ⟨new, hn, q0, hx⟩ := h.queues
  obtain ⟨x, hm, hkind, hp⟩ := hx d hd
  exact (q0.trans q).reported (List.mem_append_left _ hm) hkind hp hq (by rw [List.length_append]; omega)

section
variable (h : TagPartTaken s w n got a part outcome) (hk : s.check.current = some k) (hn : k.track = n)
include h hk

theorem TagPartTaken.check : (w.tagResolved part).check = { s.check with current := some { k with tag := part } } := by
  unfold State.tagResolved State.modCurrent
  show ({ w.check with current := w.check.current.map _ } : CheckStation) = _
  rw [h.keeps .check (by decide), hk]
  rfl

/-- While another part is pending the check goes on. -/
theorem TagPartTaken.goesOn (hp : k.mass = .pending ∨ k.profile = .pending) : (w.tagResolved part).testVerdict = w.tagResolved part := by
  unfold State.testVerdict
  simp only [h.check hk]
  rw [if_neg]
  rcases hp with e | e <;> simp [e]

theorem TagPartTaken.ends (hm : k.mass ≠ .pending) (hp : k.profile ≠ .pending) :
    (w.tagResolved part).testVerdict = (w.tagResolved part).giveVerdict := by
  unfold State.testVerdict
  simp only [h.check hk]
  rw [if_pos (by simp [hm, hp, h.resolved])]

include hn in
theorem TagPartTaken.run : VerdictRun s (w.tagResolved part) ((w.tagResolved part).giveVerdict.sendRead .check) { k with tag := part } a where
  current := by rw [h.check hk]
  record := by
    show (w.tagResolved part).record? k.track = _
    rw [hn, (tagResolved_keeps w part).record?, h.record]
  before := (h.keeps.mono (by simp)).trans ((tagResolved_keeps w part).mono (by simp))
  queue := by
    obtain ⟨new, hl, q, -⟩ := h.queues
    exact ⟨new, hl, q⟩
  plan := by
    have e := tagResolved_keeps w part
    exact ⟨fun id => by rw [e.load?]; exact h.plan.limit id, fun ref => by rw [e.slot?]; exact h.plan.slot ref⟩
  after := sendRead_keeps _ _

include hn in
theorem TagPartTaken.leaves : TagPartLeft s w ((w.tagResolved part).testVerdict.sendRead .check).settle n k got a part outcome := by
  have ku := tagResolved_keeps w part
  have kw : KeepsAllBut [.scanners, .records, .loads, .queue, .check] s (w.tagResolved part) :=
    (h.keeps.mono (by simp)).trans (ku.mono (by simp))
  by_cases hp : k.mass = .pending ∨ k.profile = .pending
  · rw [h.goesOn hk hp]
    have kt : KeepsAllBut (.scanners :: .sent :: derived) (w.tagResolved part) ((w.tagResolved part).sendRead .check).settle :=
      ((sendRead_keeps _ _).mono (by simp)).trans ((settle_keeps _).mono (by simp))
    have idle : (w.tagResolved part).scanner .check = ⟨none, (s.scanner .check).waiting, none⟩ :=
      (h.scanners .check).trans ((answered_scanner .check).trans (if_pos rfl))
    have hl : ((w.tagResolved part).sendRead .check).settle.plan.loads = w.plan.loads := (kt .loads (by decide)).trans (ku .loads (by decide))
    have keeps : KeepsAllBut ([.records, .loads, .scanners, .sent, .check] ++ derived) s ((w.tagResolved part).sendRead .check).settle :=
      (kw.mono (by simp [derived])).trans (kt.mono (by simp [derived]))
    refine ⟨fun _ => ⟨(kt.record? n).trans ((ku.record? n).trans h.record), (kt .check (by decide)).trans (h.check hk), ?_, keeps, hl⟩,
      fun hm hf => absurd hp (not_or.mpr ⟨hm, hf⟩), fun _ => hl, fun j hj => (kt.record? j).trans ((ku.record? j).trans (h.others j hj)),
      h.reported (by simp) (.of_keeps (sendRead_keeps _ _)), keeps.mono (by simp [derived])⟩
    rw [settle_scanner, sendRead_scanner idle, if_pos rfl]
    cases (s.scanner .check).waiting <;> rfl
  · obtain ⟨hm, hf⟩ := not_or.mp hp
    rw [h.ends hk hm hf]
    have run := h.run hk hn
    have l := giveVerdict_leaves run.current run.record
    have kt := run.settled
    obtain ⟨dest, hrec⟩ := run.record_after
    replace hrec : ((w.tagResolved part).giveVerdict.sendRead .check).settle.record? n = _ := (congrArg _ hn.symm).trans hrec
    have hof := fun v (hv : part = .failed v) => primaryOf_tagFailed (s := w.tagResolved part) (c := { k with tag := part }) (x := a)
      (mv := (w.tagResolved part).massOf { k with tag := part } a) hv (h.failed v hv).2
    have keeps : KeepsAllBut ([.records, .loads, .scanners, .sent, .check, .mass, .counters, .moves, .places] ++ derived) s
        ((w.tagResolved part).giveVerdict.sendRead .check).settle :=
      ((kw.mono (by simp [derived])).trans ((weighed_keeps _ _ _).mono (by simp [derived]))).trans
        ((l.keeps.mono (by simp [derived])).trans (kt.mono (by simp [derived])))
    obtain ⟨counts, hcounts, qw⟩ := weighed_queues (w.tagResolved part) { k with tag := part } a
    have qv := (qw.trans l.queues).trans (.of_keeps run.after)
    refine ⟨fun hp' => absurd hp' hp, fun _ _ => ⟨?current, ?capture, run.judged (kw .bands (by decide)) (kw.setting _),
      _, hrec, rfl, rfl, rfl, fun v hv => ⟨congrArg some (hof v hv), if_neg ?_, if_neg ?_⟩⟩,
      fun hr => (run.loads (.inr hr)).trans (ku .loads (by decide)), fun j hj => ?others, h.reported ?len qv, keeps⟩
    case current => rw [kt .check (by decide), l.check]
    case capture =>
      rw [kt .mass (by decide), l.keeps .mass (by decide), weighed_mass]
      split
      · rfl
      · rename_i hc; simpa using hc
    case others =>
      have hj' : j ≠ ({ k with tag := part } : Check).track := by rw [← hn] at hj; exact hj
      rw [kt.record?, l.others j hj', weighed_record? run.record, if_neg hj', ku.record?, h.others j hj]
    case len =>
      split <;> simp <;> omega
    all_goals
      rw [hof v hv]
      rcases (h.failed v hv).2 with rfl | ⟨rfl, -⟩ | ⟨rfl, -⟩ <;> decide

end

end Sys2Proof.Machine
end

section
/-! PROOF. O37: the answers at the scanner of the check, and those for face A. -/

namespace Sys2Proof.Machine

open State

variable {bs : List Block} {r s t u v w : State} {n left : Nat} {ref : LoadRef} {x : Record} {k : Check} {got : Option Text} {c : Instr}
  {face : FaceResult}

/-- The commands that end the check read, and the tag that each gives. -/
theorem endsRead_check
    (h : (∃ d, c = .tag .check d ∧ TagDigits d ∧ got = some d)
      ∨ (((∃ d, c = .tag .check d ∧ ¬ TagDigits d) ∨ c = .noRead .check
          ∨ (c = .answerLimitExpiry .check ∧ left = 0 ∧ s.mode.mode ≠ .halted)) ∧ got = none)) :
    ∃ digits, EndsRead s .check left c digits ∧ digits.filter validTag = got := by
  rcases h with ⟨d, rfl, hd, rfl⟩ | ⟨⟨d, rfl, hd⟩ | rfl | ⟨rfl, hl, hm⟩, rfl⟩
  · exact ⟨some d, .inl ⟨d, rfl, rfl⟩, by rw [Option.filter_some, if_pos (validTag_iff.mpr hd)]⟩
  · exact ⟨some d, .inl ⟨d, rfl, rfl⟩, by rw [Option.filter_some, if_neg (fun hv => hd (validTag_iff.mp hv))]⟩
  · exact ⟨none, .inr (.inl ⟨rfl, rfl⟩), rfl⟩
  · exact ⟨none, .inr (.inr ⟨rfl, hl, hm, rfl⟩), rfl⟩

/-- A tag whose slot is gone is as one not in the index. -/
theorem matchTag_noSlot {d : Text} (ht : s.tagIndex d = some ref) (hs : s.slot? ref = none) (n occasion : Nat) :
    s.matchTag n d occasion = (s, .notFound) := by
  simp [State.matchTag, State.claim, ht, hs]

section
variable (ho : (s.scanner .check).outstanding = some (⟨n, .check⟩, left)) (hk : s.check.current = some k) (hn : k.track = n)
  {digits : Option Text} (he : EndsRead s .check left c digits)
include ho hk hn he

/-- The answer that gives no tag. -/
theorem exec_checkRead_none (hd : digits.filter validTag = none) :
    exec c s = .next (((s.answered .check).tagResolved (.failed .noTag)).testVerdict.sendRead .check).settle := by
  have e : (s.answered .check).applyRead ⟨n, .check⟩ digits = ((s.answered .check).tagResolved (.failed .noTag)).testVerdict := by
    show (s.answered .check).checkTag n (digits.filter validTag) = _
    rw [hd]
    exact checkTag_none hk hn
  rw [exec_endsRead ho he, e]

/-- The answer that gives a tag. -/
theorem exec_checkRead_some {d : Text} (hd : digits.filter validTag = some d) :
    exec c s = .next ((tagOutcome n (((s.answered .check).tagged n d).matchTag n d 2)).sendRead .check).settle := by
  have e : (s.answered .check).applyRead ⟨n, .check⟩ digits = (s.answered .check).checkTag n (some d) := by
    show (s.answered .check).checkTag n (digits.filter validTag) = _
    rw [hd]
  rw [exec_endsRead ho he, e, checkTag_some (s := s.answered .check) hk hn]

/-- The answer of the check read resolves the tag part (R64, R87). -/
theorem exec_checkRead (hx : s.record? n = some x) (hr : x.ref = none) (hd : digits.filter validTag = got) : ∃ w a part outcome,
    exec c s = .next ((w.tagResolved part).testVerdict.sendRead .check).settle ∧ TagPartTaken s w n got a part outcome
    ∧ (got = none → a = x ∧ part = .failed .noTag ∧ w.plan.loads = s.plan.loads)
    ∧ (∀ d, got = some d →
        (∀ ref sl, s.tagIndex d = some ref → s.slot? ref = some sl → sl.state = .expected →
          a = { x with tag := some d, ref := some ref } ∧ part = .present ∧ outcome = 1
          ∧ w.slot? ref = some { sl with state := .claimed, claimant := some n })
        ∧ (∀ ref sl, s.tagIndex d = some ref → s.slot? ref = some sl → sl.state ≠ .expected →
          a = { x with tag := some d, mark := some .duplicate } ∧ part = .failed .duplicate ∧ outcome = 2
          ∧ w.plan.loads = s.plan.loads)
        ∧ (s.tagIndex d = none →
          a = { x with tag := some d, mark := some .unplanned } ∧ part = .failed .unplanned ∧ outcome = 3
          ∧ w.plan.loads = s.plan.loads)) := by
  rcases got with _ | d
  · exact ⟨_, _, _, _, exec_checkRead_none ho hk hn he hd, tagPartTaken_none hx hr, fun _ => ⟨rfl, rfl, rfl⟩, nofun⟩
  · have ex := exec_checkRead_some ho hk hn he hd
    have htag : ((s.answered .check).tagged n d).tagIndex d = s.tagIndex d := rfl
    have hslot (ref : LoadRef) : ((s.answered .check).tagged n d).slot? ref = s.slot? ref := rfl
    have hmark := markUnplanned_keeps ((s.answered .check).tagged n d) n 2 .loads (by decide)
    rcases ht : s.tagIndex d with _ | ref
    · rw [matchTag_notFound (htag.trans ht)] at ex
      exact ⟨_, _, _, _, ex, tagPartTaken_notFound hx hr, nofun, by
        rintro _ ⟨⟩
        rw [ht]
        exact ⟨nofun, nofun, fun _ => ⟨rfl, rfl, rfl, hmark⟩⟩⟩
    rcases hs : s.slot? ref with _ | sl
    · rw [matchTag_noSlot (htag.trans ht) ((hslot ref).trans hs)] at ex
      exact ⟨_, _, _, _, ex, tagPartTaken_notFound hx hr, nofun, by
        rintro _ ⟨⟩
        rw [ht]
        exact ⟨by rintro _ sl ⟨⟩ h; exact absurd (hs.symm.trans h) nofun, by rintro _ sl ⟨⟩ h; exact absurd (hs.symm.trans h) nofun, nofun⟩⟩
    by_cases hst : sl.state = .expected
    · rw [matchTag_expected (htag.trans ht) ((hslot ref).trans hs) hst] at ex
      have hw : (((s.answered .check).tagged n d).matchClaimed ref n 2).slot? ref = some { sl with state := .claimed, claimant := some n } := by
        rw [slot?_of_loads (matchClaimed_loads _ _ _ _), modSlot_slot?, if_pos rfl, hslot, hs]
        rfl
      exact ⟨_, _, _, _, ex, tagPartTaken_claimed hx, nofun, by
        rintro _ ⟨⟩
        rw [ht]
        exact ⟨by rintro _ sl' ⟨⟩ h -; cases hs.symm.trans h; exact ⟨rfl, rfl, rfl, hw⟩,
          by rintro _ sl' ⟨⟩ h hne; cases hs.symm.trans h; exact absurd hst hne, nofun⟩⟩
    · rw [matchTag_taken (htag.trans ht) ((hslot ref).trans hs) hst] at ex
      have hw := matchTaken_keeps ((s.answered .check).tagged n d) n 2 .loads (by decide)
      exact ⟨_, _, _, _, ex, tagPartTaken_taken hx hr, nofun, by
        rintro _ ⟨⟩
        rw [ht]
        exact ⟨by rintro _ sl' ⟨⟩ h he; cases hs.symm.trans h; exact absurd he hst,
          by rintro _ sl' ⟨⟩ h -; cases hs.symm.trans h; exact ⟨rfl, rfl, rfl, hw⟩, nofun⟩⟩

end

/-! ### The read of face A (R138) -/

/-- The line with a result of face A. -/
def State.facedA (s : State) (f : FaceResult) : State := (s.answered .verify).modLabel fun u => { u with faceA := f }

theorem facedA_keeps (s : State) (f : FaceResult) : KeepsAllBut [.scanners, .label] s (s.facedA f) := by
  simp [State.facedA, State.answered]

theorem facedA_label (s : State) (f : FaceResult) : (s.facedA f).label = { s.label with faceA := f } := rfl

/-- With face B pending, the answer for face A is only noted. -/
theorem applyRead_faceA (hb : s.label.faceB = .pending) {digits : Option Text}
    (hf : (match digits with | some d => (s.answered .verify).faceResult n d | none => .noRead) = face) :
    (s.answered .verify).applyRead ⟨n, .verify .a⟩ digits = s.facedA face := by
  have e : (s.answered .verify).applyRead ⟨n, .verify .a⟩ digits = (s.answered .verify).faceAnswer n .a face := by
    rw [← hf]; cases digits <;> rfl
  rw [e]
  refine if_neg ?_
  show ¬ ((_ && s.label.faceB != .pending) = true)
  simp [hb]

/-- The commands that end the read of face A, and the result each gives. -/
theorem endsRead_faceA (hx : s.record? n = some x)
    (h : (∃ d, c = .tag .verify d ∧ TagDigits d ∧ face = if x.tag = some d then .ok else .mismatch)
      ∨ (((∃ d, c = .tag .verify d ∧ ¬ TagDigits d) ∨ c = .noRead .verify
          ∨ (c = .answerLimitExpiry .verify ∧ left = 0 ∧ s.mode.mode ≠ .halted)) ∧ face = .noRead)) :
    ∃ digits, EndsRead s .verify left c digits
      ∧ (match digits with | some d => (s.answered .verify).faceResult n d | none => .noRead) = face := by
  have hx' : (s.answered .verify).record? n = some x := hx
  rcases h with ⟨d, rfl, hd, rfl⟩ | ⟨⟨d, rfl, hd⟩ | rfl | ⟨rfl, hl, hm⟩, rfl⟩
  · refine ⟨some d, .inl ⟨d, rfl, rfl⟩, ?_⟩
    show (s.answered .verify).faceResult n d = _
    unfold State.faceResult
    rw [validTag_iff.mpr hd, hx']
    simp
  · refine ⟨some d, .inl ⟨d, rfl, rfl⟩, ?_⟩
    show (s.answered .verify).faceResult n d = _
    unfold State.faceResult
    rw [show validTag d = false by rw [← Bool.not_eq_true, validTag_iff]; exact hd]
    rfl
  · exact ⟨none, .inr (.inl ⟨rfl, rfl⟩), rfl⟩
  · exact ⟨none, .inr (.inr ⟨rfl, hl, hm, rfl⟩), rfl⟩

/-- Settles O37: the tag part of the check and the result of face A follow from the answers. -/
theorem readsOfTheCheckAndOfFaceAAreTaken : Obligations.ReadsOfTheCheckAndOfFaceAAreTaken := by
  refine ⟨?check, ?faceA⟩
  case check =>
    intro s n left r k c got ho hk hn _ hr href _ hc
    obtain ⟨digits, he, hd⟩ := endsRead_check hc
    obtain ⟨w, a, part, outcome, hx, taken, hnone, hsome⟩ := exec_checkRead ho hk hn he hr href hd
    have l := taken.leaves hk hn
    refine ⟨fun h => exec_answerLimit_running ho h, _, a, part, outcome, hx, fun hg => ?_, fun d hg => ?_, fun hp => ?_, l.ends, l.others, l.keeps⟩
    · obtain ⟨ha, hp, hl⟩ := hnone hg
      exact ⟨ha, hp, (l.loads (by rw [ha]; exact href)).trans hl⟩
    · obtain ⟨h1, h2, h3⟩ := hsome d hg
      refine ⟨fun ref sl ht hs he => ?_, fun ref sl ht hs he => ?_, fun ht => ?_, l.reported d hg⟩
      · obtain ⟨ha, hp, ho, hw⟩ := h1 ref sl ht hs he
        refine ⟨ha, hp, ho, fun hpend => ?_⟩
        obtain ⟨-, -, -, -, hl⟩ := l.goesOn hpend
        rw [slot?_of_loads hl, hw]
      · obtain ⟨ha, hp, ho, hw⟩ := h2 ref sl ht hs he
        exact ⟨ha, hp, ho, (l.loads (by rw [ha]; exact href)).trans hw⟩
      · obtain ⟨ha, hp, ho, hw⟩ := h3 ht
        exact ⟨ha, hp, ho, (l.loads (by rw [ha]; exact href)).trans hw⟩
    · obtain ⟨h1, h2, h3, h4, -⟩ := l.goesOn hp
      exact ⟨h1, h2, h3, h4⟩
  case faceA =>
    intro s n left r c face _ hb ho hr hc
    obtain ⟨digits, he, hf⟩ := endsRead_faceA hr hc
    have es := exec_endsRead ho he
    rw [applyRead_faceA hb hf] at es
    have kf := facedA_keeps s face
    have idle : (s.facedA face).scanner .verify = ⟨none, (s.scanner .verify).waiting, none⟩ := by
      exact (answered_scanner .verify).trans (if_pos rfl)
    have kt : KeepsAllBut (.scanners :: .sent :: derived) (s.facedA face) ((s.facedA face).sendRead .verify).settle :=
      ((sendRead_keeps _ _).mono (by simp)).trans ((settle_keeps _).mono (by simp))
    refine ⟨fun h => exec_answerLimit_running ho h, _, es, ?_, fun rest hw => ⟨?_, ?_⟩, fun sc hsc => ?_, (kf.mono (by simp)).trans (kt.mono (by simp))⟩
    · rw [kt.label, facedA_label]
    · rw [settle_scanner, sendRead_scanner idle, if_pos rfl, hw]
      rfl
    · rw [settle_keeps _ .sent (by decide), sendRead_sent idle, hw]
      rfl
    · rw [settle_scanner, sendRead_scanner idle, if_neg hsc]
      exact (answered_scanner sc).trans (if_neg hsc)

end Sys2Proof.Machine
end

section
/-! SUPPORT. The wrappers: a wrapper ordered, idle or occupied, and a pallet WRAP_FAILED on the label order list (R117, R122, R125). -/

namespace Sys2Proof.Machine

open State

variable {bs : List Block} {r s t u v : State} {n : Nat} {ref : LoadRef} {x : Record} {w : Side} {o : Order} {why : Option Code}

/-! ### Station changes (R83) -/

/-- The reports of station changes alone. -/
def StationReports (l : List Report) : Prop := l.length ≤ 6 ∧ ∀ x ∈ l, x.kind = .stationChange

theorem settleStation_queues (s : State) (st : Station) :
    ∃ new, (new.length ≤ 1 ∧ ∀ x ∈ new, x.kind = .stationChange) ∧ Queues s (s.settleStation st) new := by
  unfold State.settleStation
  dsimp only
  split
  · exact ⟨[], by simp, .refl s⟩
  · have k : KeepsAllBut [.reported] s { s with reported := tset s.reported st.idx (s.stationState st) } :=
      (keeps_setReported (by simp)).mpr keeps_refl
    refine ⟨_, ?_, (Queues.of_keeps k).trans (.raise _ _)⟩
    simp [State.report]

theorem settleStations_queues (s : State) : ∃ new, StationReports new ∧ Queues s s.settleStations new := by
  have go (l : List Station) : ∀ s : State, ∃ new, (new.length ≤ l.length ∧ ∀ x ∈ new, x.kind = ReportKind.stationChange)
      ∧ Queues s (l.foldl State.settleStation s) new := by
    induction l with
    | nil => exact fun s => ⟨[], by simp, .refl s⟩
    | cons st l ih =>
      intro s
      obtain ⟨a, ⟨ha, hk⟩, qa⟩ := settleStation_queues s st
      obtain ⟨b, ⟨hb, hk'⟩, qb⟩ := ih (s.settleStation st)
      refine ⟨a ++ b, ⟨by simp; omega, fun x hx => (List.mem_append.mp hx).elim (hk x) (hk' x)⟩, qa.trans qb⟩
  exact go allStations s

theorem settleStations_keeps (s : State) : KeepsAllBut [.queue, .reported] s s.settleStations :=
  (keeps_settleStations (by simp)).mpr keeps_refl

theorem modSlot_loads_congr (h : t.plan.loads = s.plan.loads) (ref : LoadRef) (f : Slot → Slot) :
    (t.modSlot ref f).plan.loads = (s.modSlot ref f).plan.loads := by
  show t.plan.loads.map _ = s.plan.loads.map _
  rw [h]

/-! ### A pallet WRAP_FAILED (R122) -/

/-- The record of a pallet becomes WRAP_FAILED, before it joins the label order list. -/
def State.wrapFailing (s : State) (n : Nat) (why : Option Code) : State :=
  let u := ((s.modRecord n fun r => { r with verdict := some .wrapFailed }).enterFaults n why.toList).reject n .wrapFailed
  if why.isSome then u.count .wrapFaults else u

theorem failWrap_eq (s : State) (n : Nat) (w : Side) (why : Option Code) :
    s.failWrap n w why = (s.wrapFailing n why).joinLabelOrder n w true := by
  cases why <;> rfl

theorem wrapFailing_keeps (s : State) (n : Nat) (why : Option Code) :
    KeepsAllBut [.queue, .loads, .records, .counters] s (s.wrapFailing n why) := by
  have k1 : KeepsAllBut [.records] s (s.modRecord n fun r => { r with verdict := some .wrapFailed }) := by simp
  have k := (k1.mono (cs := [.queue, .loads, .records, .counters]) (by simp)).trans
    (((enterFaults_keeps _ n why.toList).mono (by simp)).trans ((reject_keeps _ n .wrapFailed).mono (by simp)))
  unfold State.wrapFailing
  dsimp only
  split
  · exact k.trans ((count_keeps _ _).mono (by simp))
  · exact k

section
variable (hx : s.record? n = some x)
include hx

/-- The record as it goes to its reject. -/
theorem wrapFailing_before (k : Nat) :
    ((s.modRecord n fun r => { r with verdict := some .wrapFailed }).enterFaults n why.toList).record? k
      = if k = n then some { x.withFaults why.toList with verdict := some .wrapFailed } else s.record? k := by
  have e (k : Nat) := modRecord_record? (s := s) (n := n) (f := fun r => { r with verdict := some .wrapFailed }) k
  rw [enterFaults_record?, e, e, if_pos rfl, hx]
  split <;> rfl

theorem wrapFailing_record? (k : Nat) : (s.wrapFailing n why).record? k
    = if k = n then some { x.withFaults why.toList with verdict := some .wrapFailed, ref := none } else s.record? k := by
  have e := reject_record? (s := (s.modRecord n fun r => { r with verdict := some .wrapFailed }).enterFaults n why.toList) (n := n)
    (c := .wrapFailed) k
  rw [wrapFailing_before hx, wrapFailing_before hx, if_pos rfl] at e
  have e' : (s.wrapFailing n why).record? k
      = (((s.modRecord n fun r => { r with verdict := some .wrapFailed }).enterFaults n why.toList).reject n .wrapFailed).record? k := by
    unfold State.wrapFailing
    dsimp only
    split
    · exact (count_keeps _ _).record? k
    · rfl
  rw [e', e]
  split <;> rfl

theorem wrapFailing_loads : (s.wrapFailing n why).plan.loads
    = match x.ref with | some ref => (s.modSlot ref Slot.rejected).plan.loads | none => s.plan.loads := by
  have hv := (wrapFailing_before (why := why) hx n).trans (if_pos rfl)
  have kb : KeepsAllBut [.records] s ((s.modRecord n fun r => { r with verdict := some .wrapFailed }).enterFaults n why.toList) := by
    have k1 : KeepsAllBut [.records] s (s.modRecord n fun r => { r with verdict := some .wrapFailed }) := by simp
    exact k1.trans (enterFaults_keeps _ n _)
  have e : (s.wrapFailing n why).plan.loads
      = (((s.modRecord n fun r => { r with verdict := some .wrapFailed }).enterFaults n why.toList).reject n .wrapFailed).plan.loads := by
    unfold State.wrapFailing
    dsimp only
    split
    · exact count_keeps _ _ .loads (by decide)
    · rfl
  rw [e, reject_loads hv]
  dsimp only [Record.withFaults]
  rcases x.ref with _ | ref
  · exact kb .loads (by decide)
  · exact modSlot_loads_congr (kb .loads (by decide)) ref _

theorem wrapFailing_slot? {sl : Slot} (hr : x.ref = some ref) (hs : s.slot? ref = some sl) :
    (s.wrapFailing n why).slot? ref = some sl.rejected := by
  have e := wrapFailing_loads (why := why) hx
  rw [hr] at e
  rw [slot?_of_loads e, modSlot_slot?, if_pos rfl, hs]
  rfl

theorem wrapFailing_queues : Queues s (s.wrapFailing n why)
    (s.rejectReport x .wrapFailed :: if why.isSome then halfReports s .wrapFaults else []) := by
  have hv := (wrapFailing_before (why := why) hx n).trans (if_pos rfl)
  have kb : KeepsAllBut [.records] s ((s.modRecord n fun r => { r with verdict := some .wrapFailed }).enterFaults n why.toList) := by
    have k1 : KeepsAllBut [.records] s (s.modRecord n fun r => { r with verdict := some .wrapFailed }) := by simp
    exact k1.trans (enterFaults_keeps _ n _)
  have kr := reject_keeps ((s.modRecord n fun r => { r with verdict := some .wrapFailed }).enterFaults n why.toList) n .wrapFailed
  have q := (Queues.of_keeps kb).trans (reject_queues hv .wrapFailed)
  rw [rejectReport_congr kb, List.nil_append] at q
  unfold State.wrapFailing
  dsimp only
  split
  · have qc := q.trans (.count _ .wrapFaults)
    rw [halfReports_congr kr, halfReports_congr kb] at qc
    exact qc
  · exact q

end

theorem wrapFailing_counters (s : State) (n : Nat) (c : Code) : (s.wrapFailing n (some c)).link.counters = s.counted .wrapFaults := by
  have kb : KeepsAllBut [.records] s ((s.modRecord n fun r => { r with verdict := some .wrapFailed }).enterFaults n [c]) := by
    have k1 : KeepsAllBut [.records] s (s.modRecord n fun r => { r with verdict := some .wrapFailed }) := by simp
    exact k1.trans (enterFaults_keeps _ n _)
  refine (count_counters _ _).trans ?_
  rw [counted_congr (reject_keeps _ n .wrapFailed), Option.toList_some, counted_congr kb]

/-- A pallet joins the label order list at its tail, WRAPPED (R126). -/
theorem joinLabelOrder_record? (n : Nat) (w : Side) (b : Bool) (k : Nat) :
    (s.joinLabelOrder n w b).record? k = if k = n then (s.record? n).map fun r => { r with stage := .wrapped } else s.record? k :=
  setStage_record? (s := s.modWrap _) k

theorem joinLabelOrder_wrap (s : State) (n : Nat) (w : Side) (b : Bool) :
    (s.joinLabelOrder n w b).wrap = { s.wrap with labelOrder := s.wrap.labelOrder ++ [⟨n, w, b⟩] } := rfl

theorem joinLabelOrder_wrapper (s : State) (n : Nat) (w v : Side) (b : Bool) : (s.joinLabelOrder n w b).wrapper v = s.wrapper v := rfl

theorem joinLabelOrder_keeps (s : State) (n : Nat) (w : Side) (b : Bool) : KeepsAllBut [.wrap, .records] s (s.joinLabelOrder n w b) := by
  simp

/-! ### A wrapper resumed (R117, R125) -/

/-- A wrapper ordered to wrap: its order is sent at once in RUN or DRAIN, and waits otherwise. -/
theorem orderWrapper_ordered (ho : (s.wrapper w).order = some o) : let u := s.wrapper w
    (s.working = true → (s.orderWrapper w).wrapper w = { u with
        status := .ordered, cause := none
        order := some { o with number := some u.nextOrder, sent := true, ack := some (s.setting .ackLimit), wrap := none }
        held := some u.nextOrder
        nextOrder := if 255 ≤ u.nextOrder then 1 else u.nextOrder + 1 }
      ∧ (s.orderWrapper w).sent = s.sent ++ [.order w u.nextOrder o.recipe o.height])
    ∧ (s.working = false → (s.orderWrapper w).wrapper w
          = { u with status := .ordered, cause := none, order := some { o with sent := false, ack := none, wrap := none } }
      ∧ (s.orderWrapper w).sent = s.sent) := by
  have e (f : WrapperState → WrapperState) : (s.modWrapper w f).wrapper w = f (s.wrapper w) := (modWrapper_wrapper w f w).trans (if_pos rfl)
  have hw (f : WrapperState → WrapperState) : (s.modWrapper w f).working = s.working := rfl
  constructor
  · intro h
    unfold State.orderWrapper
    dsimp only
    rw [if_pos ((hw _).trans h)]
    unfold State.sendOrder
    simp only [e, ho, Option.map_some]
    exact ⟨((modWrapper_wrapper w _ w).trans (if_pos rfl)).trans (by rw [e]; rfl), rfl⟩
  · intro h
    unfold State.orderWrapper
    dsimp only
    rw [if_neg (by rw [hw, h]; decide), e, ho]
    exact ⟨rfl, rfl⟩

/-- The rest of the wraps stays as it is where one wrapper is resumed. -/
structure OnlyWrapper (s t : State) (w : Side) : Prop where
  others : ∀ v, v ≠ w → t.wrapper v = s.wrapper v
  labelOrder : t.wrap.labelOrder = s.wrap.labelOrder

theorem OnlyWrapper.trans (h : OnlyWrapper r s w) (k : OnlyWrapper s t w) : OnlyWrapper r t w :=
  ⟨fun v hv => (k.others v hv).trans (h.others v hv), k.labelOrder.trans h.labelOrder⟩

theorem modWrapper_only (s : State) (w : Side) (f : WrapperState → WrapperState) : OnlyWrapper s (s.modWrapper w f) w :=
  ⟨fun v hv => (modWrapper_wrapper w f v).trans (if_neg hv), rfl⟩

theorem sendOrder_only (s : State) (w : Side) : OnlyWrapper s (s.sendOrder w) w := by
  unfold State.sendOrder
  dsimp only
  split
  · exact ⟨fun _ _ => rfl, rfl⟩
  · exact ⟨(modWrapper_only s w _).others, rfl⟩

theorem orderWrapper_only (s : State) (w : Side) : OnlyWrapper s (s.orderWrapper w) w := by
  unfold State.orderWrapper
  dsimp only
  split
  · exact (modWrapper_only s w _).trans (sendOrder_only _ w)
  · exact modWrapper_only s w _

end Sys2Proof.Machine
end

section
/-! PROOF. O31: STATION_RESUME of the wrappers and of the label unit. -/

namespace Sys2Proof.Machine

open State

variable {bs : List Block} {r s t u v : State} {n : Nat} {ref : LoadRef} {x : Record} {w : Side} {o : Order} {q : Req} {st : Station}

/-! ### STATION_RESUME (R92) -/

/-- The line after a station has been resumed: brought up to date, the reply sent. -/
def resumedBy (s v : State) (st : Station) : State := v.settle.send (s.reply 0x31 .ok (.station (v.stationState st)))

theorem exec_stationResume (h : Addressed q s) (hn : stationOf n = some st) :
    exec (.stationResume q n) s = .next (resumedBy s (s.asked.resumeStation st) st) := by
  have e : resumeStationOp n s.asked = (s.asked.resumeStation st, .ok, .station ((s.asked.resumeStation st).stationState st)) := by
    unfold resumeStationOp
    rw [hn]
  show Host.Outcome.next (serve 0x31 .changes (resumeStationOp n) q s) = _
  rw [serve_taken h e rfl (by decide)]
  rfl

theorem resumedBy_keeps (s v : State) (st : Station) : KeepsAllBut (.sent :: derived) v (resumedBy s v st) := by
  unfold resumedBy
  rw [keeps_send (by simp)]
  exact (settle_keeps v).mono (by simp [derived])

theorem resumedBy_sent (v : State) {x : StationState} (hx : v.stationState st = x) :
    (resumedBy s v st).sent = v.sent ++ [.reply s.link.address 0xB1 .ok (.station x)] := by
  subst x
  show v.settle.sent ++ _ = _
  rw [settle_keeps v .sent (by decide)]
  rfl

theorem resumedBy_requestKeeps (k : KeepsAllBut bs s.asked v) (h : bs ⊆ cs ++ .answering :: .sent :: derived) :
    RequestKeeps cs s (resumedBy s v st) := by
  have ka : KeepsAllBut [.answering] s s.asked := by simp
  exact ((ka.mono (by simp)).trans (k.mono h)).trans ((resumedBy_keeps s v st).mono (by simp))

theorem resumedBy_replied (k : KeepsAllBut bs s.asked v) {x : StationState} (hx : v.stationState st = x) (hs : .sent ∉ bs := by decide)
    (ha : .answering ∉ bs := by decide) : Replied s (resumedBy s v st) 0x31 .ok (.station x) := by
  refine ⟨?_, ?_⟩
  · rw [resumedBy_keeps s v st .answering (by decide), k .answering ha]
    rfl
  · rw [resumedBy_sent v hx, k .sent hs]
    rfl

/-! ### A wrapper (R125) -/

theorem resumedBy_wrapper (s v : State) (st : Station) (w : Side) : (resumedBy s v st).wrapper w = v.wrapper w :=
  (resumedBy_keeps s v st).wrapper w

theorem resumedBy_labelOrder (s v : State) (st : Station) : (resumedBy s v st).wrap.labelOrder = v.wrap.labelOrder :=
  congrArg WrapController.labelOrder (resumedBy_keeps s v st .wrap (by decide))

theorem occupyWrapper_wrapper (s : State) (w : Side) : (s.occupyWrapper w).wrapper w = { s.wrapper w with
    status := .doneOccupied, cause := none, held := none, order := (s.wrapper w).order.map Order.stopped } :=
  (modWrapper_wrapper w _ w).trans (if_pos rfl)

theorem idleWrapper_wrapper (s : State) (w : Side) : (s.idleWrapper w).wrapper w = { s.wrapper w with status := .idle, cause := none } :=
  (modWrapper_wrapper w _ w).trans (if_pos rfl)

theorem resumeWrapper_stalled (h : (s.wrapper w).status = .stalled) : s.resumeWrapper w = (s.occupyWrapper w).send (.abort w) := by
  unfold State.resumeWrapper
  simp only [h]

theorem resumeWrapper_empty (h : (s.wrapper w).status = .faulted) (hp : (s.wrapper w).pallet.bind s.record? = none) :
    s.resumeWrapper w = s.idleWrapper w := by
  unfold State.resumeWrapper
  simp only [h, hp]

section
variable (h : (s.wrapper w).status = .faulted) (hp : (s.wrapper w).pallet = some n) (hx : s.record? n = some x)
include h hp hx

theorem resumeWrapper_code {k : Code} (hc : (s.wrapper w).cause = some (.code k)) : s.resumeWrapper w =
    if x.stage ≠ .wrapping then s.occupyWrapper w
    else if x.wrapAttempts < s.setting .wrapAttempts then s.orderWrapper w
    else (s.occupyWrapper w).settleStations.failWrap n w none := by
  unfold State.resumeWrapper
  simp only [h, hp, Option.bind_some, hx, hc, record?_number hx, bne_iff_ne]

theorem resumeWrapper_move (hc : (s.wrapper w).cause = some .move) : s.resumeWrapper w =
    if n ∈ (s.place (.wrapper w)).occupants then s.orderWrapper w else s.idleWrapper w := by
  unfold State.resumeWrapper
  simp only [h, hp, Option.bind_some, hx, hc, record?_number hx, List.contains_iff_mem]

end

theorem wrapper_working (h : (s.wrapper w).status ≠ .faulted) (h' : (s.wrapper w).status ≠ .stalled) :
    s.stationState (.wrapper w) = .working := by
  unfold State.stationState
  cases e : (s.wrapper w).status <;> simp_all

theorem orderWrapper_working (s : State) (w : Side) (o : Order) (ho : (s.wrapper w).order = some o) :
    (s.orderWrapper w).stationState (.wrapper w) = .working := by
  have e := orderWrapper_ordered ho
  have hs : ((s.orderWrapper w).wrapper w).status = .ordered := by
    cases hw : s.working
    · rw [(e.2 hw).1]
    · rw [(e.1 hw).1]
  exact wrapper_working (by rw [hs]; decide) (by rw [hs]; decide)

/-- The order of a wrapper resumed, sent before the reply. -/
theorem resumed_ordered (ho : (s.wrapper w).order = some o) :
    OrderedWith s (resumedBy s (s.asked.orderWrapper w) (.wrapper w)) w o [.reply s.link.address 0xB1 .ok (.station .working)] := by
  have e := orderWrapper_ordered (s := s.asked) ho
  have hw : s.asked.working = s.working := rfl
  unfold OrderedWith
  rw [resumedBy_wrapper, resumedBy_sent _ (orderWrapper_working s.asked w o ho)]
  refine ⟨fun hm => ?_, fun hr hd => ?_⟩
  · obtain ⟨h1, h2⟩ := e.1 (by rw [hw, State.working]; simpa using hm)
    rw [h1, h2]
    exact ⟨rfl, by simp⟩
  · obtain ⟨h1, h2⟩ := e.2 (by rw [hw, State.working]; simp [hr, hd])
    rw [h1, h2]
    exact ⟨rfl, rfl⟩

/-- A pallet WRAP_FAILED at a resumption: no fault is entered and none counted. -/
def State.failedAnew (s : State) (n : Nat) (w : Side) : State := (s.occupyWrapper w).settleStations.failWrap n w none

theorem occupied_keeps (s : State) (w : Side) : KeepsAllBut [.wrap, .queue, .reported] s (s.occupyWrapper w).settleStations := by simp

theorem wrapFailing_none_keeps (s : State) (n : Nat) : KeepsAllBut [.queue, .loads, .records] s (s.wrapFailing n none) := by
  show KeepsAllBut _ s (((s.modRecord n fun r => { r with verdict := some .wrapFailed }).enterFaults n []).reject n .wrapFailed)
  simp [State.enterFaults]

theorem failedAnew_keeps (s : State) (n : Nat) (w : Side) :
    KeepsAllBut [.queue, .loads, .records, .wrap, .reported] s (s.failedAnew n w) := by
  unfold State.failedAnew
  rw [failWrap_eq]
  exact ((occupied_keeps s w).mono (by simp)).trans (((wrapFailing_none_keeps _ n).mono (by simp)).trans
    ((joinLabelOrder_keeps _ n w true).mono (by simp)))

theorem failedAnew_wrapper (s : State) (n : Nat) (w v : Side) : (s.failedAnew n w).wrapper v = (s.occupyWrapper w).wrapper v := by
  unfold State.failedAnew
  rw [failWrap_eq, joinLabelOrder_wrapper, (wrapFailing_keeps _ n none).wrapper, (settleStations_keeps _).wrapper]

theorem resumeWrapper_keeps (s : State) (w : Side) :
    KeepsAllBut [.queue, .loads, .records, .wrap, .reported, .sent] s (s.resumeWrapper w) := by
  unfold State.resumeWrapper
  dsimp only
  split
  · simp
  · split
    · simp
    · split
      · split
        · simp
        · split
          · simp
          · exact (failedAnew_keeps s _ w).mono (by simp)
      · split <;> simp
  · simp

theorem resumeWrapper_others {v : Side} (hv : v ≠ w) (s : State) : (s.resumeWrapper w).wrapper v = s.wrapper v := by
  unfold State.resumeWrapper
  dsimp only
  split
  · exact (modWrapper_only s w _).others v hv
  · split
    · exact (modWrapper_only s w _).others v hv
    · split
      · split
        · exact (modWrapper_only s w _).others v hv
        · split
          · exact (orderWrapper_only s w).others v hv
          · exact (failedAnew_wrapper s _ w v).trans ((modWrapper_only s w _).others v hv)
      · split
        · exact (orderWrapper_only s w).others v hv
        · exact (modWrapper_only s w _).others v hv
  · rfl

/-- The pallet of a wrapper resumed at its last attempt. -/
theorem failedAnew_leaves (hx : s.record? n = some x) :
    ((s.failedAnew n w).record? n = some { x with verdict := some .wrapFailed, ref := none, stage := .wrapped })
    ∧ (∀ k, k ≠ n → (s.failedAnew n w).record? k = s.record? k)
    ∧ (∀ ref sl, x.ref = some ref → s.slot? ref = some sl → (s.failedAnew n w).slot? ref = some sl.rejected)
    ∧ (x.ref = none → (s.failedAnew n w).plan.loads = s.plan.loads)
    ∧ (s.failedAnew n w).wrap.labelOrder = s.wrap.labelOrder ++ [⟨n, w, true⟩]
    ∧ ∃ new, new.length ≤ 6 ∧ Queues s (s.failedAnew n w) (new ++ [s.rejectReport x .wrapFailed]) := by
  have ko := occupied_keeps s w
  have hx' : (s.occupyWrapper w).settleStations.record? n = some x := (ko.record? n).trans hx
  obtain ⟨new, ⟨hl, -⟩, q⟩ := settleStations_queues (s.occupyWrapper w)
  have k1 : KeepsAllBut [.wrap] s (s.occupyWrapper w) := by simp
  have q0 := (Queues.of_keeps k1).trans q
  have ho : (s.occupyWrapper w).settleStations.wrap.labelOrder = s.wrap.labelOrder :=
    by
    rw [settleStations_keeps (s.occupyWrapper w) .wrap (by decide)]
    rfl
  unfold State.failedAnew
  rw [failWrap_eq]
  generalize (s.occupyWrapper w).settleStations = v at *
  have hr (k : Nat) := wrapFailing_record? (why := none) hx' k
  have kj := joinLabelOrder_keeps (v.wrapFailing n none) n w true
  have qf := (q0.trans (wrapFailing_queues (why := none) hx')).trans (.of_keeps kj)
  rw [rejectReport_congr ko] at qf
  refine ⟨?_, fun k hk => ?_, fun ref sl hr hs => ?_, fun hr => ?_, ?_, new, hl, ?_⟩
  · rw [joinLabelOrder_record?, if_pos rfl, hr, if_pos rfl]
    simp [withFaults_nil]
  · rw [joinLabelOrder_record?, if_neg hk, hr, if_neg hk, ko.record?]
  · rw [kj.slot?]
    exact wrapFailing_slot? hx' hr ((ko.slot? ref).trans hs)
  · refine (kj .loads (by decide)).trans ((wrapFailing_loads hx').trans ?_)
    rw [hr]
    exact ko .loads (by decide)
  · rw [joinLabelOrder_wrap]
    show (v.wrapFailing n none).wrap.labelOrder ++ _ = _
    rw [wrapFailing_keeps v n none .wrap (by decide), ho]
  · simpa using qf

theorem stationOf_wrapper (w : Side) : stationOf (w.number + 1) = some (.wrapper w) := by cases w <;> decide

/-- The wrapper clauses of O31, on the line after the resumption. -/
theorem wrapper_resumed (s : State) (w : Side) {done : Message} (hdone : done = .reply s.link.address 0xB1 .ok (.station .working)) :
    let u := s.wrapper w
    let t := resumedBy s (s.asked.resumeWrapper w) (.wrapper w)
    (u.status = .stalled → t.sent = s.sent ++ [.abort w, done] ∧ RequestKeeps [.wrap] s t
        ∧ t.wrapper w = { u with
            status := .doneOccupied, cause := none, held := none
            order := u.order.map fun o => { o with ack := none, wrap := none } }
        ∧ t.wrap.labelOrder = s.wrap.labelOrder)
    ∧ (u.status = .faulted → u.pallet.bind s.record? = none →
        t.wrapper w = { u with status := .idle, cause := none } ∧ Replied s t 0x31 .ok (.station .working)
        ∧ RequestKeeps [.wrap] s t) := by
  dsimp only
  constructor
  · intro h
    rw [resumeWrapper_stalled (s := s.asked) h]
    have e : ((s.asked.occupyWrapper w).send (.abort w)).wrapper w = _ := occupyWrapper_wrapper s.asked w
    have hst : ((s.asked.occupyWrapper w).send (.abort w)).stationState (.wrapper w) = .working :=
      wrapper_working (by rw [e]; nofun) (by rw [e]; nofun)
    have k : KeepsAllBut [.wrap, .sent] s.asked ((s.asked.occupyWrapper w).send (.abort w)) := by simp
    refine ⟨?_, resumedBy_requestKeeps k (by simp [derived]), ?_, ?_⟩
    · rw [resumedBy_sent _ hst, hdone]
      show (s.sent ++ [_]) ++ [_] = _
      simp
    · rw [resumedBy_wrapper, e]; rfl
    · rw [resumedBy_labelOrder]; rfl
  · intro h hp
    rw [resumeWrapper_empty (s := s.asked) h hp]
    have e := idleWrapper_wrapper s.asked w
    have hst : (s.asked.idleWrapper w).stationState (.wrapper w) = .working :=
      wrapper_working (by rw [e]; nofun) (by rw [e]; nofun)
    have k : KeepsAllBut [.wrap] s.asked (s.asked.idleWrapper w) := by simp [State.idleWrapper]
    exact ⟨by rw [resumedBy_wrapper, e]; rfl, resumedBy_replied k hst, resumedBy_requestKeeps k (by simp [derived])⟩

/-- The clauses of O31 for a FAULTED wrapper with its pallet and its order in hand. -/
theorem wrapper_faulted_resumed (s : State) (w : Side) {done : Message} (hdone : done = .reply s.link.address 0xB1 .ok (.station .working))
    (h : (s.wrapper w).status = .faulted) (hp : (s.wrapper w).pallet = some n) (hx : s.record? n = some x)
    (ho : (s.wrapper w).order = some o) :
    let u := s.wrapper w
    let t := resumedBy s (s.asked.resumeWrapper w) (.wrapper w)
    (∀ k, u.cause = some (.code k) →
      (x.stage = .wrapping → x.wrapAttempts < s.setting .wrapAttempts → OrderedWith s t w o [done]
        ∧ t.wrap.labelOrder = s.wrap.labelOrder ∧ RequestKeeps [.wrap] s t)
      ∧ (x.stage = .wrapping → s.setting .wrapAttempts ≤ x.wrapAttempts →
        t.record? n = some { x with verdict := some .wrapFailed, ref := none, stage := .wrapped }
        ∧ (∀ k, k ≠ n → t.record? k = s.record? k)
        ∧ (∀ ref sl, x.ref = some ref → s.slot? ref = some sl → t.slot? ref = some sl.rejected)
        ∧ (x.ref = none → t.plan.loads = s.plan.loads)
        ∧ t.wrap.labelOrder = s.wrap.labelOrder ++ [⟨n, w, true⟩]
        ∧ (QueueOpen s → Reported t .reject fun y =>
            y.track = some n ∧ y.load = x.ref.map (·.load) ∧ y.detail = Code.wrapFailed.number))
      ∧ (x.stage ≠ .wrapping → t.wrap.labelOrder = s.wrap.labelOrder ∧ RequestKeeps [.wrap] s t)
      ∧ (x.stage ≠ .wrapping ∨ s.setting .wrapAttempts ≤ x.wrapAttempts →
        t.wrapper w = { u with
          status := .doneOccupied, cause := none, held := none, order := some { o with ack := none, wrap := none } }
        ∧ Replied s t 0x31 .ok (.station .working)))
    ∧ (u.cause = some .move →
      (n ∈ (s.place (.wrapper w)).occupants → OrderedWith s t w o [done] ∧ RequestKeeps [.wrap] s t)
      ∧ (n ∉ (s.place (.wrapper w)).occupants → t.wrapper w = { u with status := .idle, cause := none }
          ∧ Replied s t 0x31 .ok (.station .working) ∧ RequestKeeps [.wrap] s t)) := by
  dsimp only
  have eo := occupyWrapper_wrapper s.asked w
  have hocc : (s.asked.occupyWrapper w).wrapper w = { s.wrapper w with
      status := .doneOccupied, cause := none, held := none, order := some { o with ack := none, wrap := none } } := by
    rw [eo, show (s.asked.wrapper w).order = some o from ho]; rfl
  have ko : KeepsAllBut [.wrap] s.asked (s.asked.occupyWrapper w) := by simp
  have kord : KeepsAllBut [.wrap, .sent] s.asked (s.asked.orderWrapper w) := by simp
  subst hdone
  refine ⟨fun k hk => ?_, fun hm => ?_⟩
  · rw [resumeWrapper_code (s := s.asked) h hp hx hk, show s.asked.setting .wrapAttempts = s.setting .wrapAttempts from rfl]
    refine ⟨fun hs ha => ?_, fun hs ha => ?_, fun hs => ?_, fun hsa => ?_⟩
    · rw [if_neg (not_not_intro hs), if_pos ha]
      exact ⟨resumed_ordered ho, (resumedBy_labelOrder _ _ _).trans (orderWrapper_only s.asked w).labelOrder,
        resumedBy_requestKeeps kord (by simp [derived])⟩
    · rw [if_neg (not_not_intro hs), if_neg (not_lt.mpr ha)]
      obtain ⟨h1, h2, h3, h4, h5, new, hl, q⟩ := failedAnew_leaves (s := s.asked) (w := w) hx
      have kt := resumedBy_keeps s (s.asked.failedAnew n w) (.wrapper w)
      have ef : (s.asked.occupyWrapper w).settleStations.failWrap n w none = s.asked.failedAnew n w := rfl
      rw [ef]
      refine ⟨(kt.record? n).trans h1, fun k hk => (kt.record? k).trans (h2 k hk), fun ref sl hr hs => (kt.slot? ref).trans (h3 ref sl hr hs),
        fun hr => (kt .loads (by decide)).trans (h4 hr), (resumedBy_labelOrder _ _ _).trans h5, fun hq => ?_⟩
      exact q.requestReported (x := s.asked.rejectReport x .wrapFailed) (by simp) rfl ⟨congrArg some (record?_number hx), rfl, rfl⟩ hq (by simp; omega)
    · rw [if_pos hs]
      exact ⟨resumedBy_labelOrder _ _ _, resumedBy_requestKeeps ko (by simp [derived])⟩
    · by_cases hs : x.stage = .wrapping
      · have ha := hsa.resolve_left (not_not_intro hs)
        rw [if_neg (not_not_intro hs), if_neg (not_lt.mpr ha)]
        have e := (failedAnew_wrapper s.asked n w w).trans hocc
        exact ⟨(resumedBy_wrapper _ _ _ _).trans e, resumedBy_replied (failedAnew_keeps s.asked n w)
          (wrapper_working (by rw [e]; nofun) (by rw [e]; nofun))⟩
      · rw [if_pos hs]
        exact ⟨(resumedBy_wrapper _ _ _ _).trans hocc, resumedBy_replied ko (wrapper_working (by rw [hocc]; nofun) (by rw [hocc]; nofun))⟩
  · rw [resumeWrapper_move (s := s.asked) h hp hx hm]
    refine ⟨fun hin => ?_, fun hin => ?_⟩
    · rw [if_pos (show n ∈ (s.asked.place (.wrapper w)).occupants from hin)]
      exact ⟨resumed_ordered ho, resumedBy_requestKeeps kord (by simp [derived])⟩
    · rw [if_neg (show n ∉ (s.asked.place (.wrapper w)).occupants from hin)]
      have e := idleWrapper_wrapper s.asked w
      have k : KeepsAllBut [.wrap] s.asked (s.asked.idleWrapper w) := by simp [State.idleWrapper]
      exact ⟨(resumedBy_wrapper _ _ _ _).trans e, resumedBy_replied k (wrapper_working (by rw [e]; nofun) (by rw [e]; nofun)),
        resumedBy_requestKeeps k (by simp [derived])⟩

end Sys2Proof.Machine
end

section
/-! PROOF. O31: STATION_RESUME of the label unit, and the obligation. -/

namespace Sys2Proof.Machine

open State

variable {bs : List Block} {r s t u v : State} {n : Nat} {ref : LoadRef} {x : Record} {w : Side} {o : Order} {q : Req} {st : Station}
  {cause : LabelCause} {purge : Purge} {p : LabelPallet}

/-- The purge of the label unit once its fault is cleared (R147). -/
def purgeAfter (cause : LabelCause) (purge : Purge) : Purge :=
  if cause = .move then purge else if purge = .running then .running else .pending

/-- The label unit with its fault cleared, before the purge. -/
def State.faultCleared (s : State) : State := (s.modLabel fun u => { u with fault := none }).settleStations

/-- The label unit with its fault cleared and the purge that follows. -/
def State.labelCleared (s : State) (cause : LabelCause) : State :=
  s.faultCleared.modLabel fun u => { u with purge := purgeAfter cause u.purge }

theorem labelCleared_keeps (s : State) (cause : LabelCause) : KeepsAllBut [.label, .queue, .reported] s (s.labelCleared cause) := by
  simp [State.labelCleared, State.faultCleared]

theorem faultCleared_label (s : State) : s.faultCleared.label = { s.label with fault := none } :=
  (settleStations_keeps (s.modLabel fun u => { u with fault := none })).wholeLabel

theorem labelCleared_label (s : State) (cause : LabelCause) :
    (s.labelCleared cause).label = { s.label with fault := none, purge := purgeAfter cause s.label.purge } := by
  show ({ s.faultCleared.label with purge := purgeAfter cause s.faultCleared.label.purge } : LabelController) = _
  rw [faultCleared_label]

theorem labelCleared_queues (s : State) (cause : LabelCause) : ∃ new, StationReports new ∧ Queues s (s.labelCleared cause) new := by
  obtain ⟨new, h, q⟩ := settleStations_queues (s.modLabel fun u => { u with fault := none })
  have k1 : KeepsAllBut [.label] s (s.modLabel fun u => { u with fault := none }) := by simp
  have k2 : KeepsAllBut [.label] (s.modLabel fun u => { u with fault := none }).settleStations (s.labelCleared cause) := by
    simp [State.labelCleared, State.faultCleared]
  exact ⟨new, h, by simpa using ((Queues.of_keeps k1).trans q).trans (.of_keeps k2)⟩

theorem makePurgePending_eq (hc : cause ≠ .move) (s : State) :
    s.makePurgePending = s.modLabel fun u => { u with purge := purgeAfter cause u.purge } := by
  unfold State.makePurgePending purgeAfter
  simp only [beq_iff_eq, if_neg hc]

theorem modLabel_purge_move (s : State) : (s.modLabel fun u => { u with purge := purgeAfter .move u.purge }) = s := rfl

theorem labelCleared_move (s : State) : s.labelCleared .move = s.faultCleared := by
  unfold State.labelCleared
  exact modLabel_purge_move s.faultCleared

theorem labelCleared_eq (hc : cause ≠ .move) (s : State) : s.faultCleared.makePurgePending = s.labelCleared cause := by
  rw [makePurgePending_eq hc]
  rfl

/-- The work of a cause that touches no pallet (R147). -/
theorem resumeLabelWork_clears (h : cause ≠ .applyTimeout ∨ s.label.pallet = none) : s.faultCleared.resumeLabelWork cause = s.labelCleared cause := by
  cases cause with
  | move => rw [labelCleared_move]; rfl
  | printTimeout => rw [State.resumeLabelWork, labelCleared_eq (cause := .printTimeout) (by decide)]
  | applyTimeout =>
    have hp := h.resolve_left (not_not_intro rfl)
    unfold State.resumeLabelWork
    dsimp only
    rw [labelCleared_eq (cause := .applyTimeout) (by decide)]
    simp only [labelCleared_label, hp]

theorem labelCleared_labelAttempts (hx : s.record? n = some x) : (s.labelCleared cause).labelAttempts n = x.labelAttempts := by
  unfold State.labelAttempts
  rw [(labelCleared_keeps s cause).record?, hx]
  rfl

/-- The work after APPLY_TIMEOUT: the label is tried again while attempts are left, and given up otherwise (R147). -/
theorem resumeLabelWork_apply (hp : s.label.pallet = some p) (hx : s.record? p.track = some x) : s.faultCleared.resumeLabelWork .applyTimeout =
    if x.labelAttempts ≤ s.setting .labelRetries then (s.labelCleared .applyTimeout).waitForPrint
    else (s.labelCleared .applyTimeout).failLabel p.track := by
  unfold State.resumeLabelWork
  dsimp only
  rw [labelCleared_eq (cause := .applyTimeout) (by decide)]
  simp only [labelCleared_label, hp, labelCleared_labelAttempts hx, (labelCleared_keeps s .applyTimeout).setting]

theorem resumeLabel_eq (h : s.label.fault = some cause) : s.resumeLabel =
    if (s.faultCleared.resumeLabelWork cause).label.condition = .arrived then (s.faultCleared.resumeLabelWork cause).beginLabelWork
    else s.faultCleared.resumeLabelWork cause := by
  unfold State.resumeLabel
  simp only [h, beq_iff_eq]
  rfl

/-! ### The work of a pallet begins (R136) -/

/-- The record of a pallet that a work begun on fails. -/
def State.workFailing (s : State) (n : Nat) : State :=
  (s.setStage n .toReject).raise .labelDone (noteOf n (s.refOf n) 3 (some 0))

theorem workFailing_keeps (s : State) (n : Nat) : KeepsAllBut [.queue, .records] s (s.workFailing n) := by
  simp [State.workFailing]

theorem workFailing_record? (k : Nat) : (s.workFailing n).record? k
    = if k = n then (s.record? n).map fun r => { r with stage := .toReject } else s.record? k :=
  ((raise_keeps _ _ _).record? k).trans (setStage_record? k)

theorem workFailing_queues (s : State) (n : Nat) : ∃ d, Queues s (s.workFailing n) [s.report .labelDone (noteOf n d 3 (some 0))] := by
  have k : KeepsAllBut [.records] s (s.setStage n .toReject) := by simp
  exact ⟨_, (Queues.of_keeps k).trans (.raise (s := s.setStage n .toReject) _ _)⟩

theorem beginLabelWork_none (h : s.label.pallet = none) : s.beginLabelWork = s := by
  unfold State.beginLabelWork
  simp only [h]

theorem beginLabelWork_some (h : s.label.pallet = some p) :
    s.beginLabelWork = if p.failed then (s.workFailing p.track).passOn p.track else s.waitForPrint := by
  unfold State.beginLabelWork
  simp only [h]
  rfl

/-! ### What a resumption of the label unit may touch -/

/-- The label unit's condition and faces, and the pallet of one record, may have changed. -/
structure LabelTouched (s v : State) (n : Nat) : Prop where
  label : ∃ c a b, v.label = { s.label with condition := c, faceA := a, faceB := b }
  others : ∀ k, k ≠ n → v.record? k = s.record? k ∧ v.move? k = s.move? k
  keeps : KeepsAllBut [.label, .records, .loads, .counters, .moves, .places, .queue] s v

theorem LabelTouched.trans (h : LabelTouched r s n) (k : LabelTouched s t n) : LabelTouched r t n := by
  obtain ⟨⟨_, _, _, h1⟩, h2, h3⟩ := h
  obtain ⟨⟨c, a, b, k1⟩, k2, k3⟩ := k
  exact ⟨⟨c, a, b, by rw [k1, h1]⟩, fun j hj => ⟨(k2 j hj).1.trans (h2 j hj).1, (k2 j hj).2.trans (h2 j hj).2⟩, h3.trans k3⟩

theorem LabelTouched.of_record (hk : KeepsAllBut [.records, .loads, .counters, .queue] s t) (hr : ∀ k, k ≠ n → t.record? k = s.record? k) :
    LabelTouched s t n :=
  ⟨⟨_, _, _, hk.wholeLabel⟩, fun k h => ⟨hr k h, hk.move? k⟩, hk.mono (by simp)⟩

theorem waitForPrint_touches (s : State) (n : Nat) : LabelTouched s s.waitForPrint n :=
  ⟨⟨_, _, _, rfl⟩, fun _ _ => ⟨rfl, rfl⟩, by simp [State.waitForPrint]⟩

theorem passOn_touches (s : State) (n : Nat) : LabelTouched s (s.passOn n) n := by
  rcases hx : s.record? n with _ | x
  · have e : s.askMove n (.spur .finish) = none := by simp only [State.askMove, hx]
    rw [State.passOn, e]
    exact ⟨⟨_, _, _, rfl⟩, fun _ _ => ⟨rfl, rfl⟩, by simp⟩
  · obtain ⟨goes, l⟩ := passOn_leaves hx
    exact ⟨⟨_, _, _, l.label⟩, fun k hk => ⟨l.others k hk, l.moves k hk⟩, l.keeps.mono (by simp)⟩

theorem failLabel_touches (s : State) (n : Nat) : LabelTouched s (s.failLabel n) n := by
  rw [failLabel_eq]
  refine (LabelTouched.of_record ((labelFailing_keeps s n).mono (by simp)) fun k hk => ?_).trans (passOn_touches _ n)
  rw [labelFailing_record?, if_neg hk]

theorem beginLabelWork_touches (h : s.label.pallet = some p) : LabelTouched s s.beginLabelWork p.track := by
  rw [beginLabelWork_some h]
  split
  · refine (LabelTouched.of_record ((workFailing_keeps s _).mono (by simp)) fun k hk => ?_).trans (passOn_touches _ _)
    rw [workFailing_record?, if_neg hk]
  · exact waitForPrint_touches s _

/-- A label unit resumed: its fault cleared, and its pallet's work taken up. -/
theorem resumeLabel_touches (h : s.label.fault = some cause) :
    (s.label.pallet = none ∧ s.resumeLabel = s.labelCleared cause)
      ∨ ∃ p, s.label.pallet = some p ∧ LabelTouched (s.labelCleared cause) s.resumeLabel p.track := by
  rw [resumeLabel_eq h]
  rcases hp : s.label.pallet with _ | p
  · refine .inl ⟨rfl, ?_⟩
    rw [resumeLabelWork_clears (.inr hp), beginLabelWork_none (by rw [labelCleared_label, hp])]
    split <;> rfl
  · refine .inr ⟨p, rfl, ?_⟩
    have work : LabelTouched (s.labelCleared cause) (s.faultCleared.resumeLabelWork cause) p.track := by
      by_cases hc : cause = .applyTimeout
      · subst hc
        unfold State.resumeLabelWork
        dsimp only
        rw [labelCleared_eq (cause := .applyTimeout) (by decide)]
        simp only [labelCleared_label, hp]
        split
        · exact waitForPrint_touches _ _
        · exact failLabel_touches _ _
      · rw [resumeLabelWork_clears (.inl hc)]
        exact .of_record (by simp) fun _ _ => rfl
    split
    · refine work.trans (beginLabelWork_touches ?_)
      obtain ⟨⟨c, a, b, e⟩, -, -⟩ := work
      rw [e, labelCleared_label, hp]
    · exact work

/-! ### The pallet passed on (R143) -/

theorem PassedOnBy.passedOn {goes : Bool} (l : PassedOnBy u v n { x with stage := .toReject } goes) (hn : x.number = n)
    (ku : KeepsAllBut bs s u) (kt : KeepsAllBut cs v t) (hm : s.move? n = none)
    (hu : .places ∉ bs ∧ .lanes ∉ bs ∧ .moves ∉ bs := by decide)
    (ht : .places ∉ cs ∧ .moves ∉ cs ∧ .records ∉ cs ∧ .label ∉ cs := by decide) : PassedOn s t x := by
  have e := kt.label ht.2.2.2
  refine ⟨goes, l.may.trans ?_, ?_, ?_, fun hg => ?_, fun hg => ⟨?_, ?_⟩⟩
  · unfold PassesOn
    rw [ku.hasRoom _ hu.1 hu.2.1, ku.move? _ hu.2.2]
    show (x.location = .label ∧ s.move? x.number = none ∧ _) ↔ _
    rw [hn]
    simp [hm]
  · exact (congrArg t.record? hn).trans ((kt.record? _ ht.2.2.1).trans l.record)
  · rw [e]; exact congrArg LabelController.condition l.label
  · rw [hn]
    exact ((l.asked hg).of_keeps ku hu.1).to_keeps kt ht.1 ht.2.1
  · rw [hn, kt.move? _ ht.2.1]
    unfold State.move?
    rw [l.stays hg]
    exact (ku.move? n hu.2.2).trans hm
  · rw [kt.place _ ht.1, l.places _ (.inr hg), ku.place _ hu.1]

theorem Counted.send {k : Counter} (h : Counted s t k) (m : Message) : Counted s (t.send m) k := h

theorem Reported.send {k : ReportKind} {f : Report → Prop} (h : Reported t k f) (m : Message) : Reported (t.send m) k f := h

/-- A pallet given up at the label unit (R142), in a step that queues station changes before. -/
theorem failLabel_givenUp {new : List Report} {m : Message} (hx : s.record? n = some x) (hm : s.move? n = none)
    (ku : KeepsAllBut [.answering, .label, .queue, .reported] s u) (hnew : StationReports new) (qu : Queues s u new)
    (ht : t = (u.failLabel n).settle.send m) : LabelGivenUp s t x := by
  have hn := record?_number hx
  have hxu : u.record? n = some x := (ku.record? n).trans hx
  have hf := (labelFailing_record? (s := u) (n := n) n).trans ((if_pos rfl).trans (by rw [hxu, Option.map_some]))
  obtain ⟨goes, l⟩ := passOn_leaves hf
  rw [failLabel_eq] at ht
  have kf := labelFailing_keeps u n
  have kuf : KeepsAllBut [.answering, .label, .queue, .reported, .loads, .records, .counters] s (u.labelFailing n) :=
    (ku.mono (by simp)).trans (kf.mono (by simp))
  have kt : KeepsAllBut (.sent :: derived) ((u.labelFailing n).passOn n) t := by
    rw [ht, keeps_send (by simp)]
    exact (settle_keeps _).mono (by simp [derived])
  have q := (qu.trans (labelFailing_queues hxu)).trans (.of_keeps l.keeps)
  rw [rejectReport_congr ku, halfReports_congr ku, List.append_nil] at q
  have hh := Queues.halfReports_length s .labelFailures
  have hl := hnew.1
  have hlen : (new ++ s.rejectReport x .labelFailed :: halfReports s .labelFailures).length ≤ 32 := by simp; omega
  have hct : ((u.labelFailing n).passOn n).link.counters = s.counted .labelFailures := by
    rw [l.keeps .counters (by decide), labelFailing_counters, counted_congr ku]
  refine ⟨l.passedOn (x := { x with verdict := some .labelFailed, ref := none }) hn kuf kt hm, fun ref sl hr hs => ?_, ?_, fun k hk => ?_, fun hq => ?_⟩
  · rw [kt.slot?, l.keeps.slot?]
    exact labelFailing_slot? hxu hr ((ku.slot? ref).trans hs)
  · rw [ht]
    refine (counted_of (s := s) (t := (u.labelFailing n).passOn n) .labelFailures hct q hlen ?_).send m
    have none : new.filter (fun x => x.kind == .counterHalf && x.detail == Counter.labelFailures.number) = [] :=
      List.filter_eq_nil_iff.mpr fun y hy => by simp [hnew.2 y hy]
    rw [List.filter_append, none, List.nil_append, List.filter_cons_of_neg (by simp [State.rejectReport, State.report]), filter_halfReports]
  · rw [kt .counters (by decide), hct, tget_counted_of_ne _ hk]
  · rw [ht]
    exact (q.reported (x := s.rejectReport x .labelFailed) (by simp) rfl ⟨rfl, rfl, rfl⟩ hq hlen).send m

/-- The work of a pallet begun (R136), in a step that queues station changes before. -/
theorem beginLabelWork_begun {new : List Report} {m : Message} (hp : u.label.pallet = some p) (hx : s.record? p.track = some x)
    (hm : s.move? p.track = none) (ku : KeepsAllBut [.answering, .label, .queue, .reported] s u) (hnew : StationReports new)
    (qu : Queues s u new) (ht : t = u.beginLabelWork.settle.send m) : LabelWorkBegun s t x p.failed := by
  have hn := record?_number hx
  have hxu : u.record? p.track = some x := (ku.record? _).trans hx
  rw [beginLabelWork_some hp] at ht
  constructor
  · intro hf
    rw [hf, if_neg (by decide)] at ht
    have kt : KeepsAllBut (.sent :: derived) u.waitForPrint t := by
      rw [ht, keeps_send (by simp)]
      exact (settle_keeps _).mono (by simp [derived])
    have e := kt.label
    refine ⟨?_, by rw [e]; rfl, by rw [e]; rfl, by rw [e]; rfl⟩
    rw [hn]
    exact (kt.record? _).trans hxu
  · intro hf
    rw [hf, if_pos rfl] at ht
    have kw := workFailing_keeps u p.track
    obtain ⟨goes, l⟩ := passOn_leaves ((workFailing_record? (s := u) (n := p.track) p.track).trans ((if_pos rfl).trans (by rw [hxu, Option.map_some])))
    have kuf : KeepsAllBut [.answering, .label, .queue, .reported, .records] s (u.workFailing p.track) :=
      (ku.mono (by simp)).trans (kw.mono (by simp))
    have kt : KeepsAllBut (.sent :: derived) ((u.workFailing p.track).passOn p.track) t := by
      rw [ht, keeps_send (by simp)]
      exact (settle_keeps _).mono (by simp [derived])
    obtain ⟨d, qd⟩ := workFailing_queues u p.track
    have q := (qu.trans qd).trans (.of_keeps l.keeps)
    have hl := hnew.1
    refine ⟨l.passedOn hn kuf kt hm, fun hq => ?_⟩
    rw [ht]
    exact (q.reported (x := u.report .labelDone (noteOf p.track d 3 (some 0))) (by simp) rfl ⟨congrArg some hn.symm, rfl, rfl⟩ hq (by simp; omega)).send m

theorem failLabel_condition (hx : s.record? n = some x) : (s.failLabel n).label.condition ≠ .arrived := by
  obtain ⟨goes, l⟩ := passOn_leaves ((labelFailing_record? (s := s) (n := n) n).trans ((if_pos rfl).trans (by rw [hx, Option.map_some])))
  rw [failLabel_eq, l.label]
  cases goes <;> simp

/-! ### The label unit of O31 -/

theorem asked_labelCleared_keeps (s : State) (cause : LabelCause) :
    KeepsAllBut [.answering, .label, .queue, .reported] s (s.asked.labelCleared cause) := by
  have ka : KeepsAllBut [.answering] s s.asked := by simp
  exact (ka.mono (by simp)).trans ((labelCleared_keeps s.asked cause).mono (by simp))

theorem asked_labelCleared_queues (s : State) (cause : LabelCause) :
    ∃ new, StationReports new ∧ Queues s (s.asked.labelCleared cause) new := by
  have ka : KeepsAllBut [.answering] s s.asked := by simp
  obtain ⟨new, h, q⟩ := labelCleared_queues s.asked cause
  exact ⟨new, h, by simpa using (Queues.of_keeps ka).trans q⟩

/-- What every resumption of the label unit leaves. -/
structure LabelResumed (s v : State) (cause : LabelCause) : Prop where
  label : ∃ c a b, v.label = { s.label with fault := none, purge := purgeAfter cause s.label.purge, condition := c, faceA := a, faceB := b }
  others : ∀ k, s.label.pallet.map (·.track) ≠ some k → v.record? k = s.record? k ∧ v.move? k = s.move? k
  keeps : KeepsAllBut [.label, .records, .loads, .counters, .moves, .places, .queue, .reported] s.asked v

theorem labelResumed (h : s.label.fault = some cause) : LabelResumed s s.asked.resumeLabel cause := by
  have kc := labelCleared_keeps s.asked cause
  have hl := labelCleared_label s.asked cause
  rcases resumeLabel_touches (s := s.asked) h with ⟨-, e⟩ | ⟨p, hp, htouch⟩
  · rw [e]
    exact ⟨⟨_, _, _, hl⟩, fun k _ => ⟨kc.record? k, kc.move? k⟩, kc.mono (by simp)⟩
  · obtain ⟨⟨c, a, b, e⟩, ho, k⟩ := htouch
    refine ⟨⟨c, a, b, by rw [e, hl]; rfl⟩, fun j hj => ?_, (kc.mono (by simp)).trans (k.mono (by simp))⟩
    have hne : j ≠ p.track := fun h => hj (by rw [show s.label.pallet = some p from hp, h]; rfl)
    exact ⟨(ho j hne).1.trans (kc.record? j), (ho j hne).2.trans (kc.move? j)⟩

theorem resumedBy_stationState_label (s v : State) : (resumedBy s v .label).stationState .label = v.stationState .label := by
  have e := (resumedBy_keeps s v .label).label
  unfold State.stationState
  rw [e]

/-- Settles O31: the wrapper or the label unit takes up its work by the cause of its fault. -/
theorem wrappersAndTheLabelUnitAreResumed : Obligations.WrappersAndTheLabelUnitAreResumed := by
  refine ⟨?wrapper, ?label⟩
  case wrapper =>
    rintro q w s _ done h rfl hdone
    have hx := exec_stationResume h (stationOf_wrapper w)
    have eres : s.asked.resumeStation (.wrapper w) = s.asked.resumeWrapper w := rfl
    rw [eres] at hx
    obtain ⟨h1, h2⟩ := wrapper_resumed s w hdone
    refine ⟨_, hx, fun v hv => (resumedBy_wrapper _ _ _ _).trans (resumeWrapper_others hv s.asked), h1, h2,
      fun n r o hf hp hr ho => wrapper_faulted_resumed s w hdone hf hp hr ho, ?_⟩
    exact resumedBy_requestKeeps (resumeWrapper_keeps s.asked w) (by simp [derived])
  case label =>
    intro q s cause purge h hf hpurge
    have hx := exec_stationResume (n := 4) (st := .label) h (by decide)
    have hp : purge = purgeAfter cause s.label.purge := hpurge
    have res := labelResumed hf
    obtain ⟨⟨c, a, b, hl⟩, others, keeps⟩ := res
    have kt := resumedBy_keeps s (s.asked.resumeStation .label) .label
    have et := kt.label
    have kc := asked_labelCleared_keeps s cause
    have hlab := labelCleared_label s.asked cause
    obtain ⟨new, hnew, qc⟩ := asked_labelCleared_queues s cause
    have eq := resumeLabel_eq (s := s.asked) hf
    have eres : s.asked.resumeStation .label = s.asked.resumeLabel := rfl
    rw [eres] at hx kt et
    have hcond : (s.asked.labelCleared cause).label.condition = s.label.condition := by rw [hlab]; rfl
    refine ⟨_, hx, by rw [et, hl], by rw [et, hl, hp], by rw [et, hl], by rw [et, hl], ?replied, fun hca hcl => ?clears,
      fun p r hca hpal hr hna => ?apply, fun p r hca hpal har hr hm => ?begun,
      fun k hk => ⟨(kt.record? k).trans (others k hk).1, (kt.move? k).trans (others k hk).2⟩, resumedBy_requestKeeps keeps (by simp [derived])⟩
    case replied => exact resumedBy_replied keeps (resumedBy_stationState_label s _).symm
    case clears =>
      have ev : s.asked.resumeLabel = s.asked.labelCleared cause := by
        rw [eq, resumeLabelWork_clears (s := s.asked) hcl, if_neg (by rw [hcond]; exact hca)]
      rw [ev] at et ⊢
      refine ⟨et.trans ?_, resumedBy_requestKeeps (labelCleared_keeps s.asked cause) (by simp [derived])⟩
      rw [hlab, hp, asked_label]
    case apply =>
      subst hca
      have ework := resumeLabelWork_apply (s := s.asked) hpal hr
      rw [show s.asked.setting .labelRetries = s.setting .labelRetries from rfl] at ework
      refine ⟨fun hle => ?_, fun hgt hm => ?_⟩
      · have ev : s.asked.resumeLabel = (s.asked.labelCleared .applyTimeout).waitForPrint := by
          rw [eq, ework, if_pos hle, if_neg nofun]
        rw [ev] at et ⊢
        refine ⟨by rw [et]; rfl, by rw [et]; rfl, by rw [et]; rfl, resumedBy_requestKeeps (bs := [.label, .queue, .reported]) ?_ (by simp [derived])⟩
        exact (labelCleared_keeps s.asked .applyTimeout).trans (by simp [State.waitForPrint])
      · have ev : s.asked.resumeLabel = (s.asked.labelCleared .applyTimeout).failLabel p.track := by
          rw [eq, ework, if_neg (not_le.mpr hgt), if_neg]
          exact failLabel_condition (by rw [kc.record?]; exact hr)
        rw [ev]
        exact failLabel_givenUp hr hm kc hnew qc rfl
    case begun =>
      have ev : s.asked.resumeLabel = (s.asked.labelCleared cause).beginLabelWork := by
        rw [eq, resumeLabelWork_clears (s := s.asked) (.inl hca), if_pos (by rw [hcond]; exact har)]
      rw [ev]
      exact beginLabelWork_begun (by rw [hlab]; exact hpal) hr hm kc hnew qc rfl

end Sys2Proof.Machine
end

section
/-! PROOF. O28: a wrap ends with DONE. -/

namespace Sys2Proof.Machine

open State

variable {bs : List Block} {r s t u v : State} {n p film turns est : Nat} {ref : LoadRef} {x : Record} {w : Side} {o : Order} {sl : Slot}

/-! ### Film arithmetic (R120) -/

/-- The least integer not below a quotient. -/
theorem ceilDiv_isLeast {a b : Nat} (hb : 0 < b) : a ≤ ceilDiv a b * b ∧ ∀ k, a ≤ k * b → ceilDiv a b ≤ k := by
  have e : ceilDiv a b = (a + (b - 1)) / b := by simp [ceilDiv, hb.ne']
  rw [e]
  constructor
  · have h1 := Nat.div_add_mod (a + (b - 1)) b
    have h2 := Nat.mod_lt (a + (b - 1)) hb
    rw [Nat.mul_comm] at h1
    omega
  · intro k hk
    rw [Nat.div_le_iff_le_mul hb]
    omega

theorem least_eq {P : Nat → Prop} {a b : Nat} (ha : P a ∧ ∀ k, P k → a ≤ k) (hb : P b ∧ ∀ k, P k → b ≤ k) : a = b :=
  le_antisymm (ha.2 b hb.1) (hb.2 a ha.1)

theorem filmEstimate_eq {rc : Recipe} {height length width : Nat} (ho : rc.overlap ≤ 70) (h : FilmEstimate rc height length width est) :
    filmEstimate rc height (length, width) = est := by
  obtain ⟨pitch, body, rfl, hb, hbl, he, hel⟩ := h
  have hp : 0 < 500 * (100 - rc.overlap) / 100 := Nat.div_pos (by omega) (by decide)
  have ebody : ceilDiv height (filmPitch rc) = body :=
    least_eq (P := fun k => height ≤ k * (500 * (100 - rc.overlap) / 100)) (ceilDiv_isLeast hp) ⟨hb, hbl⟩
  unfold filmEstimate
  dsimp only
  rw [ebody]
  exact least_eq (P := fun k => (rc.bottom + rc.top + body) * (2 * (length + width)) ≤ k * (100 + rc.prestretch))
    (ceilDiv_isLeast (by omega)) ⟨he, hel⟩

theorem filmMass_bounds (film linear : Nat) : filmMass film linear * 1000 ≤ film * linear + 500
    ∧ film * linear + 500 < (filmMass film linear + 1) * 1000 := by
  unfold filmMass
  omega

/-! ### DONE (R119) -/

theorem exec_done (hp : (s.wrapper w).pallet = some p) (ho : (s.wrapper w).order = some o) (hh : (s.wrapper w).held = some n)
    (h1 : 1 ≤ n) (h2 : n ≤ 255) (h3 : 1 ≤ turns) (h4 : turns ≤ 999) (h5 : film ≤ 65535)
    (hb : (s.wrapper w).status = .running ∨ ((s.wrapper w).status = .ordered ∧ o.sent = true)) :
    exec (.done w n turns film) s = .next (s.endWrap w p o film).settle := by
  show execDone w n turns film s = _
  have hbusy : (s.wrapper w).busy = true := by
    unfold WrapperState.busy
    rw [ho]
    rcases hb with h | ⟨h, hs⟩
    · rw [h]; rfl
    · simp [h, hs]
  have hv : (!validNumber n || decide (999 < turns) || decide (65535 < film)) = false := by
    simp [validNumber, within]; omega
  unfold execDone
  simp only [hp, ho, hh, hbusy, hv]
  simp; omega

/-- The record of a pallet once its film is known. -/
def State.wrappedRecord (s : State) (o : Order) (film : Nat) (x : Record) : Record :=
  { x with
    filmLength := some film
    filmMass := some (filmMass film (s.setting .filmLinearMass))
    shippedGross := x.mass.map fun m => m + filmMass film (s.setting .filmLinearMass)
      + (if o.recipe.topSheet then s.setting .topSheetMass else 0) }

/-- The line with the film of a pallet written. -/
def State.filmWritten (s : State) (p : Nat) (o : Order) (film : Nat) : State := s.modRecord p (s.wrappedRecord o film)

/-- The wrapper of a pallet that its wrap has ended on. -/
def State.wrapEnded (s : State) (w : Side) : State :=
  s.modWrapper w fun u => { u with status := .doneOccupied, held := none, order := u.order.map Order.stopped }

/-- The report of a wrap that ended. -/
def State.wrapDone (s : State) (p : Nat) (film detail : Nat) : State := s.raise .wrapDone (noteOf p (s.refOf p) detail (some film))

theorem footprint_eq (hr : s.refOf p = some ref) (hs : s.slot? ref = some sl) {i : Fin 4} (hi : i.val = sl.base) :
    s.footprint p = (s, ((tget s.plan.bases i).length, (tget s.plan.bases i).width)) := by
  have hb : sl.base < 4 := by omega
  have ei : (⟨sl.base, hb⟩ : Fin 4) = i := Fin.ext hi.symm
  unfold State.footprint
  simp only [hr, Option.bind_some, hs, hb, dif_pos, ei]

section
variable (hr : s.refOf p = some ref) (hs : s.slot? ref = some sl) {i : Fin 4} (hi : i.val = sl.base)
  (he : filmEstimate o.recipe o.height ((tget s.plan.bases i).length, (tget s.plan.bases i).width) = est)
include hr hs hi he

theorem endWrap_short (hsh : est ≠ 0 ∧ 4 * film < 3 * est) :
    s.endWrap w p o film = ((((s.filmWritten p o film).wrapFailing p (some .filmShort)).joinLabelOrder p w true).wrapDone p film 3).wrapEnded w := by
  have hb : filmShort film est = true := by simpa [filmShort] using hsh
  unfold State.endWrap
  rw [footprint_eq hr hs hi]
  dsimp only
  rw [he, hb]
  simp only [if_true, failWrap_eq]
  rfl

theorem endWrap_long (hsh : ¬ (est ≠ 0 ∧ 4 * film < 3 * est)) :
    s.endWrap w p o film = (((s.filmWritten p o film).wrapDone p film (if est ≠ 0 ∧ 3 * est < 2 * film then 2 else 1)).wrapEnded w).joinLabelOrder p w false := by
  have hb : filmShort film est = false := by
    rw [← Bool.not_eq_true]
    simpa [filmShort] using hsh
  have hl : (filmLong film est = true) = (est ≠ 0 ∧ 3 * est < 2 * film) := by simp [filmLong]
  unfold State.endWrap
  rw [footprint_eq hr hs hi]
  dsimp only
  rw [he, hb]
  simp only [Bool.false_eq_true, if_false, hl]
  rfl

end

theorem filmWritten_keeps (s : State) (p : Nat) (o : Order) (film : Nat) : KeepsAllBut [.records] s (s.filmWritten p o film) := by
  simp [State.filmWritten]

theorem filmWritten_record? (hx : s.record? p = some x) (k : Nat) :
    (s.filmWritten p o film).record? k = if k = p then some (s.wrappedRecord o film x) else s.record? k := by
  refine (modRecord_record? (f := s.wrappedRecord o film) k fun _ => rfl).trans ?_
  rw [hx]
  rfl

theorem wrapDone_keeps (s : State) (p film detail : Nat) : KeepsAllBut [.queue] s (s.wrapDone p film detail) := raise_keeps _ _ _

theorem wrapDone_queues (s : State) (p film detail : Nat) :
    Queues s (s.wrapDone p film detail) [s.report .wrapDone (noteOf p (s.refOf p) detail (some film))] := .raise _ _

theorem wrapEnded_keeps (s : State) (w : Side) : KeepsAllBut [.wrap] s (s.wrapEnded w) := by simp [State.wrapEnded]

theorem wrapEnded_wrapper (ho : (s.wrapper w).order = some o) (v : Side) : (s.wrapEnded w).wrapper v = if v = w then
    { s.wrapper w with status := .doneOccupied, held := none, order := some { o with ack := none, wrap := none } } else s.wrapper v := by
  refine (modWrapper_wrapper w _ v).trans ?_
  rw [ho]
  rfl

/-- What the end of a wrap leaves of the wraps. -/
structure WrapLeft (s v : State) (w : Side) (o : Order) (e : LabelEntry) : Prop where
  wrapper : ∀ c, v.wrapper c = if c = w then
    { s.wrapper w with status := .doneOccupied, held := none, order := some { o with ack := none, wrap := none } } else s.wrapper c
  labelOrder : v.wrap.labelOrder = s.wrap.labelOrder ++ [e]
  staging : v.wrap.staging = s.wrap.staging

section
variable (hx : s.record? p = some x) (hr : x.ref = some ref)
include hx

/-- A wrap that ends well. -/
theorem wrapPassed_leaves (hr : x.ref = some ref) (ho : (s.wrapper w).order = some o) {d : Nat}
    (hv : v = (((s.filmWritten p o film).wrapDone p film d).wrapEnded w).joinLabelOrder p w false) :
    (∀ k, v.record? k = if k = p then some { s.wrappedRecord o film x with stage := .wrapped } else s.record? k)
    ∧ WrapLeft s v w o ⟨p, w, false⟩ ∧ Queues s v [s.report .wrapDone (noteOf p (some ref) d (some film))]
    ∧ KeepsAllBut [.records, .wrap, .queue] s v := by
  have k1 := filmWritten_keeps s p o film
  have hr1 (k : Nat) := filmWritten_record? (o := o) (film := film) hx k
  have href : (s.filmWritten p o film).refOf p = some ref := (refOf_record ((hr1 p).trans (if_pos rfl))).trans hr
  have k2 := wrapDone_keeps (s.filmWritten p o film) p film d
  have q2 := (Queues.of_keeps k1).trans (wrapDone_queues (s.filmWritten p o film) p film d)
  have e1 : (s.filmWritten p o film).report .wrapDone (noteOf p (some ref) d (some film)) = s.report .wrapDone (noteOf p (some ref) d (some film)) := rfl
  rw [href, e1] at q2
  have k12 : KeepsAllBut [.records, .queue] s ((s.filmWritten p o film).wrapDone p film d) := (k1.mono (by simp)).trans (k2.mono (by simp))
  have hr2 (k : Nat) := (k2.record? k).trans (hr1 k)
  generalize (s.filmWritten p o film).wrapDone p film d = u at *
  have k3 := wrapEnded_keeps u w
  have hw3 (c : Side) := wrapEnded_wrapper (w := w) ((congrArg WrapperState.order (k12.wrapper w)).trans ho) c
  have k4 := joinLabelOrder_keeps (u.wrapEnded w) p w false
  have ew : u.wrap = s.wrap := k12 .wrap (by decide)
  subst hv
  refine ⟨fun k => ?_, ⟨fun c => ?_, ?_, ?_⟩, ?_, (k12.mono (by simp)).trans ((k3.mono (by simp)).trans (k4.mono (by simp)))⟩
  · rw [joinLabelOrder_record?, k3.record?, k3.record?, hr2, hr2, if_pos rfl]
    split <;> rfl
  · rw [joinLabelOrder_wrapper, hw3, k12.wrapper, k12.wrapper]
  · rw [joinLabelOrder_wrap]
    show u.wrap.labelOrder ++ _ = _
    rw [ew]
  · rw [joinLabelOrder_wrap]
    show u.wrap.staging = _
    rw [ew]
  · simpa using (q2.trans (.of_keeps k3)).trans (.of_keeps k4)

/-- A wrap that ends on a short film. -/
theorem wrapFailed_leaves (ho : (s.wrapper w).order = some o)
    (hv : v = ((((s.filmWritten p o film).wrapFailing p (some .filmShort)).joinLabelOrder p w true).wrapDone p film 3).wrapEnded w) :
    (∀ k, v.record? k = if k = p then
      some { (s.wrappedRecord o film x).withFaults [.filmShort] with verdict := some .wrapFailed, ref := none, stage := .wrapped } else s.record? k)
    ∧ (∀ ref sl, x.ref = some ref → s.slot? ref = some sl → v.slot? ref = some sl.rejected)
    ∧ v.link.counters = s.counted .wrapFaults
    ∧ WrapLeft s v w o ⟨p, w, true⟩
    ∧ (∃ d, Queues s v (s.rejectReport x .wrapFailed :: halfReports s .wrapFaults ++ [s.report .wrapDone (noteOf p d 3 (some film))]))
    ∧ KeepsAllBut [.records, .loads, .counters, .wrap, .queue] s v := by
  have k1 := filmWritten_keeps s p o film
  have hr1 (k : Nat) := filmWritten_record? (o := o) (film := film) hx k
  have hp1 := (hr1 p).trans (if_pos rfl)
  generalize s.filmWritten p o film = u at *
  have k2 := wrapFailing_keeps u p (some .filmShort)
  have hr2 (k : Nat) := wrapFailing_record? (why := some .filmShort) hp1 k
  have hs2 {ref : LoadRef} {sl : Slot} := wrapFailing_slot? (why := some .filmShort) (ref := ref) (sl := sl) hp1
  have hc2 := wrapFailing_counters u p .filmShort
  have q2 := (Queues.of_keeps k1).trans (wrapFailing_queues (why := some .filmShort) hp1)
  have er : u.rejectReport (s.wrappedRecord o film x) .wrapFailed = s.rejectReport x .wrapFailed := rejectReport_congr k1 x .wrapFailed
  rw [Option.isSome_some, if_pos rfl, halfReports_congr k1, er] at q2
  have k12 : KeepsAllBut [.records, .queue, .loads, .counters] s (u.wrapFailing p (some .filmShort)) := (k1.mono (by simp)).trans (k2.mono (by simp))
  generalize u.wrapFailing p (some .filmShort) = a at *
  have k3 := joinLabelOrder_keeps a p w true
  have hr3 (k : Nat) := joinLabelOrder_record? (s := a) p w true k
  have hw3 (c : Side) := joinLabelOrder_wrapper a p w c true
  have e3 := joinLabelOrder_wrap a p w true
  generalize a.joinLabelOrder p w true = b at *
  have k4 := wrapDone_keeps b p film 3
  have q4 := (q2.trans (.of_keeps k3)).trans (wrapDone_queues b p film 3)
  generalize b.wrapDone p film 3 = c at *
  have k5 := wrapEnded_keeps c w
  have hwc (v : Side) : c.wrapper v = s.wrapper v := (k4.wrapper v).trans ((hw3 v).trans (k12.wrapper v))
  have hw5 (v : Side) := wrapEnded_wrapper (w := w) ((congrArg WrapperState.order (hwc w)).trans ho) v
  have ewc : c.wrap = { s.wrap with labelOrder := s.wrap.labelOrder ++ [⟨p, w, true⟩] } := by
    rw [k4 .wrap (by decide), e3, k12 .wrap (by decide)]
  subst hv
  refine ⟨fun k => ?_, fun ref sl hr hs => ?_, ?_, ⟨fun c => ?_, ?_, ?_⟩, ⟨b.refOf p, ?_⟩,
    (k12.mono (by simp)).trans ((k3.mono (by simp)).trans ((k4.mono (by simp)).trans (k5.mono (by simp))))⟩
  · rw [k5.record?, k4.record?, hr3, hr2, hr2, if_pos rfl, hr1]
    split <;> rfl
  · rw [k5.slot?, k4.slot?, k3.slot?]
    exact hs2 hr ((k1.slot? ref).trans hs)
  · rw [k5 .counters (by decide), k4 .counters (by decide), k3 .counters (by decide), hc2, counted_congr k1]
  · rw [hw5, hwc, hwc]
  · show c.wrap.labelOrder = _
    rw [ewc]
  · show c.wrap.staging = _
    rw [ewc]
  · have et : b.lineTime = s.lineTime := (k3 .lineTime (by decide)).trans (k12 .lineTime (by decide))
    have q := q4.trans (.of_keeps k5)
    unfold State.report at q ⊢
    rw [et] at q
    simpa using q

end

/-- Settles O28: the film is written, and tested against its estimate. -/
theorem aWrapEndsWithDone : Obligations.AWrapEndsWithDone := by
  rintro w n turns film est p s _ o r ref sl b i rfl ho hp hh h1 h2 h3 h4 h5 hb hr href hsl hi rfl hov hest
  have he := filmEstimate_eq hov hest
  have hx := exec_done hp ho hh h1 h2 h3 h4 h5 hb
  obtain ⟨hm1, hm2⟩ := filmMass_bounds film (s.setting .filmLinearMass)
  have hrf : s.refOf p = some ref := (refOf_record hr).trans href
  refine ⟨_, _, _, hx, hm1, hm2, rfl, ?_⟩
  have kt := settle_keeps (s.endWrap w p o film)
  have hn := record?_number hr
  have wrap : (s.endWrap w p o film).settle.wrap = (s.endWrap w p o film).wrap := kt .wrap (by decide)
  by_cases hsh : est ≠ 0 ∧ 4 * film < 3 * est
  · have hv := endWrap_short (w := w) (o := o) (film := film) hrf hsl hi he hsh
    obtain ⟨hrec, hslot, hct, hwl, ⟨d, q⟩, k⟩ := wrapFailed_leaves hr ho hv
    generalize s.endWrap w p o film = v at *
    have hh := Queues.halfReports_length s .wrapFaults
    have hlen : (s.rejectReport r .wrapFailed :: halfReports s .wrapFaults ++ [s.report .wrapDone (noteOf p d 3 (some film))]).length ≤ 32 := by
      simp; omega
    refine ⟨fun h => absurd hsh h, fun _ _ => ⟨?_, (kt.slot? ref).trans (hslot ref sl href hsl), ?_, ?_, fun k hk => ?_, fun hq => ?_, fun hq => ?_⟩,
      ?_, fun c hc => ?_, ?_, fun j hj => (kt.record? j).trans ((hrec j).trans (if_neg hj)), (k.mono (by simp [derived])).trans (kt.mono (by simp [derived]))⟩
    · rw [kt.record?, hrec, if_pos rfl, withFaults_cons, withFaults_nil]
      unfold Record.enterFault
      by_cases hf : r.faults.length < 4
      · simp only [State.wrappedRecord, hf, if_true]
      · simp only [State.wrappedRecord, hf, if_false]
    · rw [wrap, hwl.labelOrder]
    · refine counted_of .wrapFaults hct q hlen ?_
      rw [List.cons_append, List.filter_cons_of_neg (by simp [State.rejectReport, State.report]), List.filter_append, filter_halfReports,
        List.filter_cons_of_neg (by simp [State.report])]
      simp
    · rw [settle_link_counters, hct, tget_counted_of_ne _ hk]
    · exact q.reported (x := s.report .wrapDone (noteOf p d 3 (some film))) (by simp) rfl ⟨rfl, rfl, rfl⟩ hq hlen
    · refine q.reported (x := s.rejectReport r .wrapFailed) (by simp) rfl ⟨congrArg some hn, ?_, ?_, rfl, ?_⟩ hq hlen
      · simp [State.rejectReport, State.report, noteOf, href]
      · simp [State.rejectReport, State.report, noteOf, href]
      · simp [State.rejectReport, State.report, noteOf, href, hsl, Slot.rejected]
    · rw [kt.wrapper, hwl.wrapper, if_pos rfl]
    · rw [kt.wrapper, hwl.wrapper, if_neg hc]
    · rw [wrap, hwl.staging]
  · have hv := endWrap_long (w := w) (o := o) (film := film) hrf hsl hi he hsh
    obtain ⟨hrec, hwl, q, k⟩ := wrapPassed_leaves hr href ho hv
    generalize s.endWrap w p o film = v at *
    refine ⟨fun _ => ⟨?_, (kt .loads (by decide)).trans (k .loads (by decide)), (kt .counters (by decide)).trans (k .counters (by decide)), ?_, fun hq => ?_⟩,
      fun h h' => absurd ⟨h, h'⟩ hsh, ?_, fun c hc => ?_, ?_, fun j hj => (kt.record? j).trans ((hrec j).trans (if_neg hj)),
      (k.mono (by simp [derived])).trans (kt.mono (by simp [derived]))⟩
    · rw [kt.record?, hrec, if_pos rfl]
      rfl
    · rw [wrap, hwl.labelOrder]
    · exact q.reported (List.mem_singleton_self _) rfl ⟨rfl, rfl, rfl, rfl⟩ hq
    · rw [kt.wrapper, hwl.wrapper, if_pos rfl]
    · rw [kt.wrapper, hwl.wrapper, if_neg hc]
    · rw [wrap, hwl.staging]

end Sys2Proof.Machine
end

section
/-! SUPPORT. The deletion of a record (R67): its move and its location given up. -/

namespace Sys2Proof.Machine

open State

variable {bs : List Block} {r s t u v : State} {n : Nat} {ref : LoadRef} {x : Record} {p k : Place} {why : Int} {m : Move}

/-! ### A place set anew (R43, R44, R67) -/

/-- The Mass Unit as CHECK may have become UNKNOWN: a zero capture ends with HUSH, and nothing else changes. -/
def ZeroMayEnd (s t : State) : Prop :=
  (t.mass = s.mass ∧ t.sent = s.sent)
    ∨ (s.zeroOpen = true ∧ t.mass.capture = none ∧ t.mass.settleEnd = none ∧ t.mass.limit = none ∧ t.sent = s.sent ++ [.hush])

theorem zeroOpen_capture (h : s.zeroOpen = true) : ∃ cap, s.mass.capture = some cap ∧ cap.purpose = .zero := by
  unfold State.zeroOpen at h
  split at h
  · exact ⟨_, ‹_›, by simpa using h⟩
  · cases h

theorem ZeroMayEnd.of_keeps (h : KeepsAllBut bs s t) (hm : .mass ∉ bs := by decide) (hs : .sent ∉ bs := by decide) : ZeroMayEnd s t :=
  .inl ⟨h .mass hm, h .sent hs⟩

theorem ZeroMayEnd.trans (h : ZeroMayEnd r s) (h' : ZeroMayEnd s t) : ZeroMayEnd r t := by
  rcases h with ⟨hm, hs⟩ | ⟨hz, hc, he, hl, hs⟩
  · rcases h' with ⟨hm', hs'⟩ | ⟨hz', hc', he', hl', hs'⟩
    · exact .inl ⟨hm'.trans hm, hs'.trans hs⟩
    · refine .inr ⟨?_, hc', he', hl', by rw [hs', hs]⟩
      unfold State.zeroOpen at hz' ⊢
      rw [← hm]
      exact hz'
  · rcases h' with ⟨hm', hs'⟩ | ⟨hz', -⟩
    · exact .inr ⟨hz, by rw [hm', hc], by rw [hm', he], by rw [hm', hl], hs'.trans hs⟩
    · obtain ⟨cap, hcap, -⟩ := zeroOpen_capture hz'
      rw [hc] at hcap
      cases hcap

/-- The report of a place that became UNKNOWN. -/
def State.unknownReport (s : State) (p : Place) (why : Int) : Report := s.report .placeUnknown { detail := p.number, value := some why }

/-- The reports of places set anew: none is of a station. -/
def PlaceReports (l : List Report) : Prop := ∀ x ∈ l, x.kind = .placeUnknown ∨ x.kind = .zeroDone

/-- What a change of places alone leaves: the Mass Unit but for a zero capture, and the queue. -/
structure PlacesMayFall (s t : State) (new : List Report) : Prop where
  zero : ZeroMayEnd s t
  queues : Queues s t new
  kinds : PlaceReports new
  grows : Grows (fun x => x.kind ≠ .stationChange) s t

theorem PlacesMayFall.trans {a b : List Report} (h : PlacesMayFall r s a) (h' : PlacesMayFall s t b) : PlacesMayFall r t (a ++ b) where
  zero := h.zero.trans h'.zero
  queues := h.queues.trans h'.queues
  kinds x hx := (List.mem_append.mp hx).elim (h.kinds x) (h'.kinds x)
  grows := h.grows.trans h'.grows

theorem PlacesMayFall.of_keeps (h : KeepsAllBut bs s t) (hm : .mass ∉ bs := by decide) (hs : .sent ∉ bs := by decide)
    (hq : .queue ∉ bs := by decide) (hk : .mask ∉ bs := by decide) : PlacesMayFall s t [] :=
  ⟨.of_keeps h hm hs, .of_keeps h hq hk, nofun, .of_keeps h hq⟩

theorem failZero_mayEnd (hz : s.zeroOpen = true) (d : Nat) : PlacesMayFall s (s.failZero d none) [s.report .zeroDone { detail := d, value := none }] := by
  obtain ⟨cap, hcap, -⟩ := zeroOpen_capture hz
  have e : s.closeCapture = (s.modMass fun m => { m with capture := none, settleEnd := none, limit := none }).send .hush :=
    if_pos (by rw [hcap]; rfl)
  have k : KeepsAllBut [.mass, .sent] s (s.closeCapture.modMass fun m => { m with status := .failed }) := by simp
  have kr := raise_keeps (s.closeCapture.modMass fun m => { m with status := .failed }) .zeroDone { detail := d, value := none }
  have q := (Queues.of_keeps k).trans (Queues.raise (s := s.closeCapture.modMass fun m => { m with status := .failed }) .zeroDone { detail := d, value := none })
  have et : (s.closeCapture.modMass fun m => { m with status := .failed }).lineTime = s.lineTime := k .lineTime (by decide)
  unfold State.report at q
  rw [et] at q
  refine ⟨.inr ⟨hz, ?_, ?_, ?_, ?_⟩, q, by simp [PlaceReports, State.report], (Grows.of_keeps k).trans (.raise (by simp [State.report]))⟩
  all_goals
    unfold State.failZero
  · rw [kr .mass (by decide), e]; rfl
  · rw [kr .mass (by decide), e]; rfl
  · rw [kr .mass (by decide), e]; rfl
  · rw [kr .sent (by decide), e]; rfl

/-- A place that becomes UNKNOWN. -/
theorem markUnknown_leaves (s : State) (p : Place) (why : Int) :
    ((s.markUnknown p why).field.places = (s.modPlace p fun e => { e with unknown := true, clearing := false }).field.places)
    ∧ ∃ rest, rest.length ≤ 1 ∧ PlacesMayFall s (s.markUnknown p why) (s.unknownReport p why :: rest) := by
  have k1 : KeepsAllBut [.places] s (s.modPlace p fun e => { e with unknown := true, clearing := false }) := by simp
  have k2 := raise_keeps (s.modPlace p fun e => { e with unknown := true, clearing := false }) .placeUnknown { detail := p.number, value := some why }
  have fall : PlacesMayFall s ((s.modPlace p fun e => { e with unknown := true, clearing := false }).raise .placeUnknown
      { detail := p.number, value := some why }) [s.unknownReport p why] := by
    refine ⟨.of_keeps (bs := [.places, .queue]) ((k1.mono (by simp)).trans (k2.mono (by simp))), (Queues.of_keeps k1).trans (.raise _ _),
      by simp [PlaceReports, State.unknownReport, State.report], (Grows.of_keeps k1).trans (.raise (by simp [State.report]))⟩
  unfold State.markUnknown
  dsimp only
  split
  · rename_i h
    have hz := (Bool.and_eq_true _ _ ▸ h).2
    generalize (s.modPlace p fun e => { e with unknown := true, clearing := false }).raise .placeUnknown { detail := p.number, value := some why } = u at *
    have kz : KeepsAllBut [.queue, .mass, .sent] u (u.failZero 5 none) := by simp
    refine ⟨(kz .places (by decide)).trans (k2 .places (by decide)), _, ?_, fall.trans (failZero_mayEnd hz 5)⟩
    simp
  · exact ⟨k2 .places (by decide), [], by simp, fall⟩

theorem vacate_leaves (s : State) (p : Place) (why : Int) :
    (∀ k, (s.vacate p why).place k = if k = p then { s.place p with unknown := s.covered p, clearing := false } else s.place k)
    ∧ ∃ new, new.length ≤ 2 ∧ PlacesMayFall s (s.vacate p why) new ∧ (s.covered p = true → s.unknownReport p why ∈ new) := by
  unfold State.vacate
  cases hc : s.covered p
  · have k : KeepsAllBut [.places] s (s.modPlace p fun e => { e with unknown := false, clearing := false }) := by simp
    exact ⟨fun c => modPlace_place p _ c, [], by simp, .of_keeps k, nofun⟩
  · obtain ⟨hp, rest, hl, fall⟩ := markUnknown_leaves s p why
    refine ⟨fun c => ?_, _, ?_, fall, fun _ => List.mem_cons_self ..⟩
    · have e : (s.markUnknown p why).place c = (s.modPlace p fun e => { e with unknown := true, clearing := false }).place c := by
        unfold State.place; rw [hp]
      exact e.trans (modPlace_place p _ c)
    · simp; omega

theorem vacate_keeps (s : State) (p : Place) (why : Int) : KeepsAllBut [.places, .queue, .mass, .sent] s (s.vacate p why) :=
  (keeps_vacate (by simp)).mpr keeps_refl

end Sys2Proof.Machine
end

section
/-! SUPPORT. The deletion of a record (R67): its move, its location, the check station and the reads. -/

namespace Sys2Proof.Machine

open State

variable {bs : List Block} {r s t u v : State} {n : Nat} {ref : LoadRef} {x : Record} {p k : Place} {why : Int} {m : Move}

/-! ### The move of a deleted record (R67, part 2) -/

theorem dropMove_none (h : s.move? n = none) : s.dropMove n = s := by
  unfold State.dropMove
  simp only [h]

theorem filter_track_of_move?_none (h : s.move? n = none) : (s.field.moves.filter fun m => m.track != n) = s.field.moves :=
  List.filter_eq_self.mpr fun m hm => by simpa using List.find?_eq_none.mp h m hm

/-- The line with a record's move out of the list, its destination no longer expecting it. -/
def State.moveDropped (s : State) (n : Nat) (p : Place) : State := (s.removeMove n).leaveIncoming p n

theorem moveDropped_keeps (s : State) (n : Nat) (p : Place) : KeepsAllBut [.moves, .places] s (s.moveDropped n p) := by
  simp [State.moveDropped]

theorem moveDropped_place (s : State) (n : Nat) (p k : Place) : (s.moveDropped n p).place k
    = if k = p then { s.place p with incoming := (s.place p).incoming.filter (· != n) } else s.place k :=
  modPlace_place p _ k

theorem moveDropped_occupancy (s : State) (n : Nat) (p q : Place) : (s.moveDropped n p).occupancy q = s.occupancy q := by
  have e : ((s.moveDropped n p).place q).occupants = (s.place q).occupants := by
    rw [moveDropped_place]
    split
    · rename_i h; rw [h]
    · rfl
  unfold State.occupancy
  cases q with
  | lane l => rfl
  | _ => exact congrArg List.length e

theorem dropMove_some (h : s.move? n = some m) : s.dropMove n =
    if s.covered m.dest = true ∨ s.occupancy m.dest = 0 then (s.moveDropped n m.dest).vacate m.dest 2 else s.moveDropped n m.dest := by
  have hc : (s.moveDropped n m.dest).covered m.dest = s.covered m.dest := (moveDropped_keeps s n m.dest).covered _
  unfold State.dropMove
  simp only [h]
  show (if ((s.moveDropped n m.dest).covered m.dest || (s.moveDropped n m.dest).occupancy m.dest == 0) = true then _ else _) = _
  rw [hc, moveDropped_occupancy]
  simp only [Bool.or_eq_true, beq_iff_eq]
  rfl

theorem dropMove_keeps (s : State) (n : Nat) : KeepsAllBut [.queue, .places, .moves, .mass, .sent] s (s.dropMove n) :=
  (keeps_dropMove (by simp)).mpr keeps_refl

theorem dropMove_moves (s : State) (n : Nat) : (s.dropMove n).field.moves = s.field.moves.filter fun m => m.track != n := by
  rcases h : s.move? n with _ | m
  · rw [dropMove_none h, filter_track_of_move?_none h]
  · rw [dropMove_some h]
    split
    · exact (vacate_keeps _ _ _ .moves (by decide)).trans rfl
    · rfl

/-- The destination of a deleted record's move. -/
theorem dropMove_place (h : s.move? n = some m) (k : Place) : (s.dropMove n).place k = if k = m.dest then
    { s.place m.dest with
      incoming := (s.place m.dest).incoming.filter (· != n)
      unknown := if s.covered m.dest then true else if s.occupancy m.dest = 0 then false else (s.place m.dest).unknown
      clearing := if s.covered m.dest ∨ s.occupancy m.dest = 0 then false else (s.place m.dest).clearing } else s.place k := by
  have hm := moveDropped_place s n m.dest
  have hc : (s.moveDropped n m.dest).covered m.dest = s.covered m.dest := (moveDropped_keeps s n m.dest).covered _
  rw [dropMove_some h]
  split
  · rename_i hv
    rw [(vacate_leaves _ _ _).1, hm, hm, hc, if_pos rfl]
    split
    · cases hcov : s.covered m.dest
      · have h0 := hv.resolve_left (by rw [hcov]; decide)
        simp [h0]
      · simp
    · rfl
  · rename_i hv
    obtain ⟨h1, h2⟩ := not_or.mp hv
    rw [hm]
    simp [h1, h2]

theorem dropMove_falls (s : State) (n : Nat) : ∃ new, new.length ≤ 2 ∧ PlacesMayFall s (s.dropMove n) new
    ∧ ∀ m, s.move? n = some m → s.covered m.dest = true → s.unknownReport m.dest 2 ∈ new := by
  rcases h : s.move? n with _ | m
  · rw [dropMove_none h]
    exact ⟨[], by simp, .of_keeps (bs := []) keeps_refl, nofun⟩
  · have k := moveDropped_keeps s n m.dest
    have hc : (s.moveDropped n m.dest).covered m.dest = s.covered m.dest := k.covered _
    rw [dropMove_some h]
    split
    · obtain ⟨-, new, hl, fall, hrep⟩ := vacate_leaves (s.moveDropped n m.dest) m.dest 2
      refine ⟨[] ++ new, hl, (PlacesMayFall.of_keeps k).trans fall, ?_⟩
      rintro _ ⟨⟩ hcov
      exact hrep (hc.trans hcov)
    · rename_i hv
      refine ⟨[], by simp, .of_keeps k, ?_⟩
      rintro _ ⟨⟩ hcov
      exact absurd (.inl hcov) hv

/-! ### The location of a deleted record (R67, part 3) -/

/-- The place is left by its last pallet, and no Lane Controller's. -/
def LastOf (s : State) (n : Nat) (p : Place) : Prop :=
  (∀ l, p ≠ .lane l) ∧ n ∈ (s.place p).occupants ∧ ∀ k ∈ (s.place p).occupants, k = n

theorem leaveOccupants_place (s : State) (p : Place) (n : Nat) (k : Place) : (s.leaveOccupants p n).place k
    = if k = p then { s.place p with occupants := (s.place p).occupants.filter (· != n) } else s.place k :=
  modPlace_place p _ k

theorem leaveOccupants_keeps (s : State) (p : Place) (n : Nat) : KeepsAllBut [.places] s (s.leaveOccupants p n) := by simp

theorem filter_isEmpty_iff {l : List Nat} : (l.filter (· != n)).isEmpty = true ↔ ∀ k ∈ l, k = n := by
  simp [List.filter_eq_nil_iff]

theorem leaveLocation_last (h : LastOf s n p) : s.leaveLocation n p = (s.leaveOccupants p n).vacate p 2 := by
  obtain ⟨hl, hn, hall⟩ := h
  have he : ((s.leaveOccupants p n).place p).occupants.isEmpty = true := by
    rw [leaveOccupants_place, if_pos rfl]
    exact filter_isEmpty_iff.mpr hall
  unfold State.leaveLocation
  rw [if_pos (by simpa using hn)]
  dsimp only
  split
  · exact absurd rfl (hl _)
  · rw [if_pos he]

theorem leaveLocation_notLast (h : ¬ LastOf s n p) : s.leaveLocation n p = s ∧ n ∉ (s.place p).occupants
    ∨ s.leaveLocation n p = s.leaveOccupants p n := by
  unfold State.leaveLocation
  by_cases hn : n ∈ (s.place p).occupants
  · right
    rw [if_pos (by simpa using hn)]
    dsimp only
    split
    · rfl
    · rename_i hp
      rw [if_neg]
      intro he
      refine h ⟨fun l e => ?_, hn, ?_⟩
      · exact hp l e
      · rw [leaveOccupants_place, if_pos rfl] at he
        exact filter_isEmpty_iff.mp he
  · left
    exact ⟨if_neg (by simpa using hn), hn⟩

theorem leaveLocation_place_last (h : LastOf s n p) (k : Place) : (s.leaveLocation n p).place k = if k = p then
    { s.place p with occupants := (s.place p).occupants.filter (· != n), unknown := s.covered p, clearing := false } else s.place k := by
  have hc : (s.leaveOccupants p n).covered p = s.covered p := (leaveOccupants_keeps s p n).covered _
  rw [leaveLocation_last h, (vacate_leaves _ _ _).1, leaveOccupants_place, leaveOccupants_place, if_pos rfl, hc]
  split <;> rfl

theorem leaveLocation_place_notLast (h : ¬ LastOf s n p) (k : Place) : (s.leaveLocation n p).place k = if k = p then
    { s.place p with occupants := (s.place p).occupants.filter (· != n) } else s.place k := by
  rcases leaveLocation_notLast h with ⟨e, hn⟩ | e
  · rw [e, List.filter_eq_self.mpr fun a ha => by simpa using fun (e : a = n) => hn (e ▸ ha)]
    split
    · rename_i hk; rw [hk]
    · rfl
  · rw [e, leaveOccupants_place]

theorem leaveLocation_keeps (s : State) (n : Nat) (p : Place) :
    KeepsAllBut [.queue, .places, .mass, .sent] s (s.leaveLocation n p) := (keeps_leaveLocation (by simp)).mpr keeps_refl

theorem leaveLocation_falls (s : State) (n : Nat) (p : Place) : ∃ new, new.length ≤ 2 ∧ PlacesMayFall s (s.leaveLocation n p) new
    ∧ (LastOf s n p → s.covered p = true → s.unknownReport p 2 ∈ new) := by
  have k := leaveOccupants_keeps s p n
  by_cases h : LastOf s n p
  · obtain ⟨-, new, hl, fall, hrep⟩ := vacate_leaves (s.leaveOccupants p n) p 2
    rw [leaveLocation_last h]
    exact ⟨[] ++ new, hl, (PlacesMayFall.of_keeps k).trans fall, fun _ hc => hrep ((k.covered p).trans hc)⟩
  · rcases leaveLocation_notLast h with ⟨e, -⟩ | e
    · rw [e]
      exact ⟨[], by simp, .of_keeps (bs := []) keeps_refl, fun h' => absurd h' h⟩
    · rw [e]
      exact ⟨[], by simp, .of_keeps k, fun h' => absurd h' h⟩

/-- However a deleted record leaves its location, it is no occupant of it, and no other place changes. -/
theorem leaveLocation_place (s : State) (n : Nat) (p : Place) : ((s.leaveLocation n p).place p).occupants = (s.place p).occupants.filter (· != n)
    ∧ ∀ k, k ≠ p → (s.leaveLocation n p).place k = s.place k := by
  by_cases h : LastOf s n p
  · exact ⟨by rw [leaveLocation_place_last h, if_pos rfl], fun k hk => by rw [leaveLocation_place_last h, if_neg hk]⟩
  · exact ⟨by rw [leaveLocation_place_notLast h, if_pos rfl], fun k hk => by rw [leaveLocation_place_notLast h, if_neg hk]⟩

/-! ### The reads of a deleted record (R67) -/

theorem without_outstanding_of_ne {e : ScannerState} : ∀ rd left, (e.without n).outstanding = some (rd, left) → rd.track ≠ n := by
  intro rd left h
  unfold ScannerState.without at h
  dsimp only at h
  split at h
  · split at h
    · cases h
    · rename_i ho hne
      dsimp only at h
      rw [ho] at h
      cases h
      simpa using hne
  · rename_i ho
    dsimp only at h
    rw [ho] at h
    cases h

theorem without_waiting (e : ScannerState) (n : Nat) : (e.without n).waiting = e.waiting.filter fun rd => rd.track != n := by
  unfold ScannerState.without
  dsimp only
  split
  · split <;> rfl
  · rfl

theorem without_without (e : ScannerState) (n : Nat) : (e.without n).without n = e.without n := by
  have hw : ((e.waiting.filter fun rd => rd.track != n).filter fun rd => rd.track != n) = e.waiting.filter fun rd => rd.track != n := by
    simp [List.filter_filter]
  rcases e with ⟨_ | ⟨rd, left⟩, w, ended⟩
  · simp only [ScannerState.without, hw]
  · by_cases h : rd.track = n
    · simp [ScannerState.without, h]
    · simp [ScannerState.without, h]

theorem without_ended {e : ScannerState} {rd : Read} {left : Nat} (h : e.outstanding = some (rd, left)) (ht : rd.track = n) :
    (e.without n).outstanding = none ∧ (e.without n).ended = some left := by
  unfold ScannerState.without
  simp [h, ht]

theorem endReads_scanner (s : State) (sc : Scanner) (n : Nat) (c : Scanner) :
    (s.endReads sc n).scanner c = if c = sc then (s.scanner sc).without n else s.scanner c := modScanner_scanner sc _ c

theorem endReads_keeps (s : State) (sc : Scanner) (n : Nat) : KeepsAllBut [.scanners] s (s.endReads sc n) := by simp

theorem endAllReads_keeps (s : State) (n : Nat) : KeepsAllBut [.scanners] s (allScanners.foldl (fun s sc => s.endReads sc n) s) :=
  (keeps_foldl (fun _ _ => by simp) _).mpr keeps_refl

theorem endAllReads_scanner (s : State) (n : Nat) (c : Scanner) :
    (allScanners.foldl (fun s sc => s.endReads sc n) s).scanner c = (s.scanner c).without n := by
  have go (l : List Scanner) : ∀ s : State, (l.foldl (fun s sc => s.endReads sc n) s).scanner c
      = if c ∈ l then (s.scanner c).without n else s.scanner c := by
    induction l with
    | nil => intro s; rfl
    | cons sc l ih =>
      intro s
      rw [List.foldl_cons, ih, endReads_scanner]
      by_cases hc : c = sc
      · subst c
        simp [without_without]
      · simp [hc]
  rw [go, if_pos]
  rcases c with i | _ | _
  · cases i <;> decide
  · decide
  · decide

end Sys2Proof.Machine
end

section
/-! SUPPORT. The blocks that hold a deleted record drop it (R91, R128, R149, R166). -/

namespace Sys2Proof.Machine

open State

variable {bs : List Block} {r s t u v : State} {n : Nat} {ref : LoadRef} {x : Record} {w : Side}

/-! ### The check station (R91) -/

/-- The check in progress without that of a deleted record. -/
def currentWithout (c : Option Check) (n : Nat) : Option Check :=
  match c with
  | some c => if c.track = n then none else some c
  | none => none

/-- The check of a record is closed, with its capture. -/
def State.checkClosed (s : State) (n : Nat) : State :=
  match s.check.current with
  | some c => if c.track == n then s.closeCapture.modCheck fun k => { k with current := none } else s
  | none => s

theorem checkClosed_keeps (s : State) (n : Nat) : KeepsAllBut [.check, .mass, .sent] s (s.checkClosed n) := by
  unfold State.checkClosed
  split
  · split <;> simp
  · simp

theorem checkClosed_check (s : State) (n : Nat) : (s.checkClosed n).check = { s.check with current := currentWithout s.check.current n } := by
  have k : KeepsAllBut [.mass, .sent] s s.closeCapture := by simp
  unfold State.checkClosed currentWithout
  rcases e : s.check.current with _ | c
  · simp only [← e]
  · by_cases h : c.track = n
    · simp only [h, beq_self_eq_true, if_true]
      show ({ s.closeCapture.check with current := none } : CheckStation) = _
      rw [k .check (by decide)]
    · simp only [h, beq_iff_eq, if_false, ← e]

/-- A capture that is open is closed with the check of the record. -/
theorem checkClosed_mass {c : Check} (hc : s.check.current = some c) (hn : c.track = n) :
    (s.checkClosed n).mass.capture = none ∧ (s.mass.capture = none → (s.checkClosed n).mass = s.mass ∧ (s.checkClosed n).sent = s.sent)
    ∧ (s.mass.capture.isSome = true → (s.checkClosed n).mass.settleEnd = none ∧ (s.checkClosed n).mass.limit = none
        ∧ (s.checkClosed n).sent = s.sent ++ [.hush]) := by
  have e : s.checkClosed n = s.closeCapture.modCheck fun k => { k with current := none } := by
    unfold State.checkClosed
    simp only [hc, hn, beq_self_eq_true, if_true]
  rw [e]
  unfold State.closeCapture
  rcases h : s.mass.capture with _ | cap
  · exact ⟨h, fun _ => ⟨rfl, rfl⟩, nofun⟩
  · exact ⟨rfl, nofun, fun _ => ⟨rfl, rfl, rfl⟩⟩

theorem checkClosed_other (h : ∀ c, s.check.current = some c → c.track ≠ n) : s.checkClosed n = s := by
  unfold State.checkClosed
  split
  · exact if_neg (by simpa using h _ ‹_›)
  · rfl

/-- The line after the check station has dropped a record, before its reported state follows. -/
def State.checkDropped (s : State) (n : Nat) : State :=
  ((s.checkClosed n).endReads .check n).modCheck fun c => { c with condition := if (s.checkClosed n).movesTo .check then .incoming else .empty }

theorem abandonCheck_eq (s : State) (n : Nat) : s.abandonCheck n = (s.checkDropped n).followStation .check := rfl

/-- The check station of a line that has dropped a record. -/
theorem abandonCheck_check (s : State) (n : Nat) : (s.abandonCheck n).check = { s.check with
    condition := if s.movesTo .check then .incoming else .empty
    current := currentWithout s.check.current n } := by
  have hm : (s.checkClosed n).movesTo .check = s.movesTo .check := by
    unfold State.movesTo
    rw [checkClosed_keeps s n .moves (by decide)]
  have hk := endReads_keeps (s.checkClosed n) .check n
  rw [abandonCheck_eq]
  show ({ ((s.checkClosed n).endReads .check n).check with condition := _ } : CheckStation) = _
  rw [hk .check (by decide), checkClosed_check, hm]

theorem abandonCheck_massSent (s : State) (n : Nat) :
    (s.abandonCheck n).mass = (s.checkClosed n).mass ∧ (s.abandonCheck n).sent = (s.checkClosed n).sent :=
  ⟨rfl, rfl⟩

theorem abandonCheck_keeps (s : State) (n : Nat) : KeepsAllBut [.scanners, .check, .mass, .sent, .reported] s (s.abandonCheck n) :=
  (keeps_abandonCheck (by simp)).mpr keeps_refl

theorem abandonCheck_reported (s : State) (n : Nat) :
    tget (s.abandonCheck n).reported Station.check.idx = (s.abandonCheck n).stationState .check := by
  rw [abandonCheck_eq]
  show tget (tset _ Station.check.idx ((s.checkDropped n).stationState .check)) Station.check.idx = (s.checkDropped n).stationState .check
  exact tget_tset_self _ _ _

theorem abandonCheck_scanner (s : State) (n : Nat) (c : Scanner) :
    (s.abandonCheck n).scanner c = if c = .check then (s.scanner .check).without n else s.scanner c := by
  have k := checkClosed_keeps s n
  show ((s.checkClosed n).endReads .check n).scanner c = _
  rw [endReads_scanner, k.scanner, k.scanner]

theorem checkHolds_iff : s.checkHolds x = true ↔ CheckHolds s x := by
  unfold State.checkHolds CheckHolds
  rcases s.check.current with _ | c <;> simp [or_assoc]

/-! ### The wrappers (R128) -/

/-- A wrapper that drops its deleted pallet. -/
def WrapperState.without (u : WrapperState) (n : Nat) (now : LineTime) : WrapperState :=
  if u.pallet = some n then { u.given now with held := if u.status = .stalled then none else u.held } else u

theorem leaveWrapper_wrapper (s : State) (w v : Side) :
    (s.leaveWrapper w).wrapper v = if v = w then (s.wrapper w).given s.lineTime else s.wrapper v := by
  refine (modWrapper_wrapper w _ v).trans ?_
  split
  · unfold WrapperState.given
    simp only [beq_iff_eq]
  · rfl

theorem dropFromWrapper_stalled (hp : (s.wrapper w).pallet = some n) (hs : (s.wrapper w).status = .stalled) :
    s.dropFromWrapper n w = ((s.modWrapper w fun u => { u with held := none }).send (.abort w)).leaveWrapper w := by
  unfold State.dropFromWrapper
  simp only [hp, hs, beq_self_eq_true, if_true]

theorem dropFromWrapper_standing (hp : (s.wrapper w).pallet = some n) (hs : (s.wrapper w).status ≠ .stalled) :
    s.dropFromWrapper n w = s.leaveWrapper w := by
  have hb : ((s.wrapper w).status == .stalled) = false := by simpa using hs
  unfold State.dropFromWrapper
  simp only [hp, hb, beq_self_eq_true, if_true, Bool.false_eq_true, if_false]

theorem dropFromWrapper_other (hp : (s.wrapper w).pallet ≠ some n) : s.dropFromWrapper n w = s := by
  have hb : ((s.wrapper w).pallet == some n) = false := by simpa using hp
  unfold State.dropFromWrapper
  simp only [hb, Bool.false_eq_true, if_false]

theorem dropFromWrapper_wrapper (s : State) (n : Nat) (w v : Side) :
    (s.dropFromWrapper n w).wrapper v = if v = w then (s.wrapper w).without n s.lineTime else s.wrapper v := by
  unfold WrapperState.without
  by_cases hp : (s.wrapper w).pallet = some n
  · rw [if_pos hp]
    by_cases hs : (s.wrapper w).status = .stalled
    · have e (c : Side) : ((s.modWrapper w fun u => { u with held := none }).send (.abort w)).wrapper c
          = if c = w then { s.wrapper w with held := none } else s.wrapper c := modWrapper_wrapper w _ c
      have et : ((s.modWrapper w fun u => { u with held := none }).send (.abort w)).lineTime = s.lineTime := rfl
      rw [dropFromWrapper_stalled hp hs, leaveWrapper_wrapper, e, e, if_pos rfl, et]
      split
      · simp [WrapperState.given, hs]
      · rfl
    · rw [dropFromWrapper_standing hp hs, leaveWrapper_wrapper, if_neg hs]
      rfl
  · rw [dropFromWrapper_other hp, if_neg hp]
    split
    · rename_i h; rw [h]
    · rfl

theorem dropFromWrapper_rest (s : State) (n : Nat) (w : Side) :
    (∀ k, (s.dropFromWrapper n w).staging k = s.staging k) ∧ (s.dropFromWrapper n w).wrap.labelOrder = s.wrap.labelOrder
    ∧ (s.dropFromWrapper n w).sent
      = s.sent ++ if (s.wrapper w).pallet = some n ∧ (s.wrapper w).status = .stalled then [.abort w] else [] := by
  by_cases hp : (s.wrapper w).pallet = some n
  · by_cases hs : (s.wrapper w).status = .stalled
    · rw [dropFromWrapper_stalled hp hs, if_pos ⟨hp, hs⟩]
      exact ⟨fun _ => rfl, rfl, rfl⟩
    · rw [dropFromWrapper_standing hp hs, if_neg fun h => hs h.2, List.append_nil]
      exact ⟨fun _ => rfl, rfl, rfl⟩
  · rw [dropFromWrapper_other hp, if_neg fun h => hp h.1, List.append_nil]
    exact ⟨fun _ => rfl, rfl, rfl⟩

/-- ABORT of the wrappers that hold a deleted pallet and are STALLED. -/
def State.aborts (s : State) (n : Nat) : List Message :=
  (if (s.wrapper .one).pallet = some n ∧ (s.wrapper .one).status = .stalled then [.abort .one] else [])
    ++ if (s.wrapper .two).pallet = some n ∧ (s.wrapper .two).status = .stalled then [.abort .two] else []

theorem mem_aborts {m : Message} : m ∈ s.aborts n ↔ ∃ w, m = .abort w ∧ (s.wrapper w).pallet = some n ∧ (s.wrapper w).status = .stalled := by
  unfold State.aborts
  rw [List.mem_append, List.mem_ite_nil_right, List.mem_ite_nil_right, List.mem_singleton, List.mem_singleton]
  constructor
  · rintro (⟨h, rfl⟩ | ⟨h, rfl⟩)
    · exact ⟨_, rfl, h⟩
    · exact ⟨_, rfl, h⟩
  · rintro ⟨w, rfl, h⟩
    cases w
    · exact .inl ⟨h, rfl⟩
    · exact .inr ⟨h, rfl⟩

/-- The Wrap Controller drops a deleted record. -/
theorem dropFromWrap_leaves (s : State) (n : Nat) :
    (∀ w, (s.dropFromWrap n).wrapper w = (s.wrapper w).without n s.lineTime)
    ∧ (∀ k, (s.dropFromWrap n).staging k = if (s.staging k).map (·.track) = some n then none else s.staging k)
    ∧ (s.dropFromWrap n).wrap.labelOrder = s.wrap.labelOrder.filter (·.track != n)
    ∧ (s.dropFromWrap n).sent = s.sent ++ s.aborts n := by
  unfold State.dropFromWrap
  dsimp only
  generalize hu : (s.modWrap fun u => { u with
    staging := tmap (fun e => match e with | some x => if x.track == n then none else some x | none => none) u.staging
    labelOrder := u.labelOrder.filter fun e => e.track != n }) = u
  have hw (w : Side) : u.wrapper w = s.wrapper w := by rw [← hu]; rfl
  have hs : u.sent = s.sent := by rw [← hu]; rfl
  have ht : u.lineTime = s.lineTime := by rw [← hu]; rfl
  have hl : u.wrap.labelOrder = s.wrap.labelOrder.filter (·.track != n) := by rw [← hu]; rfl
  have hst (k : Side) : u.staging k = if (s.staging k).map (·.track) = some n then none else s.staging k := by
    rw [← hu]
    show tget (tmap _ s.wrap.staging) k.idx = _
    rw [tget_tmap]
    show _ = if (tget s.wrap.staging k.idx).map (·.track) = some n then none else tget s.wrap.staging k.idx
    rcases tget s.wrap.staging k.idx with _ | e <;> simp
  clear hu
  obtain ⟨s1, l1, m1⟩ := dropFromWrapper_rest u n .one
  obtain ⟨s2, l2, m2⟩ := dropFromWrapper_rest (u.dropFromWrapper n .one) n .two
  have w1 (v : Side) := dropFromWrapper_wrapper u n .one v
  have t1 : (u.dropFromWrapper n .one).lineTime = u.lineTime :=
    (keeps_dropFromWrapper (bs := [.wrap, .sent]) (n := n) (w := .one) (by simp)).mpr keeps_refl .lineTime (by decide)
  refine ⟨fun w => ?_, fun k => by rw [s2, s1, hst], by rw [l2, l1, hl], ?_⟩
  · rw [dropFromWrapper_wrapper, w1, w1, t1, ht]
    cases w
    · rw [if_neg (by decide), if_pos rfl, hw]
    · rw [if_pos rfl, if_neg (by decide), hw]
  · have h2 : (u.dropFromWrapper n .one).wrapper .two = s.wrapper .two := by rw [w1, if_neg (by decide), hw]
    rw [m2, m1, hs, h2, hw, State.aborts, List.append_assoc]

end Sys2Proof.Machine
end

section
/-! SUPPORT. The label unit and the buffer drop a deleted record (R149, R166). -/

namespace Sys2Proof.Machine

open State

variable {bs : List Block} {r s t u v : State} {n : Nat} {ref : LoadRef} {x : Record} {w : Side}

/-! ### The label unit (R149) -/

/-- The purge asked for. -/
def LabelController.pended (u : LabelController) : LabelController := { u with purge := if u.purge = .running then .running else .pending }

theorem makePurgePending_label (s : State) : s.makePurgePending.label = s.label.pended := by
  unfold State.makePurgePending LabelController.pended
  simp only [beq_iff_eq]
  rfl

/-- The label unit without the jobs of a record. -/
def LabelController.jobless (u : LabelController) (n : Nat) : LabelController := if u.holdsJob n then (u.dropJob n).pended else u

/-- The label unit without a deleted record. -/
def LabelController.without (u : LabelController) (n : Nat) : LabelController :=
  if u.pallet.map (·.track) = some n then (if u.apply.isSome then (u.jobless n).pended else u.jobless n).given n else u.jobless n

theorem jobless_pallet (u : LabelController) (n : Nat) : (u.jobless n).pallet = u.pallet ∧ (u.jobless n).apply = u.apply := by
  unfold LabelController.jobless
  split <;> exact ⟨rfl, rfl⟩

/-- The line whose label unit has dropped the jobs of a record. -/
def State.jobsDropped (s : State) (n : Nat) : State := if s.label.holdsJob n then (s.modLabel fun u => u.dropJob n).makePurgePending else s

theorem jobsDropped_label (s : State) (n : Nat) : (s.jobsDropped n).label = s.label.jobless n := by
  unfold State.jobsDropped LabelController.jobless
  split
  · exact makePurgePending_label _
  · rfl

theorem jobsDropped_keeps (s : State) (n : Nat) : KeepsAllBut [.label] s (s.jobsDropped n) := by
  unfold State.jobsDropped
  split <;> simp [LabelController.dropJob]

theorem leaveLabel_label (s : State) (n : Nat) : (s.leaveLabel n).label = s.label.given n := by
  unfold State.leaveLabel LabelController.given
  by_cases h : s.label.pallet.map (·.track) = some n
  · simp only [h, beq_self_eq_true, if_true]
    rfl
  · have hb : (s.label.pallet.map (·.track) == some n) = false := by simpa using h
    simp only [hb, Bool.false_eq_true, if_false, h]

theorem dropFromLabel_eq (s : State) (n : Nat) : s.dropFromLabel n =
    if s.label.pallet.map (·.track) = some n then
      ((if s.label.apply.isSome then (s.jobsDropped n).makePurgePending else s.jobsDropped n).leaveLabel n).endReads .verify n
    else s.jobsDropped n := by
  obtain ⟨hp, ha⟩ := jobless_pallet s.label n
  unfold State.dropFromLabel
  dsimp only
  show (if ((s.jobsDropped n).label.pallet.map (·.track) == some n) = true then
      ((if (s.jobsDropped n).label.apply.isSome then _ else _) : State).leaveLabel n |>.endReads .verify n else s.jobsDropped n) = _
  rw [jobsDropped_label, hp, ha]
  simp only [beq_iff_eq]
  rfl

theorem dropFromLabel_label (s : State) (n : Nat) : (s.dropFromLabel n).label = s.label.without n := by
  rw [dropFromLabel_eq]
  unfold LabelController.without
  by_cases h : s.label.pallet.map (·.track) = some n
  · rw [if_pos h, if_pos h]
    have hk (u : State) : (u.endReads .verify n).label = u.label := rfl
    rw [hk, leaveLabel_label]
    split
    · rw [makePurgePending_label, jobsDropped_label]
    · rw [jobsDropped_label]
  · rw [if_neg h, if_neg h, jobsDropped_label]

theorem dropFromLabel_keeps (s : State) (n : Nat) : KeepsAllBut [.scanners, .label, .printLimit] s (s.dropFromLabel n) := by
  have hj := (jobsDropped_keeps s n).mono (cs := [.scanners, .label, .printLimit]) (by simp)
  rw [dropFromLabel_eq]
  split
  · have hp : KeepsAllBut [.scanners, .label, .printLimit] s (if s.label.apply.isSome then (s.jobsDropped n).makePurgePending else s.jobsDropped n) := by
      split
      · exact hj.trans (by simp)
      · exact hj
    exact hp.trans (by simp)
  · exact hj

theorem dropFromLabel_scanner (s : State) (n : Nat) (c : Scanner) :
    (s.dropFromLabel n).scanner c = s.scanner c ∨ (s.dropFromLabel n).scanner c = (s.scanner c).without n := by
  have hj (c : Scanner) : (s.jobsDropped n).scanner c = s.scanner c := (jobsDropped_keeps s n).scanner c
  rw [dropFromLabel_eq]
  split
  · have hp (c : Scanner) : ((if s.label.apply.isSome then (s.jobsDropped n).makePurgePending else s.jobsDropped n).leaveLabel n).scanner c
        = s.scanner c := by
      have hl (u : State) : (u.leaveLabel n).scanner c = u.scanner c := by
        unfold State.leaveLabel; split <;> rfl
      rw [hl]
      split
      · exact hj c
      · exact hj c
    rw [endReads_scanner, hp, hp]
    split
    · rename_i hc; rw [hc]; exact .inr rfl
    · exact .inl rfl
  · exact .inl (hj c)

theorem holdsJob_iff {u : LabelController} : u.holdsJob n = true ↔ ∃ j ∈ u.jobs, j.track = n := by
  simp [LabelController.holdsJob]

/-- The label unit without a deleted record, in the words of the rules. -/
theorem without_label (u : LabelController) (n : Nat) : u.without n = { u.given n with
    jobs := u.jobs.filter (·.track != n)
    ack := if ∃ j ∈ u.jobs, j.track = n ∧ j.state = .sent then none else u.ack
    purge := if (∃ j ∈ u.jobs, j.track = n) ∨ (u.pallet.map (·.track) = some n ∧ u.apply.isSome = true) then
      if u.purge = .running then .running else .pending else u.purge } := by
  have hjob : u.jobless n = { u with
      jobs := u.jobs.filter (·.track != n)
      ack := if ∃ j ∈ u.jobs, j.track = n ∧ j.state = .sent then none else u.ack
      purge := if ∃ j ∈ u.jobs, j.track = n then if u.purge = .running then .running else .pending else u.purge } := by
    unfold LabelController.jobless LabelController.pended LabelController.dropJob
    by_cases h : ∃ j ∈ u.jobs, j.track = n
    · rw [if_pos (holdsJob_iff.mpr h), if_pos h]
      simp only [List.any_eq_true, Bool.and_eq_true, beq_iff_eq]
    · have hf : (u.jobs.filter (·.track != n)) = u.jobs :=
        List.filter_eq_self.mpr fun j hj => by simpa using fun (e : j.track = n) => h ⟨j, hj, e⟩
      rw [if_neg fun e => h (holdsJob_iff.mp e), if_neg h, if_neg fun ⟨j, hj, e, _⟩ => h ⟨j, hj, e⟩, hf]
  unfold LabelController.without
  rw [hjob]
  unfold LabelController.given LabelController.pended
  by_cases hp : u.pallet.map (·.track) = some n
  · by_cases ha : u.apply.isSome = true
    · by_cases hj : ∃ j ∈ u.jobs, j.track = n
      · simp only [hp, ha, hj, if_true, and_self, or_true]
        by_cases hr : u.purge = .running <;> simp [hr]
      · simp only [hp, ha, hj, if_true, if_false, and_self, or_true]
    · simp only [hp, ha, if_true, and_false, or_false, Bool.false_eq_true, if_false]
  · simp only [hp, if_false, false_and, or_false]

/-! ### The buffer (R166) -/

theorem dropFromBuffer_keeps (s : State) (n : Nat) : KeepsAllBut [.buffer] s (s.dropFromBuffer n) :=
  (keeps_dropFromBuffer (by simp)).mpr keeps_refl

/-- The shuttle task without that of a deleted record. -/
def taskWithout (k : Option ShuttleTask) (n : Nat) : Option ShuttleTask :=
  match k with
  | some k => if k.track = n then none else some k
  | none => none

theorem dropFromBuffer_buffer (s : State) (n : Nat) : (s.dropFromBuffer n).buffer = { s.buffer with
    reserved := tmap (fun x => if x = some n then none else x) s.buffer.reserved
    task := taskWithout s.buffer.task n
    releases := s.buffer.releases.filter (·.track != n)
    forced := s.buffer.forced.filter (· != n)
    exitPallet := if s.buffer.exitPallet = some n then none else s.buffer.exitPallet } := by
  unfold State.dropFromBuffer BufferController.endTask BufferController.unreserve taskWithout
  simp only [beq_iff_eq]
  rfl

end Sys2Proof.Machine
end

section
/-! SUPPORT. What the deletion of a record leaves (R67). -/

namespace Sys2Proof.Machine

open State

variable {bs : List Block} {r s t u v : State} {n : Nat} {ref : LoadRef} {x : Record} {w : Side} {on : Bool} {why : Deletion}

/-- The slot of a deleted record has been told. -/
def State.told (s : State) (x : Record) (why : Deletion) : State :=
  match x.ref with
  | some ref => s.tellSlot ref why
  | none => s

/-- A deleted record's move and location given up. -/
def State.uprooted (s : State) (n : Nat) (p : Place) : State := (s.dropMove n).leaveLocation n p

/-- The check station has dropped a deleted record that it held. -/
def State.unchecked (s : State) (n : Nat) (on : Bool) : State := if on then s.abandonCheck n else s

/-- The other blocks and the scanners have dropped a deleted record, and it is gone. -/
def State.erased (s : State) (n : Nat) : State :=
  (allScanners.foldl (fun s sc => s.endReads sc n) (((s.dropFromWrap n).dropFromLabel n).dropFromBuffer n)).modTrack
    fun t => { t with records := t.records.filter fun r => r.number != n }

theorem deleteRecord_eq (hx : s.record? n = some x) (why : Deletion) :
    s.deleteRecord n why = (((s.told x why).uprooted n x.location).unchecked n (s.checkHolds x)).erased n := by
  unfold State.deleteRecord
  rw [hx]
  rfl

theorem told_keeps (s : State) (x : Record) (why : Deletion) : KeepsAllBut [.queue, .loads] s (s.told x why) := by
  unfold State.told
  split
  · exact (keeps_tellSlot (by simp)).mpr keeps_refl
  · exact keeps_refl

/-! ### The move and the location -/

theorem uprooted_keeps (s : State) (n : Nat) (p : Place) : KeepsAllBut [.queue, .places, .moves, .mass, .sent] s (s.uprooted n p) :=
  (dropMove_keeps s n).trans ((leaveLocation_keeps _ n p).mono (by simp))

theorem uprooted_moves (s : State) (n : Nat) (p : Place) : (s.uprooted n p).field.moves = s.field.moves.filter fun m => m.track != n :=
  (leaveLocation_keeps _ n p .moves (by decide)).trans (dropMove_moves s n)

theorem dropMove_place_of_ne {p : Place} (h : ∀ m, s.move? n = some m → m.dest ≠ p) : (s.dropMove n).place p = s.place p := by
  rcases e : s.move? n with _ | m
  · rw [dropMove_none e]
  · rw [dropMove_place e, if_neg fun hp => h m e hp.symm]

theorem lastOf_congr {p : Place} (h : t.place p = s.place p) : LastOf t n p ↔ LastOf s n p := by
  unfold LastOf
  rw [h]

theorem uprooted_falls (s : State) (n : Nat) (p : Place) : ∃ new, new.length ≤ 4 ∧ PlacesMayFall s (s.uprooted n p) new
    ∧ (∀ m, s.move? n = some m → s.covered m.dest = true → s.unknownReport m.dest 2 ∈ new)
    ∧ ((∀ m, s.move? n = some m → m.dest ≠ p) → LastOf s n p → s.covered p = true → s.unknownReport p 2 ∈ new) := by
  obtain ⟨a, ha, fa, ra⟩ := dropMove_falls s n
  obtain ⟨b, hb, fb, rb⟩ := leaveLocation_falls (s.dropMove n) n p
  have k := dropMove_keeps s n
  refine ⟨a ++ b, by simp; omega, fa.trans fb, fun m hm hc => List.mem_append_left _ (ra m hm hc), fun hd hl hc => List.mem_append_right _ ?_⟩
  have er : (s.dropMove n).unknownReport p 2 = s.unknownReport p 2 := by
    unfold State.unknownReport State.report
    rw [k .lineTime (by decide)]
  rw [← er]
  exact rb ((lastOf_congr (dropMove_place_of_ne hd)).mpr hl) ((k.covered p).trans hc)

/-! ### The check station, its capture and the messages -/

/-- The reports and derived parts untouched, what the check station leaves of the Mass Unit and of the messages. -/
structure MassLeft (s t : State) (n : Nat) (hs : List Message) : Prop where
  sent : t.sent = s.sent ++ hs
  hush : ∀ m ∈ hs, m = .hush
  closed : ∀ c, s.check.current = some c → c.track = n → t.mass.capture = none
    ∧ (s.mass.capture.isSome = true → .hush ∈ hs ∧ t.mass.settleEnd = none ∧ t.mass.limit = none)
  kept : (∀ c, s.check.current = some c → c.track ≠ n) → (∀ cap, s.mass.capture = some cap → cap.purpose ≠ .zero) → t.mass = s.mass ∧ hs = []

/-- The capture of a check that is dropped has been closed between two states. -/
structure CaptureClosed (u t : State) : Prop where
  closed : t.mass.capture = none
  idle : u.mass.capture = none → t.mass = u.mass ∧ t.sent = u.sent
  open_ : u.mass.capture.isSome = true → t.mass.settleEnd = none ∧ t.mass.limit = none ∧ t.sent = u.sent ++ [.hush]

theorem abandonCheck_closes {c : Check} (hc : u.check.current = some c) (hn : c.track = n) : CaptureClosed u (u.abandonCheck n) := by
  obtain ⟨em, es⟩ := abandonCheck_massSent u n
  obtain ⟨h1, h2, h3⟩ := checkClosed_mass hc hn
  rw [← em] at h1 h2 h3
  rw [← es] at h2 h3
  exact ⟨h1, h2, h3⟩

theorem unchecked_idle (h : ∀ c, u.check.current = some c → c.track ≠ n) :
    (u.unchecked n on).mass = u.mass ∧ (u.unchecked n on).sent = u.sent := by
  unfold State.unchecked
  split
  · obtain ⟨em, es⟩ := abandonCheck_massSent u n
    rw [em, es, checkClosed_other h]
    exact ⟨rfl, rfl⟩
  · exact ⟨rfl, rfl⟩

theorem MassLeft.of_closed {c : Check} (hcur : s.check.current = some c) (hn : c.track = n) (hz : ZeroMayEnd s u) (h : CaptureClosed u t) :
    ∃ hs, MassLeft s t n hs := by
  have absent : ¬ ∀ c, s.check.current = some c → c.track ≠ n := fun h => h c hcur hn
  obtain ⟨hcl, hidle, hopen⟩ := h
  rcases hz with ⟨hm, hs⟩ | ⟨-, hcap, hse, hl, hs⟩
  · rcases e : u.mass.capture with _ | cap
    · obtain ⟨-, k2⟩ := hidle e
      refine ⟨[], by rw [k2, hs, List.append_nil], by simp, fun _ _ _ => ⟨hcl, fun h => ?_⟩, fun h => absurd h absent⟩
      rw [← hm, e] at h
      cases h
    · obtain ⟨k1, k2, k3⟩ := hopen (by rw [e]; rfl)
      exact ⟨[.hush], by rw [k3, hs], by simp, fun _ _ _ => ⟨hcl, fun _ => ⟨by simp, k1, k2⟩⟩, fun h => absurd h absent⟩
  · obtain ⟨k1, k2⟩ := hidle hcap
    refine ⟨[.hush], by rw [k2, hs], by simp, fun _ _ _ => ⟨hcl, fun _ => ⟨by simp, ?_, ?_⟩⟩, fun h => absurd h absent⟩
    · rw [k1, hse]
    · rw [k1, hl]

theorem MassLeft.of_idle (absent : ∀ c, s.check.current = some c → c.track ≠ n) (hz : ZeroMayEnd s u) (hm : t.mass = u.mass) (hs : t.sent = u.sent) :
    ∃ hs, MassLeft s t n hs := by
  rcases hz with ⟨em, es⟩ | ⟨ho, -, -, -, es⟩
  · exact ⟨[], by rw [hs, es, List.append_nil], by simp, fun c h e => absurd e (absent c h), fun _ _ => ⟨hm.trans em, rfl⟩⟩
  · refine ⟨[.hush], by rw [hs, es], by simp, fun c h e => absurd e (absent c h), fun _ hz => ?_⟩
    obtain ⟨cap, hcap, hp⟩ := zeroOpen_capture ho
    exact absurd hp (hz cap hcap)

theorem unchecked_mass (hz : ZeroMayEnd s u) (hc : u.check = s.check) (hon : ∀ c, s.check.current = some c → c.track = n → on = true) :
    ∃ hs, MassLeft s (u.unchecked n on) n hs := by
  by_cases hcur : ∃ c, s.check.current = some c ∧ c.track = n
  · obtain ⟨c, hcc, hct⟩ := hcur
    rw [hon c hcc hct]
    have closes : CaptureClosed u (u.unchecked n true) := abandonCheck_closes (by rw [hc]; exact hcc) hct
    exact MassLeft.of_closed hcc hct hz closes
  · have absent : ∀ c, s.check.current = some c → c.track ≠ n := fun c h e => hcur ⟨c, h, e⟩
    obtain ⟨em, es⟩ := unchecked_idle (u := u) (on := on) (n := n) fun c h => absent c (by rw [← hc]; exact h)
    exact MassLeft.of_idle absent hz em es

theorem unchecked_keeps (s : State) (n : Nat) (on : Bool) :
    KeepsAllBut [.scanners, .check, .mass, .sent, .reported] s (s.unchecked n on) := by
  unfold State.unchecked
  split
  · exact abandonCheck_keeps s n
  · exact keeps_refl

theorem unchecked_scanner (s : State) (n : Nat) (on : Bool) (c : Scanner) :
    (s.unchecked n on).scanner c = s.scanner c ∨ (s.unchecked n on).scanner c = (s.scanner c).without n := by
  unfold State.unchecked
  split
  · rw [abandonCheck_scanner]
    split
    · rename_i h; rw [h]; exact .inr rfl
    · exact .inl rfl
  · exact .inl rfl

/-! ### The other blocks -/

/-- What the other blocks leave of a deleted record. -/
structure ErasedBy (s t : State) (n : Nat) : Prop where
  record : ∀ k, t.record? k = if k = n then none else s.record? k
  wrapper : ∀ w, t.wrapper w = (s.wrapper w).without n s.lineTime
  staging : ∀ k, t.staging k = if (s.staging k).map (·.track) = some n then none else s.staging k
  labelOrder : t.wrap.labelOrder = s.wrap.labelOrder.filter (·.track != n)
  label : t.label = s.label.without n
  buffer : t.buffer = { s.buffer with
    reserved := tmap (fun x => if x = some n then none else x) s.buffer.reserved
    task := taskWithout s.buffer.task n
    releases := s.buffer.releases.filter (·.track != n)
    forced := s.buffer.forced.filter (· != n)
    exitPallet := if s.buffer.exitPallet = some n then none else s.buffer.exitPallet }
  scanner : ∀ c, t.scanner c = (s.scanner c).without n
  sent : t.sent = s.sent ++ s.aborts n
  keeps : KeepsAllBut [.records, .scanners, .wrap, .label, .printLimit, .buffer, .sent] s t

theorem erased_leaves (s : State) (n : Nat) : ErasedBy s (s.erased n) n := by
  obtain ⟨hw, hst, hlo, hsent⟩ := dropFromWrap_leaves s n
  have kw : KeepsAllBut [.wrap, .sent] s (s.dropFromWrap n) := (keeps_dropFromWrap (by simp)).mpr keeps_refl
  have kl := dropFromLabel_keeps (s.dropFromWrap n) n
  have hl := dropFromLabel_label (s.dropFromWrap n) n
  have hls (c : Scanner) := dropFromLabel_scanner (s.dropFromWrap n) n c
  have kb := dropFromBuffer_keeps ((s.dropFromWrap n).dropFromLabel n) n
  have hb := dropFromBuffer_buffer ((s.dropFromWrap n).dropFromLabel n) n
  unfold State.erased
  generalize s.dropFromWrap n = a at *
  generalize a.dropFromLabel n = b at *
  generalize b.dropFromBuffer n = c at *
  have ks := endAllReads_keeps c n
  have hsc (k : Scanner) := endAllReads_scanner c n k
  generalize allScanners.foldl (fun s sc => s.endReads sc n) c = d at *
  have kr : KeepsAllBut [.records] d (d.modTrack fun t => { t with records := t.records.filter fun r => r.number != n }) := by simp
  have hr (k : Nat) : (d.modTrack fun t => { t with records := t.records.filter fun r => r.number != n }).record? k
      = if k = n then none else d.record? k := find?_filter_key _ k
  generalize (d.modTrack fun t => { t with records := t.records.filter fun r => r.number != n }) = t at *
  have kab : KeepsAllBut [.wrap, .sent, .scanners, .label, .printLimit] s b := (kw.mono (by simp)).trans (kl.mono (by simp))
  have kac : KeepsAllBut [.wrap, .sent, .scanners, .label, .printLimit, .buffer] s c := (kab.mono (by simp)).trans (kb.mono (by simp))
  have kcd : KeepsAllBut [.scanners, .records] c t := (ks.mono (by simp)).trans (kr.mono (by simp))
  have kat : KeepsAllBut [.scanners, .label, .printLimit, .buffer, .records] a t :=
    (kl.mono (by simp)).trans ((kb.mono (by simp)).trans (kcd.mono (by simp)))
  refine ⟨fun k => ?_, fun w => (kat.wrapper w).trans (hw w), fun k => (kat.staging k).trans (hst k), ?_, ?_, ?_, fun k => ?_,
    (kat .sent (by decide)).trans hsent, (kac.mono (by simp)).trans (kcd.mono (by simp))⟩
  · rw [hr, ks.record?, kac.record?]
  · rw [kat .wrap (by decide), hlo]
  · have e : t.label = b.label := kcd.wholeLabel.trans kb.wholeLabel
    rw [e, hl, kw.wholeLabel]
  · rw [kcd.wholeBuffer, hb, kab.wholeBuffer]
  · have ek : t.scanner k = d.scanner k := kr.scanner k
    rw [ek, hsc, kb.scanner]
    rcases hls k with e | e
    · rw [e, kw.scanner]
    · rw [e, without_without, kw.scanner]

end Sys2Proof.Machine
end

section
/-! SUPPORT. The deletion of a record as one step (R67), and the station reports that may follow it. -/

namespace Sys2Proof.Machine

open State

variable {bs : List Block} {r s t u v : State} {n : Nat} {ref : LoadRef} {x : Record} {w : Side} {on : Bool} {why : Deletion}

/-! ### The places of a deleted record's move and location -/

/-- A deleted record has no move to the place, from one of the list. -/
def NoMoveTo (s : State) (n : Nat) (p : Place) : Prop := ∀ m, s.move? n = some m → m.dest ≠ p

theorem uprooted_place_dest {m : Move} {p : Place} (hm : s.move? n = some m) (hd : m.dest ≠ p) :
    (s.uprooted n p).place m.dest = { s.place m.dest with
      incoming := (s.place m.dest).incoming.filter (· != n)
      unknown := if s.covered m.dest then true else if s.occupancy m.dest = 0 then false else (s.place m.dest).unknown
      clearing := if s.covered m.dest ∨ s.occupancy m.dest = 0 then false else (s.place m.dest).clearing } := by
  unfold State.uprooted
  rw [(leaveLocation_place _ n p).2 _ hd, dropMove_place hm, if_pos rfl]

theorem uprooted_place_other {p k : Place} (hk : k ≠ p) (hd : NoMoveTo s n k) : (s.uprooted n p).place k = s.place k := by
  unfold State.uprooted
  rw [(leaveLocation_place _ n p).2 _ hk, dropMove_place_of_ne hd]

theorem uprooted_place_last {p : Place} (hd : NoMoveTo s n p) (h : LastOf s n p) : (s.uprooted n p).place p
    = { s.place p with occupants := (s.place p).occupants.filter (· != n), unknown := s.covered p, clearing := false } := by
  have hp : (s.dropMove n).place p = s.place p := dropMove_place_of_ne hd
  unfold State.uprooted
  rw [leaveLocation_place_last ((lastOf_congr hp).mpr h), if_pos rfl, hp, (dropMove_keeps s n).covered]

theorem uprooted_place_notLast {p : Place} (hd : NoMoveTo s n p) (h : ¬ LastOf s n p) : (s.uprooted n p).place p
    = { s.place p with occupants := (s.place p).occupants.filter (· != n) } := by
  have hp : (s.dropMove n).place p = s.place p := dropMove_place_of_ne hd
  unfold State.uprooted
  rw [leaveLocation_place_notLast fun h' => h ((lastOf_congr hp).mp h'), if_pos rfl, hp]

theorem uprooted_gone (s : State) (n : Nat) (p : Place) : n ∉ ((s.uprooted n p).place p).occupants := by
  unfold State.uprooted
  rw [(leaveLocation_place _ n p).1]
  simp

/-- What the deletion of a record leaves, but for its slot and the reports. -/
structure Deleted (s t : State) (n : Nat) (x : Record) : Prop where
  record : ∀ k, t.record? k = if k = n then none else s.record? k
  wrapper : ∀ w, t.wrapper w = (s.wrapper w).without n s.lineTime
  staging : ∀ k, t.staging k = if (s.staging k).map (·.track) = some n then none else s.staging k
  labelOrder : t.wrap.labelOrder = s.wrap.labelOrder.filter (·.track != n)
  label : t.label = s.label.without n
  buffer : t.buffer = { s.buffer with
    reserved := tmap (fun x => if x = some n then none else x) s.buffer.reserved
    task := taskWithout s.buffer.task n
    releases := s.buffer.releases.filter (·.track != n)
    forced := s.buffer.forced.filter (· != n)
    exitPallet := if s.buffer.exitPallet = some n then none else s.buffer.exitPallet }
  scanner : ∀ c, t.scanner c = (s.scanner c).without n
  moves : t.field.moves = s.field.moves.filter fun m => m.track != n
  places : ∃ u, KeepsAllBut [.queue, .loads] s u ∧ t.field.places = (u.uprooted n x.location).field.places
  check : t.check = if s.checkHolds x = true then { s.check with
      condition := if s.field.moves.any fun m => m.track != n && m.dest == .check then .incoming else .empty
      current := currentWithout s.check.current n } else s.check
  followed : s.checkHolds x = true → tget t.reported Station.check.idx = t.stationState .check
  mass : ∃ w hs, MassLeft s w n hs ∧ t.mass = w.mass ∧ t.sent = w.sent ++ s.aborts n
  keeps : KeepsAllBut [.queue, .loads, .places, .moves, .records, .scanners, .check, .mass, .wrap, .label, .printLimit, .buffer, .sent, .reported] s t

theorem unchecked_check (s : State) (n : Nat) (on : Bool) : (s.unchecked n on).check = if on = true then { s.check with
    condition := if s.movesTo .check then .incoming else .empty
    current := currentWithout s.check.current n } else s.check := by
  unfold State.unchecked
  split
  · exact abandonCheck_check s n
  · rfl

theorem movesTo_of_filter {p : Place} (h : u.field.moves = s.field.moves.filter fun m => m.track != n) :
    u.movesTo p = s.field.moves.any fun m => m.track != n && m.dest == p := by
  unfold State.movesTo
  rw [h, List.any_filter]

theorem stationState_check_congr (h : t.check = s.check) : t.stationState .check = s.stationState .check := by
  unfold State.stationState
  rw [h]

theorem deleteRecord_leaves (hx : s.record? n = some x) (why : Deletion) : Deleted s (s.deleteRecord n why) n x := by
  have hn : x.number = n := record?_number hx
  have k1 := told_keeps s x why
  have k2 := uprooted_keeps (s.told x why) n x.location
  have hm : ((s.told x why).uprooted n x.location).field.moves = s.field.moves.filter fun m => m.track != n := by
    rw [uprooted_moves, k1 .moves (by decide)]
  obtain ⟨_, -, fall, -⟩ := uprooted_falls (s.told x why) n x.location
  have hz := (ZeroMayEnd.of_keeps k1).trans fall.zero
  rw [deleteRecord_eq hx]
  have hpl : ∃ u, KeepsAllBut [.queue, .loads] s u ∧ ((s.told x why).uprooted n x.location).field.places = (u.uprooted n x.location).field.places :=
    ⟨_, k1, rfl⟩
  have k12 : KeepsAllBut [.queue, .loads, .places, .moves, .mass, .sent] s ((s.told x why).uprooted n x.location) :=
    (k1.mono (by simp)).trans (k2.mono (by simp))
  generalize (s.told x why).uprooted n x.location = b at *
  have hon (c : Check) (hc : s.check.current = some c) (ht : c.track = n) : s.checkHolds x = true :=
    checkHolds_iff.mpr (.inr (.inr ⟨c, hc, ht.trans hn.symm⟩))
  obtain ⟨hs, mass⟩ := unchecked_mass hz (k12 .check (by decide)) hon
  have k3 := unchecked_keeps b n (s.checkHolds x)
  have hc := unchecked_check b n (s.checkHolds x)
  have hsc (c : Scanner) := unchecked_scanner b n (s.checkHolds x) c
  have hf : s.checkHolds x = true → tget (b.unchecked n (s.checkHolds x)).reported Station.check.idx
      = (b.unchecked n (s.checkHolds x)).stationState .check := fun h => by
    rw [h]
    exact abandonCheck_reported b n
  rw [movesTo_of_filter hm, k12 .check (by decide)] at hc
  generalize b.unchecked n (s.checkHolds x) = c at *
  have k13 : KeepsAllBut [.queue, .loads, .places, .moves, .mass, .sent, .scanners, .check, .reported] s c :=
    (k12.mono (by simp)).trans (k3.mono (by simp))
  have e := erased_leaves c n
  generalize c.erased n = d at *
  have ab : c.aborts n = s.aborts n := by
    unfold State.aborts
    rw [k13.wrapper, k13.wrapper]
  refine ⟨fun k => ?_, fun w => ?_, fun k => ?_, ?_, ?_, ?_, fun k => ?_, ?_, ?_, (e.keeps .check (by decide)).trans hc, fun h => ?_, ?_, ?_⟩
  · rw [e.record, k13.record?]
  · rw [e.wrapper, k13.wrapper, k13 .lineTime (by decide)]
  · rw [e.staging, k13.staging]
  · rw [e.labelOrder, k13 .wrap (by decide)]
  · rw [e.label, k13.wholeLabel]
  · rw [e.buffer, k13.wholeBuffer]
  · rw [e.scanner]
    rcases hsc k with h | h
    · rw [h, k12.scanner]
    · rw [h, without_without, k12.scanner]
  · rw [e.keeps .moves (by decide), k3 .moves (by decide), hm]
  · obtain ⟨u, hu, hp⟩ := hpl
    exact ⟨u, hu, by rw [e.keeps .places (by decide), k3 .places (by decide), hp]⟩
  · rw [e.keeps .reported (by decide), hf h, stationState_check_congr (e.keeps .check (by decide))]
  · exact ⟨c, hs, mass, e.keeps .mass (by decide), by rw [e.sent, ab]⟩
  · exact (k13.mono (by simp)).trans (e.keeps.mono (by simp))

/-! ### The reports of a deletion -/

/-- The reports that the deletion of a record queues after its slot has been told. -/
structure DeletionReports (s u t : State) (n : Nat) (p : Place) (new : List Report) : Prop where
  count : new.length ≤ 4
  queues : Queues u t new
  grows : Grows (fun x => x.kind ≠ .stationChange) u t
  dest : ∀ m, s.move? n = some m → s.covered m.dest = true → s.unknownReport m.dest 2 ∈ new
  left : NoMoveTo s n p → LastOf s n p → s.covered p = true → s.unknownReport p 2 ∈ new

theorem deleteRecord_reports (hx : s.record? n = some x) (why : Deletion) :
    ∃ new, DeletionReports s (s.told x why) (s.deleteRecord n why) n x.location new := by
  have k1 := told_keeps s x why
  obtain ⟨new, hl, fall, hd, hp⟩ := uprooted_falls (s.told x why) n x.location
  rw [deleteRecord_eq hx]
  generalize s.told x why = a at *
  generalize a.uprooted n x.location = b at *
  have k3 := unchecked_keeps b n (s.checkHolds x)
  generalize b.unchecked n (s.checkHolds x) = c at *
  have e := (erased_leaves c n).keeps
  generalize c.erased n = d at *
  have k : KeepsAllBut [.scanners, .check, .mass, .sent, .reported, .records, .wrap, .label, .printLimit, .buffer] b d :=
    (k3.mono (by simp)).trans (e.mono (by simp))
  have er (q : Place) : a.unknownReport q 2 = s.unknownReport q 2 := by
    unfold State.unknownReport State.report
    rw [k1 .lineTime (by decide)]
  have em : a.move? n = s.move? n := k1.move? n
  have hq : Queues a d new := by simpa using fall.queues.trans (Queues.of_keeps k)
  refine ⟨new, hl, hq, fall.grows.trans (.of_keeps k), fun m hm hc => ?_, fun hn hlast hc => ?_⟩
  · rw [← er]
    exact hd m (em.trans hm) ((k1.covered _).trans hc)
  · rw [← er]
    exact hp (fun m hm => hn m (em.symm.trans hm)) ((lastOf_congr (k1.place _)).mpr hlast) ((k1.covered _).trans hc)

end Sys2Proof.Machine
end

section
/-! SUPPORT. What stands in the blocks after a deletion, and the station reports that follow it. -/

namespace Sys2Proof.Machine

open State

variable {bs : List Block} {r s t u v : State} {n : Nat} {ref : LoadRef} {x : Record} {w : Side} {on : Bool} {why : Deletion}

theorem station_idx_injective : Function.Injective Station.idx := by
  have h : ∀ a ∈ allStations, ∀ b ∈ allStations, a.idx = b.idx → a = b := by decide
  have hm (a : Station) : a ∈ allStations := by
    cases a with
    | wrapper w => cases w <;> decide
    | _ => decide
  exact fun a b => h a (hm a) b (hm b)

theorem KeepsAllBut.placeState (k : KeepsAllBut bs s t) (p : Place) (h : .places ∉ bs := by decide) (hl : .lanes ∉ bs := by decide) :
    t.placeState p = s.placeState p := by
  unfold State.placeState
  rw [k.place p h, k.occupancy p h hl]

/-! ### No report of a check station whose reported state follows (R83, R91) -/

/-- A report that is no change of the check station's reported state. -/
def NotOfCheck (x : Report) : Prop := ¬ (x.kind = .stationChange ∧ x.detail = 1)

/-- The state CHECK reports is the one it has. -/
def CheckFollowed (s : State) : Prop := tget s.reported Station.check.idx = s.stationState .check

theorem CheckFollowed.of_keeps (h : CheckFollowed s) (k : KeepsAllBut bs s t) (hr : .reported ∉ bs := by decide) (hc : .check ∉ bs := by decide) :
    CheckFollowed t := by
  unfold CheckFollowed at *
  rw [k .reported hr, stationState_check_congr (k .check hc), h]

theorem CheckFollowed.settleStation (h : CheckFollowed s) (st : Station) :
    CheckFollowed (s.settleStation st) ∧ Grows NotOfCheck s (s.settleStation st) := by
  unfold State.settleStation
  dsimp only
  split
  · exact ⟨h, .refl s⟩
  · rename_i hne
    have hst : st ≠ .check := fun e => hne (by rw [e]; exact beq_iff_eq.mpr h)
    have hi : st.idx ≠ Station.check.idx := fun e => hst (station_idx_injective e)
    have k : KeepsAllBut [.reported] s { s with reported := tset s.reported st.idx (s.stationState st) } :=
      (keeps_setReported (by simp)).mpr keeps_refl
    have hu : CheckFollowed { s with reported := tset s.reported st.idx (s.stationState st) } := by
      show tget (tset s.reported st.idx (s.stationState st)) Station.check.idx = s.stationState .check
      rw [tget_tset_of_ne _ _ hi, h]
    refine ⟨hu.of_keeps (raise_keeps _ _ _), (Grows.of_keeps k).trans (.raise fun hx => hi (Fin.ext ?_))⟩
    have h1 : st.idx.val + 1 = 1 := hx.2
    show st.idx.val = 0
    omega

theorem CheckFollowed.settleStations (h : CheckFollowed s) : Grows NotOfCheck s s.settleStations := by
  have go (l : List Station) : ∀ s : State, CheckFollowed s → Grows NotOfCheck s (l.foldl State.settleStation s) := by
    induction l with
    | nil => exact fun s _ => .refl s
    | cons st l ih => exact fun s h => (h.settleStation st).2.trans (ih _ (h.settleStation st).1)
  exact go allStations s h

theorem Grows.mono {p q : Report → Prop} (h : Grows p s t) (hpq : ∀ x, p x → q x) : Grows q s t := by
  obtain ⟨rest, e, hr⟩ := h
  exact ⟨rest, e, fun y hy => hpq y (hr y hy)⟩

theorem settleLane_growsOther (s : State) (l : Lane) : Grows NotOfCheck s (s.settleLane l) := by
  unfold State.settleLane
  dsimp only
  split
  · exact .refl s
  · exact (Grows.of_keeps ((keeps_modLane (bs := [.laneStates]) (by simp) (by simp)).mpr keeps_refl)).trans
      (.raise (by simp [NotOfCheck, State.report]))

theorem settleDeadlock_growsOther (s : State) : Grows NotOfCheck s s.settleDeadlock := by
  have k (b : Bool) : Grows NotOfCheck s (s.modBuffer fun u => { u with deadlock := b }) :=
    .of_keeps (bs := [.deadlock]) ((keeps_modBuffer (by simp) (by simp) (by simp)).mpr keeps_refl)
  unfold State.settleDeadlock
  split <;> split
  · exact .refl s
  · exact (k true).trans (.raise (by simp [NotOfCheck, State.report]))
  · exact k false
  · exact .refl s

/-- Where CHECK reports the state it has, no change of it is reported. -/
theorem CheckFollowed.settle (h : CheckFollowed s) : Grows NotOfCheck s s.settle := by
  have k : KeepsAllBut [.grant] s s.settleGrant.settleRequests :=
    (keeps_settleRequests (by simp)).mpr ((keeps_settleGrant (by simp)).mpr keeps_refl)
  have o (u : State) : Grows NotOfCheck u u.settlePrint.settleOutputs :=
    .of_keeps (bs := [.outputs, .printLimit]) ((keeps_settleOutputs (by simp)).mpr ((keeps_settlePrint (by simp)).mpr keeps_refl))
  have h' := h.of_keeps k
  exact ((((Grows.of_keeps k).trans h'.settleStations).trans
    (Grows.foldl (fun _ _ => settleLane_growsOther _ _) allLanes _)).trans (settleDeadlock_growsOther _)).trans (o _)

/-! ### The blocks after a deletion, in the words of the rules -/

namespace Deleted

theorem owners (d : Deleted s u n x) (k : KeepsAllBut (.sent :: derived) u t) : OwnersAfterDeletion s t n := by
  refine ⟨fun w => ?_, fun j => ?_, ?_, ?_, ?_⟩
  · rw [k.wrapper, d.wrapper]
    rfl
  · rw [k.staging, d.staging]
  · rw [k .wrap (by decide), d.labelOrder]
  · have e := k.label
    rw [d.label, without_label] at e
    exact e
  · have e := k.buffer
    rw [d.buffer] at e
    exact e

theorem checkAfter (d : Deleted s u n x) (k : KeepsAllBut (.sent :: derived) u t) (hn : x.number = n) : CheckAfterDeletion s t x := by
  have e := (k .check (by decide)).trans d.check
  subst hn
  refine ⟨fun h => ?_, fun h => ?_⟩
  · have hc : (if (s.field.moves.any fun m => m.track != x.number && m.dest == .check) = true then CheckCondition.incoming else .empty)
        = if ∃ m ∈ s.field.moves, m.track ≠ x.number ∧ m.dest = .check then .incoming else .empty := by simp
    exact (e.trans (if_pos (checkHolds_iff.mpr h))).trans
      (congrArg (fun c : CheckCondition => { s.check with condition := c, current := currentWithout s.check.current x.number }) hc)
  · rw [e, if_neg fun h' => h (checkHolds_iff.mp h')]

theorem move? (d : Deleted s u n x) (k : KeepsAllBut (.sent :: derived) u t) (c : Nat) : t.move? c = if c = n then none else s.move? c := by
  rw [k.move?]
  unfold State.move?
  rw [d.moves]
  exact find?_filter_key _ c

theorem scanners (d : Deleted s u n x) (k : KeepsAllBut (.sent :: derived) u t) (sc : Scanner) :
    (∀ rd ∈ (t.scanner sc).waiting, rd.track ≠ n) ∧ (∀ rd left, (t.scanner sc).outstanding = some (rd, left) → rd.track ≠ n)
      ∧ (∀ rd left, (s.scanner sc).outstanding = some (rd, left) → rd.track = n →
          (t.scanner sc).outstanding = none ∧ (t.scanner sc).ended = some left) := by
  rw [k.scanner, d.scanner]
  refine ⟨fun rd hrd => ?_, without_outstanding_of_ne, fun rd left h ht => without_ended h ht⟩
  rw [without_waiting] at hrd
  simpa using (List.mem_filter.mp hrd).2

theorem place_dest (d : Deleted s u n x) (k : KeepsAllBut (.sent :: derived) u t) {m : Move} (hm : s.move? n = some m) (hd : m.dest ≠ x.location) :
    t.place m.dest = { s.place m.dest with
      incoming := (s.place m.dest).incoming.filter (· != n)
      unknown := if s.covered m.dest then true else if s.occupancy m.dest = 0 then false else (s.place m.dest).unknown
      clearing := if s.covered m.dest ∨ s.occupancy m.dest = 0 then false else (s.place m.dest).clearing } := by
  obtain ⟨a, ka, hp⟩ := d.places
  have e : u.place m.dest = (a.uprooted n x.location).place m.dest := by unfold State.place; rw [hp]
  rw [k.place, e, uprooted_place_dest ((ka.move? n).trans hm) hd, ka.place, ka.covered, ka.occupancy]

theorem place_other (d : Deleted s u n x) (k : KeepsAllBut (.sent :: derived) u t) {c : Place} (hc : c ≠ x.location) (hd : NoMoveTo s n c) :
    t.place c = s.place c := by
  obtain ⟨a, ka, hp⟩ := d.places
  have e : u.place c = (a.uprooted n x.location).place c := by unfold State.place; rw [hp]
  rw [k.place, e, uprooted_place_other hc fun m hm => hd m ((ka.move? n).symm.trans hm), ka.place]

theorem place_last (d : Deleted s u n x) (k : KeepsAllBut (.sent :: derived) u t) (hd : NoMoveTo s n x.location) (h : LastOf s n x.location) :
    t.place x.location = { s.place x.location with
      occupants := (s.place x.location).occupants.filter (· != n), unknown := s.covered x.location, clearing := false } := by
  obtain ⟨a, ka, hp⟩ := d.places
  have e : u.place x.location = (a.uprooted n x.location).place x.location := by unfold State.place; rw [hp]
  rw [k.place, e, uprooted_place_last (fun m hm => hd m ((ka.move? n).symm.trans hm)) ((lastOf_congr (ka.place _)).mpr h), ka.place, ka.covered]

theorem place_notLast (d : Deleted s u n x) (k : KeepsAllBut (.sent :: derived) u t) (hd : NoMoveTo s n x.location) (h : ¬ LastOf s n x.location) :
    t.place x.location = { s.place x.location with occupants := (s.place x.location).occupants.filter (· != n) } := by
  obtain ⟨a, ka, hp⟩ := d.places
  have e : u.place x.location = (a.uprooted n x.location).place x.location := by unfold State.place; rw [hp]
  rw [k.place, e, uprooted_place_notLast (fun m hm => hd m ((ka.move? n).symm.trans hm)) (fun h' => h ((lastOf_congr (ka.place _)).mp h')), ka.place]

theorem gone (d : Deleted s u n x) (k : KeepsAllBut (.sent :: derived) u t) : n ∉ (t.place x.location).occupants := by
  obtain ⟨a, -, hp⟩ := d.places
  have e : u.place x.location = (a.uprooted n x.location).place x.location := by unfold State.place; rw [hp]
  rw [k.place, e]
  exact uprooted_gone a n x.location

theorem free (d : Deleted s u n x) (k : KeepsAllBut (.sent :: derived) u t) (hd : NoMoveTo s n x.location) (hl : ∀ l, x.location ≠ .lane l)
    (hn : n ∈ (s.place x.location).occupants) (hi : (s.place x.location).incoming = []) (hc : s.covered x.location = false)
    (hall : ∀ k ∈ (s.place x.location).occupants, k = n) : t.placeState x.location = .free := by
  have e := d.place_last k hd ⟨hl, hn, hall⟩
  have ho : t.occupancy x.location = (t.place x.location).occupants.length := by
    unfold State.occupancy
    split
    · exact absurd ‹_› (hl _)
    · rfl
  have hf : (s.place x.location).occupants.filter (· != n) = [] := List.isEmpty_iff.mp (filter_isEmpty_iff.mpr hall)
  unfold State.placeState
  dsimp only
  rw [ho, e, hf, hi, hc]
  rfl

theorem givenUp (d : Deleted s u n x) (k : KeepsAllBut (.sent :: derived) u t) (hd : NoMoveTo s n x.location)
    (hr : LastOf s n x.location → s.covered x.location = true → QueueOpen s →
      Reported t .placeUnknown fun y => y.detail = x.location.number ∧ y.value = some 2) :
    GivenUp s t x.location n (LastOf s n x.location) 2 := by
  refine ⟨fun h => ⟨d.place_last k hd h, fun hc => ⟨?_, hr h hc⟩⟩, fun h => d.place_notLast k hd h⟩
  unfold State.placeState
  rw [d.place_last k hd h]
  exact if_pos hc

/-- The station messages of a deletion, before its reply. -/
theorem messages (d : Deleted s u n x) (k : KeepsAllBut (.sent :: derived) u t) : ∃ new, u.sent = s.sent ++ new
    ∧ (∀ y ∈ new, y = .hush ∨ ∃ w, y = .abort w)
    ∧ (∀ w, .abort w ∈ new ↔ (s.wrapper w).pallet = some n ∧ (s.wrapper w).status = .stalled)
    ∧ (∀ c, s.check.current = some c → c.track = n → t.mass.capture = none
        ∧ (s.mass.capture.isSome = true → .hush ∈ new ∧ t.mass.settleEnd = none ∧ t.mass.limit = none))
    ∧ ((∀ c, s.check.current = some c → c.track ≠ n) → (∀ cap, s.mass.capture = some cap → cap.purpose ≠ .zero) →
        t.mass = s.mass ∧ .hush ∉ new) := by
  obtain ⟨w, hs, ⟨hsent, hhush, hclosed, hkept⟩, hm, hu⟩ := d.mass
  have em : t.mass = w.mass := (k .mass (by decide)).trans hm
  refine ⟨hs ++ s.aborts n, by rw [hu, hsent, List.append_assoc], fun y hy => ?_, fun v => ?_, fun c hc ht => ?_, fun hc hz => ?_⟩
  · rcases List.mem_append.mp hy with h | h
    · exact .inl (hhush y h)
    · obtain ⟨v, e, -⟩ := mem_aborts.mp h
      exact .inr ⟨v, e⟩
  · rw [List.mem_append, mem_aborts]
    constructor
    · rintro (h | ⟨c, e, h⟩)
      · exact absurd (hhush _ h) (by simp)
      · cases e
        exact h
    · exact fun h => .inr ⟨v, rfl, h⟩
  · obtain ⟨h1, h2⟩ := hclosed c hc ht
    rw [em]
    exact ⟨h1, fun h => ⟨List.mem_append_left _ (h2 h).1, (h2 h).2⟩⟩
  · obtain ⟨h1, rfl⟩ := hkept hc hz
    refine ⟨em.trans h1, fun h => ?_⟩
    obtain ⟨v, e, -⟩ := mem_aborts.mp ((List.mem_append.mp h).resolve_left (by simp))
    cases e

end Deleted

end Sys2Proof.Machine
end

section
/-! Settles O17: PALLET_REMOVE (R72). -/

namespace Sys2Proof.Machine

open State

variable {bs : List Block} {r s t u v : State} {n : Nat} {ref : LoadRef} {x : Record} {w : Side} {q : Req}

/-- The line after PALLET_REMOVE, before the derived parts and the reply. -/
def State.palletRemoved (s : State) (n : Nat) (x : Record) : State :=
  (s.deleteRecord n .removed).raise .removed (noteOf n x.ref x.location.number (some 2))

theorem removePallet_inMotion (hx : s.record? n = some x) (hm : s.inMotion n = true) : removePallet n s = (s, .inMotion, .nothing) := by
  unfold removePallet
  simp [hx, hm, refuse]

theorem removePallet_busy (hx : s.record? n = some x) (hm : s.inMotion n = false) (hs : x.stage = .releasing ∨ x.stage = .wrapping) :
    removePallet n s = (s, .busy, .nothing) := by
  unfold removePallet
  simp [hx, hm, hs, refuse]

theorem removePallet_taken (hx : s.record? n = some x) (hm : s.inMotion n = false) (h1 : x.stage ≠ .releasing) (h2 : x.stage ≠ .wrapping) :
    removePallet n s = (s.palletRemoved n x, .ok, .removed x.ref x.location.number ((s.palletRemoved n x).placeState x.location)) := by
  unfold removePallet
  simp only [hx, hm, h1, h2, Bool.false_eq_true, if_false, Bool.or_eq_true, beq_iff_eq, or_self]
  rfl

/-- The slot of a removed record. -/
theorem told_removed_slot {sl : Slot} (hr : x.ref = some ref) (hs : s.slot? ref = some sl) :
    (s.told x .removed).slot? ref = some { sl with state := .expected, claimant := none } := by
  have e : s.told x .removed = s.modSlot ref fun sl => { sl with state := .expected, claimant := none } := by
    unfold State.told
    rw [hr]
    rfl
  rw [e, modSlot_slot?, if_pos rfl, hs]
  rfl

theorem told_of_none {why : Deletion} (hr : x.ref = none) : s.told x why = s := by
  unfold State.told
  rw [hr]

theorem told_removed_queues (s : State) (x : Record) : KeepsAllBut [.loads] s (s.told x .removed) := by
  unfold State.told
  split
  · simp [State.tellSlot]
  · exact keeps_refl

/-- The slots and loads after the deletion of a record are those after its slot has been told. -/
theorem deleteRecord_loads (hx : s.record? n = some x) (why : Deletion) : (s.deleteRecord n why).plan.loads = (s.told x why).plan.loads := by
  rw [deleteRecord_eq hx]
  generalize s.told x why = a
  have k2 := uprooted_keeps a n x.location
  generalize a.uprooted n x.location = b at *
  have k3 := unchecked_keeps b n (s.checkHolds x)
  generalize b.unchecked n (s.checkHolds x) = c at *
  rw [(erased_leaves c n).keeps .loads (by decide), k3 .loads (by decide), k2 .loads (by decide)]

/-- The reports of PALLET_REMOVE. -/
theorem palletRemoved_reports (hx : s.record? n = some x) : ∃ new, new.length ≤ 5 ∧ Queues s (s.palletRemoved n x) new
    ∧ Grows NotOfCheck s (s.palletRemoved n x)
    ∧ s.report .removed (noteOf n x.ref x.location.number (some 2)) ∈ new
    ∧ (∀ m, s.move? n = some m → s.covered m.dest = true → s.unknownReport m.dest 2 ∈ new)
    ∧ (NoMoveTo s n x.location → LastOf s n x.location → s.covered x.location = true → s.unknownReport x.location 2 ∈ new) := by
  obtain ⟨new, hc, hq, hg, hd, hl⟩ := deleteRecord_reports hx .removed
  have kt := told_removed_queues s x
  have et : (s.deleteRecord n .removed).lineTime = s.lineTime := (deleteRecord_leaves hx .removed).keeps .lineTime (by decide)
  have er : (s.deleteRecord n .removed).report .removed (noteOf n x.ref x.location.number (some 2))
      = s.report .removed (noteOf n x.ref x.location.number (some 2)) := by
    unfold State.report
    rw [et]
  unfold State.palletRemoved
  rw [← er]
  generalize s.told x .removed = a at *
  generalize s.deleteRecord n .removed = b at *
  have hqs := ((Queues.of_keeps kt).trans hq).trans (Queues.raise (s := b) .removed (noteOf n x.ref x.location.number (some 2)))
  refine ⟨_, ?_, hqs, ((Grows.of_keeps kt).trans (hg.mono (q := NotOfCheck) fun y h e => h e.1)).trans (.raise (by simp [NotOfCheck, State.report])), ?_, ?_, ?_⟩
  · simp
    omega
  · simp
  · exact fun m hm h => by simp [hd m hm h]
  · exact fun h1 h2 h3 => by simp [hl h1 h2 h3]

/-! ### No list names a deleted record -/

section
variable (o : OwnersAfterDeletion s t n)
include o

theorem buffer_forgets : (∀ y ∈ t.buffer.releases, y.track ≠ n) ∧ (∀ k, t.buffer.task = some k → k.track ≠ n)
    ∧ (∀ p, tget t.buffer.reserved p ≠ some n) ∧ t.buffer.exitPallet ≠ some n ∧ n ∉ t.buffer.forced := by
  obtain ⟨-, -, -, -, hb⟩ := o
  rw [hb]
  refine ⟨fun y hy => by simpa using (List.mem_filter.mp hy).2, fun k hk => ?_, fun p => ?_, ?_, by simp⟩
  · rcases h : s.buffer.task with _ | j
    · simp [h] at hk
    · by_cases hj : j.track = n
      · simp [h, hj] at hk
      · simp only [h, if_neg hj, Option.some.injEq] at hk
        rw [← hk]
        exact hj
  · show tget (tmap (fun x => if x = some n then none else x) s.buffer.reserved) p ≠ some n
    rw [tget_tmap]
    split
    · exact nofun
    · assumption
  · show (if s.buffer.exitPallet = some n then none else s.buffer.exitPallet) ≠ some n
    split
    · exact nofun
    · assumption

theorem label_forgets : (∀ j ∈ t.label.jobs, j.track ≠ n) ∧ ∀ p, t.label.pallet = some p → p.track ≠ n := by
  obtain ⟨-, -, -, hl, -⟩ := o
  rw [hl]
  refine ⟨fun j hj => by simpa using (List.mem_filter.mp hj).2, fun p hp e => ?_⟩
  have hp' : (s.label.given n).pallet = some p := hp
  unfold LabelController.given at hp'
  split at hp'
  · cases hp'
  · rename_i h
    exact h (by rw [hp', ← e]; rfl)

theorem wrap_forgets : (∀ k e, t.staging k = some e → e.track ≠ n) ∧ (∀ w, (t.wrapper w).pallet ≠ some n) ∧ ∀ e ∈ t.wrap.labelOrder, e.track ≠ n := by
  obtain ⟨hw, hs, ho, -, -⟩ := o
  refine ⟨fun k e he ht => ?_, fun w => ?_, fun e he => ?_⟩
  · rw [hs] at he
    split at he
    · cases he
    · rename_i h
      exact h (by rw [he, ← ht]; rfl)
  · rw [hw]
    split
    · exact nofun
    · assumption
  · rw [ho] at he
    simpa using (List.mem_filter.mp he).2

end

/-! ### The obligation -/

/-- What stands after PALLET_REMOVE and its reply, of its line with answering set. -/
theorem palletRemoved_leaves (hx : s.record? n = some x) (m : Message) :
    ∃ u, Deleted s u n x ∧ KeepsAllBut (.sent :: derived) u ((s.palletRemoved n x).settle.send m)
      ∧ ((s.palletRemoved n x).settle.send m).sent = u.sent ++ [m]
      ∧ u.plan.loads = (s.told x .removed).plan.loads
      ∧ (CheckFollowed u → Grows NotOfCheck (s.palletRemoved n x) (s.palletRemoved n x).settle) := by
  refine ⟨_, deleteRecord_leaves hx .removed, ?_, ?_, deleteRecord_loads hx .removed, fun h => ?_⟩
  all_goals
    unfold State.palletRemoved
    generalize s.deleteRecord n .removed = u at *
    have kr := raise_keeps u .removed (noteOf n x.ref x.location.number (some 2))
    generalize u.raise .removed (noteOf n x.ref x.location.number (some 2)) = v at *
    have ks := settle_keeps v
  · exact (kr.mono (by simp [derived])).trans ((ks.mono (by simp [derived])).trans ((keeps_send (by simp)).mpr keeps_refl))
  · show v.settle.sent ++ [m] = _
    rw [ks .sent (by decide), kr .sent (by decide)]
  · exact (h.of_keeps kr).settle

end Sys2Proof.Machine
end

section
/-! Settles O17: PALLET_REMOVE (R72). -/

namespace Sys2Proof.Machine

open State

variable {s t u v : State} {n : Nat} {x : Record} {q : Req}

theorem stationState_check_of_condition {c : CheckCondition} (h : t.check.condition = c) (hc : c ≠ .blocked) (hf : t.check.fault = s.check.fault) :
    t.stationState .check = if s.check.fault then .faulted else .working := by
  unfold State.stationState
  rw [h, hf]
  simp [hc]

theorem CheckAfterDeletion.current (h : CheckAfterDeletion s t x) (hh : CheckHolds s x) :
    t.check.current = currentWithout s.check.current x.number :=
  (congrArg CheckStation.current (h.1 hh)).trans rfl

theorem CheckAfterDeletion.reported (h : CheckAfterDeletion s t x) (hh : CheckHolds s x) :
    t.stationState .check = if s.check.fault then .faulted else .working := by
  have e := h.1 hh
  refine stationState_check_of_condition (congrArg CheckStation.condition e) ?_ ((congrArg CheckStation.fault e).trans rfl)
  dsimp only
  split <;> exact nofun

theorem answered_placeState (v : State) (m : Message) (p : Place) : (v.settle.send m).placeState p = v.placeState p :=
  KeepsAllBut.placeState (bs := .sent :: derived)
    (((settle_keeps v).mono (by simp)).trans ((keeps_send (by simp)).mpr keeps_refl)) p

theorem Grows.answered {p : Report → Prop} {m : Message} (h : Grows p s.asked t) : Grows p s (t.send m) := h

/-- Settles O17: the record's deletion is followed block by block, and CHECK's reported state follows with it. -/
theorem palletRemoveDeletesTheRecordAndFreesItsSlot : Obligations.PalletRemoveDeletesTheRecordAndFreesItsSlot := by
  refine ⟨fun q n s ha hx => request_refused rfl ha (t := s.asked) ?_ rfl, fun q n s x ha hx => ⟨fun hm => ?_, fun hm hs => ?_, fun hm h1 h2 => ?_⟩⟩
  · have hx' : s.asked.record? n = none := hx
    unfold removePallet
    rw [hx']
    rfl
  · exact request_refused rfl ha (removePallet_inMotion (s := s.asked) hx hm) rfl
  · exact request_refused rfl ha (removePallet_busy (s := s.asked) hx hm hs) rfl
  · have hn : x.number = n := record?_number hx
    have taken := removePallet_taken (s := s.asked) hx hm h1 h2
    obtain ⟨u, d, k, hsent, hloads, hquiet⟩ := palletRemoved_leaves (s := s.asked) hx
      (s.reply 0x2B .ok (.removed x.ref x.location.number ((s.asked.palletRemoved n x).placeState x.location)))
    obtain ⟨new, hcount, hq, hg, hrep, hdest, hleft⟩ := palletRemoved_reports (s := s.asked) hx
    have run : exec (.palletRemove q n) s = .next ((s.asked.palletRemoved n x).settle.send
        (s.reply 0x2B .ok (.removed x.ref x.location.number ((s.asked.palletRemoved n x).placeState x.location)))) :=
      congrArg Host.Outcome.next (serve_taken (how := .changes) ha taken rfl (by decide))
    have same : ((s.asked.palletRemoved n x).settle.send (s.reply 0x2B .ok (.removed x.ref x.location.number
        ((s.asked.palletRemoved n x).placeState x.location)))).placeState x.location = (s.asked.palletRemoved n x).placeState x.location :=
      answered_placeState _ _ _
    have five : new.length ≤ 32 := by omega
    have told (p : Place) (h : s.asked.unknownReport p 2 ∈ new) (ho : QueueOpen s) := hq.requestReported (m := s.reply 0x2B .ok
      (.removed x.ref x.location.number ((s.asked.palletRemoved n x).placeState x.location)))
      (p := fun y => y.detail = p.number ∧ y.value = some 2) h rfl ⟨rfl, rfl⟩ ho five
    have removed (ho : QueueOpen s) := hq.requestReported (m := s.reply 0x2B .ok
      (.removed x.ref x.location.number ((s.asked.palletRemoved n x).placeState x.location)))
      (p := fun y => y.track = some n ∧ y.load = x.ref.map (·.load) ∧ y.detail = x.location.number ∧ y.value = some 2)
      hrep rfl ⟨rfl, rfl, rfl, rfl⟩ ho five
    have quiet (h : CheckFollowed u) : Grows NotOfCheck s ((s.asked.palletRemoved n x).settle.send (s.reply 0x2B .ok
      (.removed x.ref x.location.number ((s.asked.palletRemoved n x).placeState x.location)))) :=
      (hg.trans (hquiet h)).answered
    generalize (s.asked.palletRemoved n x).settle.send (s.reply 0x2B .ok (.removed x.ref x.location.number
        ((s.asked.palletRemoved n x).placeState x.location))) = t at *
    rw [← same] at hsent
    clear hquiet hq hg taken same
    have owners : OwnersAfterDeletion s t n := d.owners k
    have check : CheckAfterDeletion s t x := d.checkAfter k hn
    obtain ⟨b1, b2, b3, b4, b5⟩ := buffer_forgets owners
    obtain ⟨l1, l2⟩ := label_forgets owners
    obtain ⟨w1, w2, w3⟩ := wrap_forgets owners
    obtain ⟨out, hout, o1, o2, o3, o4⟩ := d.messages k
    have kept : RequestKeeps [.loads, .places, .moves, .records, .scanners, .check, .mass, .wrap, .label, .buffer] s t :=
      ((keeps_asked (bs := [.answering]) (by simp)).mpr keeps_refl |>.mono (by simp)).trans
        ((d.keeps.mono (by simp [derived])).trans (k.mono (by simp [derived])))
    refine ⟨t, run, ?_, fun c hc => ?_, ?_, fun c hc => ?_, fun m hmv hd => ⟨d.place_dest k hmv hd, fun hc ho => told _ (hdest m hmv hc) ho⟩,
      fun ref sl hr hsl => ?_, fun hr => ?_, d.gone k, fun c hc hd => d.place_other k hc hd, fun hd => ⟨?_, ?_⟩, owners, check, b1, b2, l1,
      ⟨out, ?_, o1, o2, o3, o4⟩, w1, w2, w3, l2, b3, b4, b5, d.scanners k, removed, ?_, fun hh => ⟨?_, check.reported hh, ?_⟩, kept⟩
    · rw [k.record?, d.record, if_pos rfl]
    · rw [k.record?, d.record, if_neg hc]
      rfl
    · rw [d.move? k, if_pos rfl]
    · rw [d.move? k, if_neg hc]
      rfl
    · have hs' := told_removed_slot (s := s.asked) hr hsl
      unfold State.slot? State.load? at hs' ⊢
      rw [k .loads (by decide), hloads]
      exact hs'
    · rw [k .loads (by decide), hloads, told_of_none hr]
      rfl
    · exact d.givenUp k hd fun hl hc ho => told _ (hleft hd hl hc) ho
    · exact fun hl hi hin hc hall => d.free k hd hl hi hin hc hall
    · rw [hsent, hout]
      rfl
    · rw [hsent, List.getLast?_concat]
      rfl
    · exact (check.current hh).trans (congrArg (currentWithout s.check.current) hn)
    · exact quiet (d.followed (checkHolds_iff.mpr hh))

end Sys2Proof.Machine
end

section
/-! SUPPORT. The lane states that follow at the end of a step, and their reports (R155). -/

namespace Sys2Proof.Machine

open State

variable {bs : List Block} {r s t u v : State} {l k : Lane}

/-- The report of a lane whose state has changed. -/
def State.laneReport (s : State) (l : Lane) : Report :=
  s.report .laneChange { load := (s.boundLoad l).map (·.id), detail := l.val + 1, value := some (s.laneStatus l).number }

theorem settleLane_keeps (s : State) (l : Lane) : KeepsAllBut [.queue, .laneStates] s (s.settleLane l) :=
  (keeps_settleLane (by simp)).mpr keeps_refl

theorem laneReport_of_keeps (h : KeepsAllBut bs s t) (l : Lane) (hl : .loads ∉ bs := by decide) (hn : .lanes ∉ bs := by decide)
    (hi : .filtered ∉ bs := by decide) (ht : .lineTime ∉ bs := by decide) : t.laneReport l = s.laneReport l := by
  unfold State.laneReport State.report
  rw [h.laneStatus l hl hn hi, h.boundLoad l hl, h .lineTime ht]

theorem settleLane_status (s : State) (l k : Lane) :
    (tget (s.settleLane l).lanes k).status = if k = l then s.laneStatus l else (tget s.lanes k).status := by
  unfold State.settleLane
  dsimp only
  split
  · rename_i h
    split
    · rename_i hk
      subst hk
      exact beq_iff_eq.mp h
    · rfl
  · rw [raise_keeps _ _ _ .laneStates (by decide) k, modLane_lanes, tget_tmod]
    by_cases hk : k = l
    · rw [if_pos hk.symm, if_pos hk]
    · rw [if_neg (Ne.symm hk), if_neg hk]

theorem settleLane_queues (s : State) (l : Lane) : ∃ new, new.length ≤ 1 ∧ Queues s (s.settleLane l) new
    ∧ ((tget s.lanes l).status ≠ s.laneStatus l → s.laneReport l ∈ new) := by
  unfold State.settleLane
  dsimp only
  split
  · rename_i h
    exact ⟨[], by simp, .refl s, fun hn => absurd (beq_iff_eq.mp h) hn⟩
  · have kl : KeepsAllBut [.laneStates] s (s.modLane l fun e => { e with status := s.laneStatus l }) :=
      (keeps_modLane (by simp) (by simp)).mpr keeps_refl
    exact ⟨_, by simp, (Queues.of_keeps kl).trans (.raise _ _), fun _ => by simp [State.laneReport, State.report]⟩

/-- The lanes of a list, each brought up to date. -/
theorem foldl_settleLane_leaves (ls : List Lane) : ∀ s : State,
    KeepsAllBut [.queue, .laneStates] s (ls.foldl State.settleLane s)
    ∧ (∀ k, (tget (ls.foldl State.settleLane s).lanes k).status = if k ∈ ls then s.laneStatus k else (tget s.lanes k).status)
    ∧ ∃ new, new.length ≤ ls.length ∧ Queues s (ls.foldl State.settleLane s) new
      ∧ ∀ k ∈ ls, (tget s.lanes k).status ≠ s.laneStatus k → s.laneReport k ∈ new := by
  induction ls with
  | nil => exact fun s => ⟨keeps_refl, fun k => rfl, [], by simp, .refl s, by simp⟩
  | cons l ls ih =>
    intro s
    have k1 := settleLane_keeps s l
    obtain ⟨a, ha, qa, ra⟩ := settleLane_queues s l
    obtain ⟨k2, st, b, hb, qb, rb⟩ := ih (s.settleLane l)
    have status (k : Lane) := settleLane_status s l k
    refine ⟨k1.trans k2, fun k => ?_, a ++ b, by simp; omega, qa.trans qb, fun k hk hne => ?_⟩
    · refine (st k).trans ?_
      rw [k1.laneStatus, status]
      by_cases h : k = l
      · simp [h]
      · simp [h]
    · by_cases h : k = l
      · subst h
        exact List.mem_append_left _ (ra hne)
      · have hk' : k ∈ ls := (List.mem_cons.mp hk).resolve_left h
        have he := rb k hk' (by rw [status, if_neg h, k1.laneStatus]; exact hne)
        rw [laneReport_of_keeps k1] at he
        exact List.mem_append_right _ he

theorem mem_allLanes (l : Lane) : l ∈ allLanes := by revert l; decide

theorem settleLanes_leaves (s : State) : (∀ k, (tget s.settleLanes.lanes k).status = s.laneStatus k)
    ∧ ∃ new, new.length ≤ 6 ∧ Queues s s.settleLanes new ∧ ∀ k, (tget s.lanes k).status ≠ s.laneStatus k → s.laneReport k ∈ new := by
  obtain ⟨-, st, new, hl, q, hr⟩ := foldl_settleLane_leaves allLanes s
  exact ⟨fun k => (st k).trans (if_pos (mem_allLanes k)), new, hl, q, fun k => hr k (mem_allLanes k)⟩

/-- The lines between which the derived signals follow, before and after the lanes. -/
structure LanesSettle (s a b t : State) : Prop where
  before : KeepsAllBut [.grant, .queue, .reported] s a
  stations : ∃ new, new.length ≤ 6 ∧ Queues s a new
  status : ∀ k, (tget b.lanes k).status = a.laneStatus k
  reports : ∃ new, new.length ≤ 6 ∧ Queues a b new ∧ ∀ k, (tget a.lanes k).status ≠ a.laneStatus k → a.laneReport k ∈ new
  after : KeepsAllBut [.queue, .deadlock, .printLimit, .outputs] b t
  grows : Grows SettleKind b t

theorem settle_lanes (s : State) : ∃ a b, LanesSettle s a b s.settle := by
  have k : KeepsAllBut [.grant] s s.settleGrant.settleRequests :=
    (keeps_settleRequests (by simp)).mpr ((keeps_settleGrant (by simp)).mpr keeps_refl)
  have ks := settleStations_keeps s.settleGrant.settleRequests
  obtain ⟨new, ⟨hl, -⟩, q⟩ := settleStations_queues s.settleGrant.settleRequests
  have o (u : State) : KeepsAllBut [.queue, .deadlock, .printLimit, .outputs] u u.settleDeadlock.settlePrint.settleOutputs :=
    (keeps_settleOutputs (by simp)).mpr ((keeps_settlePrint (by simp)).mpr ((keeps_settleDeadlock (by simp)).mpr keeps_refl))
  have g (u : State) : Grows SettleKind u u.settleDeadlock.settlePrint.settleOutputs :=
    (settleDeadlock_grows u).trans (.of_keeps (bs := [.outputs, .printLimit])
      ((keeps_settleOutputs (by simp)).mpr ((keeps_settlePrint (by simp)).mpr keeps_refl)))
  obtain ⟨st, reports⟩ := settleLanes_leaves s.settleGrant.settleRequests.settleStations
  exact ⟨s.settleGrant.settleRequests.settleStations, _, (k.mono (by simp)).trans (ks.mono (by simp)),
    ⟨[] ++ new, hl, (Queues.of_keeps k).trans q⟩, st, reports, o _, g _⟩

/-- At the end of a step each lane has the state it derives (R155). -/
theorem settle_laneStatus (s : State) (l : Lane) : (tget s.settle.lanes l).status = s.laneStatus l := by
  obtain ⟨a, b, h⟩ := settle_lanes s
  rw [h.after .laneStates (by decide) l, h.status, h.before.laneStatus]

/-- With the queue open, a lane whose state has changed is reported. -/
theorem Queues.laneReported {new : List Report} (h : Queues s t new) (hn : new.length ≤ 20) (ho : QueueOpen s)
    (hs : (tget t.lanes l).status ≠ t.laneStatus l) : t.laneReport l ∈ t.settle.link.reports := by
  obtain ⟨a, b, e⟩ := settle_lanes t
  obtain ⟨x, hx, qx⟩ := e.stations
  obtain ⟨y, hy, qy, ry⟩ := e.reports
  obtain ⟨rest, hr, -⟩ := e.grows
  have room := ho.2
  have hq := ((h.trans qx).trans qy).reports ho.1 (by simp only [List.length_append]; omega)
  have mem := ry l (by rw [e.before .laneStates (by decide) l, e.before.laneStatus]; exact hs)
  rw [laneReport_of_keeps e.before] at mem
  rw [hr, hq]
  simp [mem]

end Sys2Proof.Machine
end

section
/-! SUPPORT. A pallet dispatched into a lane (R163), and the move that brings it there (R42, R44). -/

namespace Sys2Proof.Machine

open State

variable {bs : List Block} {r s t u v w : State} {n : Nat} {ref : LoadRef} {x : Record} {l : Lane} {ld : Load} {sl : Slot} {m : Move}

/-! ### The slot of a dispatched record (R13, R14) -/

/-- A slot DISPATCHED. -/
def Slot.dispatch (sl : Slot) : Slot := { sl with state := .dispatched, claimant := none }

/-- A load with a slot DISPATCHED, after its completion test. -/
def Load.dispatching (ld : Load) (pos : Nat) : Load := (ld.modSlotAt pos Slot.dispatch).tested

theorem told_dispatched (hr : x.ref = some ref) : s.told x .dispatched = (s.modSlot ref Slot.dispatch).testComplete ref.load := by
  unfold State.told
  rw [hr]
  rfl

theorem tested_slots (ld : Load) : ld.tested.slots = ld.slots ∧ ld.tested.id = ld.id ∧ ld.tested.planned = ld.planned := by
  unfold Load.tested
  split <;> exact ⟨rfl, rfl, rfl⟩

theorem tested_status (h : ld.status = .bound) : ld.tested.status = if ld.complete = true then .complete else .bound := by
  unfold Load.tested
  split
  · rfl
  · exact h

theorem modSlotAt_rest (ld : Load) (pos : Nat) (f : Slot → Slot) : (ld.modSlotAt pos f).status = ld.status
    ∧ (ld.modSlotAt pos f).planned = ld.planned ∧ (ld.modSlotAt pos f).lane = ld.lane ∧ (ld.modSlotAt pos f).slots.length = ld.slots.length := by
  unfold Load.modSlotAt
  split <;> simp

theorem told_dispatched_load? (hr : x.ref = some ref) (hl : s.load? ref.load = some ld) (c : Nat) :
    (s.told x .dispatched).load? c = if c = ref.load then some (ld.dispatching ref.position) else s.load? c := by
  rw [told_dispatched hr, testComplete_load?, modSlot_load?, modSlot_load?, if_pos rfl, hl]
  split <;> rfl

theorem dispatching_slotAt (h : ld.slotAt n = some sl) : (ld.dispatching n).slotAt n = some sl.dispatch := by
  have e : (ld.dispatching n).slotAt n = (ld.modSlotAt n Slot.dispatch).slotAt n := by
    unfold Load.slotAt Load.dispatching
    rw [(tested_slots _).1]
  rw [e, Load.modSlotAt_slotAt, if_pos rfl, h]
  rfl

theorem dispatching_status (h : ld.status = .bound) : (ld.dispatching n).status =
    if ld.slots.length = ld.planned ∧ ∀ x ∈ (ld.dispatching n).slots, x.state = .dispatched ∨ x.state = .skipped then .complete else .bound := by
  obtain ⟨hs, hp, -, hl⟩ := modSlotAt_rest ld n Slot.dispatch
  unfold Load.dispatching
  rw [tested_status (hs.trans h), (tested_slots _).1]
  simp only [load_complete_iff, hp, hl]

theorem told_dispatched_queues (hr : x.ref = some ref) (hl : s.load? ref.load = some ld) (hb : ld.status = .bound) :
    ∃ new, new.length ≤ 1 ∧ Queues s (s.told x .dispatched) new ∧ ((ld.dispatching ref.position).status = .complete →
      (ld.modSlotAt ref.position Slot.dispatch).completeReport s.lineTime ∈ new) := by
  have k : KeepsAllBut [.loads] s (s.modSlot ref Slot.dispatch) := (keeps_modSlot (by simp)).mpr keeps_refl
  have hy : (s.modSlot ref Slot.dispatch).load? ref.load = some (ld.modSlotAt ref.position Slot.dispatch) := by
    rw [modSlot_load?, if_pos rfl, hl]
    rfl
  have hst : (ld.modSlotAt ref.position Slot.dispatch).status = .bound := (modSlotAt_rest _ _ _).1.trans hb
  rw [told_dispatched hr]
  refine ⟨_, ?_, (Queues.of_keeps k).trans (testComplete_queues hy), fun h => ?_⟩
  · rw [List.nil_append]
    split <;> simp
  · unfold Load.dispatching at h
    rw [tested_status hst] at h
    have hc : (ld.modSlotAt ref.position Slot.dispatch).complete = true := by
      by_contra hn
      rw [if_neg hn] at h
      cases h
    rw [if_pos ⟨hc, by rw [hst]; decide⟩]
    exact List.mem_singleton.mpr rfl

/-! ### The dispatch -/

/-- The line with one pallet more counted into a lane. -/
def State.laneCounted (s : State) (l : Lane) : State := s.modLane l fun e => { e with count := e.count + 1 }

theorem laneCounted_keeps (s : State) (l : Lane) : KeepsAllBut [.lanes] s (s.laneCounted l) :=
  (keeps_modLane (by simp) (by simp)).mpr keeps_refl

theorem laneCounted_count (s : State) (l k : Lane) :
    (tget (s.laneCounted l).lanes k).count = if k = l then (tget s.lanes l).count + 1 else (tget s.lanes k).count := by
  unfold State.laneCounted
  rw [modLane_lanes, tget_tmod]
  by_cases h : k = l
  · rw [if_pos h.symm, if_pos h, h]
  · rw [if_neg (Ne.symm h), if_neg h]

theorem dispatch_eq (s : State) (n : Nat) (l : Lane) : s.dispatch n l = ((s.laneCounted l).deleteRecord n .dispatched).raise .dispatch
    (noteOf n (s.refOf n) (l.val + 1) (some ((tget ((s.laneCounted l).deleteRecord n .dispatched).lanes l).count : Nat))) := rfl

/-- The report of a pallet dispatched as the lane's next. -/
def State.dispatchReport (s : State) (n : Nat) (ref : LoadRef) (l : Lane) : Report :=
  s.report .dispatch (noteOf n (some ref) (l.val + 1) (some (((tget s.lanes l).count + 1 : Nat) : Int)))

/-- What a dispatch leaves, of a record of a slot, in no move and located in the lane. -/
structure Dispatched (w v : State) (n : Nat) (ref : LoadRef) (ld : Load) (l : Lane) : Prop where
  record : ∀ k, v.record? k = if k = n then none else w.record? k
  move : ∀ k, v.move? k = if k = n then none else w.move? k
  place : ∀ k, v.place k = if k = .lane l then { w.place (.lane l) with occupants := (w.place (.lane l)).occupants.filter (· != n) } else w.place k
  count : ∀ k, (tget v.lanes k).count = if k = l then (tget w.lanes l).count + 1 else (tget w.lanes k).count
  load : ∀ c, v.load? c = if c = ref.load then some (ld.dispatching ref.position) else w.load? c
  owners : OwnersAfterDeletion w v n
  reports : ∃ new, new.length ≤ 6 ∧ Queues w v new ∧ w.dispatchReport n ref l ∈ new
    ∧ ((ld.dispatching ref.position).status = .complete → (ld.modSlotAt ref.position Slot.dispatch).completeReport w.lineTime ∈ new)
  keeps : KeepsAllBut [.queue, .lanes, .loads, .places, .moves, .records, .scanners, .check, .mass, .wrap, .label, .printLimit, .buffer, .sent, .reported] w v

theorem notLast_of_lane : ¬ LastOf s n (.lane l) := fun h => h.1 l rfl

theorem dispatch_leaves (hx : w.record? n = some x) (hloc : x.location = .lane l) (hm : w.move? n = none) (hr : x.ref = some ref)
    (hl : w.load? ref.load = some ld) (hb : ld.status = .bound) : Dispatched w (w.dispatch n l) n ref ld l := by
  have k1 := laneCounted_keeps w l
  have count := laneCounted_count w l
  have hx1 : (w.laneCounted l).record? n = some x := (k1.record? n).trans hx
  have d := deleteRecord_leaves hx1 .dispatched
  have loads := deleteRecord_loads hx1 .dispatched
  obtain ⟨a, ha, qa, repa⟩ := told_dispatched_queues (s := w.laneCounted l) hr ((k1.load? _).trans hl) hb
  have find := told_dispatched_load? (s := w.laneCounted l) hr ((k1.load? _).trans hl)
  obtain ⟨b, hbc, qb, -, -, -⟩ := deleteRecord_reports hx1 .dispatched
  have href : w.refOf n = some ref := by
    unfold State.refOf
    rw [hx]
    exact hr
  rw [dispatch_eq, href]
  generalize (w.laneCounted l).told x .dispatched = c at *
  generalize (w.laneCounted l).deleteRecord n .dispatched = e at *
  generalize w.laneCounted l = f at *
  have counts (k : Lane) : (tget e.lanes k).count = if k = l then (tget w.lanes l).count + 1 else (tget w.lanes k).count :=
    ((d.keeps .lanes (by decide)) k).1.trans (count k)
  rw [counts l, if_pos rfl]
  have nomove (p : Place) : NoMoveTo f n p := fun m h => absurd ((k1.move? n).symm.trans h) (by rw [hm]; exact nofun)
  have kr := raise_keeps e .dispatch (noteOf n (some ref) (l.val + 1) (some (((tget w.lanes l).count + 1 : Nat) : Int)))
  have qr := Queues.raise (s := e) .dispatch (noteOf n (some ref) (l.val + 1) (some (((tget w.lanes l).count + 1 : Nat) : Int)))
  have et : e.lineTime = w.lineTime := (d.keeps .lineTime (by decide)).trans (k1 .lineTime (by decide))
  generalize e.raise .dispatch (noteOf n (some ref) (l.val + 1) (some (((tget w.lanes l).count + 1 : Nat) : Int))) = v at *
  have kev : KeepsAllBut (.sent :: derived) e v := kr.mono (by simp [derived])
  refine ⟨fun k => ?_, fun k => ?_, fun k => ?_, fun k => ?_, fun c => ?_, ?_, ?_, ?_⟩
  · rw [kr.record?, d.record, k1.record?]
  · rw [d.move? kev, k1.move?]
  · split
    · rename_i hk
      subst hk
      have hp := d.place_notLast kev (nomove _) (by rw [hloc]; exact notLast_of_lane)
      rw [hloc, k1.place] at hp
      exact hp
    · rename_i hk
      rw [d.place_other kev (by rw [hloc]; exact hk) (nomove _), k1.place]
  · rw [(kr .lanes (by decide) k).1, counts]
  · rw [load?_of_loads ((kr .loads (by decide)).trans loads), find, k1.load?]
  · have o := d.owners kev
    obtain ⟨o1, o2, o3, o4, o5⟩ := o
    refine ⟨fun j => ?_, fun j => ?_, ?_, ?_, ?_⟩
    · rw [o1, k1.wrapper, k1 .lineTime (by decide)]
    · rw [o2, k1.staging]
    · rw [o3, k1 .wrap (by decide)]
    · rw [← k1.wholeLabel]
      exact o4
    · rw [← k1.wholeBuffer]
      exact o5
  · refine ⟨_, ?_, (((Queues.of_keeps k1).trans qa).trans qb).trans qr, ?_, fun h => ?_⟩
    · simp
      omega
    · unfold State.dispatchReport State.report
      rw [et]
      simp
    · have := repa h
      rw [k1 .lineTime (by decide)] at this
      simp [this]
  · exact (k1.mono (by simp)).trans ((d.keeps.mono (by simp)).trans (kr.mono (by simp)))

end Sys2Proof.Machine
end

section
/-! Settles O40: a delivery into a lane (R42, R44, R163). -/

namespace Sys2Proof.Machine

open State

variable {bs : List Block} {r s t u v w : State} {n : Nat} {ref : LoadRef} {x : Record} {l : Lane} {ld : Load} {sl : Slot} {m : Move}

/-! ### The pallet joins the lane -/

theorem joinDest_record? (s : State) (m : Move) (k : Nat) : (s.joinDest m).record? k
    = if k = m.track then (s.record? m.track).map fun r => { r with location := m.dest, movingTo := none } else s.record? k :=
  modRecord_record? (f := fun r => { r with location := m.dest, movingTo := none }) k

theorem joinDest_move? (s : State) (m : Move) (k : Nat) : (s.joinDest m).move? k = if k = m.track then none else s.move? k :=
  removeMove_move? k

theorem joinDest_place (s : State) (hd : m.dest = .lane l) (k : Place) : (s.joinDest m).place k
    = if k = .lane l then { s.place (.lane l) with incoming := (s.place (.lane l)).incoming.filter (· != m.track) } else s.place k := by
  obtain ⟨track, source, dest, zone, state, limit, a, b⟩ := m
  cases hd
  exact modPlace_place (.lane l) _ k

theorem joinDest_keeps (s : State) (m : Move) : KeepsAllBut [.places, .moves, .records] s (s.joinDest m) :=
  (keeps_joinDest (by simp)).mpr keeps_refl

theorem leaveSource_keeps (s : State) (m : Move) : KeepsAllBut [.places] s (s.leaveSource m) :=
  (keeps_leaveSource (by simp)).mpr keeps_refl

theorem leaveSource_place (s : State) (m : Move) (k : Place) : (s.leaveSource m).place k = if k = m.source then
    { s.place m.source with
      occupants := (s.place m.source).occupants.filter (· != m.track)
      clearing := (s.place m.source).clearing || (m.source.capacity == 1 && s.covered m.source) } else s.place k := by
  have hc : (s.leaveOccupants m.source m.track).covered m.source = s.covered m.source := (leaveOccupants_keeps s _ _).covered _
  unfold State.leaveSource
  dsimp only
  rw [hc]
  split
  · rename_i h
    rw [h, Bool.or_true]
    refine (modPlace_place m.source _ k).trans ?_
    rw [leaveOccupants_place, leaveOccupants_place, if_pos rfl]
    split <;> rfl
  · rename_i h
    rw [Bool.eq_false_iff.mpr h, Bool.or_false, leaveOccupants_place]

/-- The line in which the lane entry's level has become covered. -/
def State.laneSensed (s : State) (l : Lane) : State :=
  (s.setTiming (.laneEntry l) none).modField fun u => { u with filtered := tset u.filtered (Input.laneEntry l).idx true }

theorem laneSensed_keeps (s : State) (l : Lane) : KeepsAllBut [.filtered, .timing] s (s.laneSensed l) := by
  simp [State.laneSensed]

theorem laneSensed_shuttle (s : State) (l : Lane) : (s.laneSensed l).covered .shuttle = s.covered .shuttle := by
  have h : ∀ l : Lane, (Input.laneEntry l).idx ≠ Input.shuttleLoaded.idx := by decide
  exact tget_tset_of_ne _ _ (h l)

/-- The pallet of a delivery stands in the lane, before it is dispatched. -/
structure Delivered (s w : State) (m : Move) (l : Lane) (ref : LoadRef) : Prop where
  record : ∃ y, w.record? m.track = some y ∧ y.location = .lane l ∧ y.ref = some ref
  records : ∀ k, k ≠ m.track → w.record? k = s.record? k
  move : ∀ k, w.move? k = if k = m.track then none else s.move? k
  lane : w.place (.lane l) = { s.place (.lane l) with incoming := (s.place (.lane l)).incoming.filter (· != m.track) }
  place : ∀ k, k ≠ .lane l → k ≠ .shuttle → w.place k = s.place k
  late : m.state = .lost → w.place .shuttle = s.place .shuttle
  inTime : m.state ≠ .lost → w.place .shuttle = { s.place .shuttle with
    occupants := (s.place .shuttle).occupants.filter (· != m.track)
    clearing := (s.place .shuttle).clearing || s.covered .shuttle }
  covered : w.covered .shuttle = s.covered .shuttle
  keeps : KeepsAllBut [.filtered, .timing, .places, .moves, .records] s w

theorem delivered_inTime (hd : m.dest = .lane l) (hs : m.source = .shuttle) (hi : m.state ≠ .lost) (hx : s.record? m.track = some x)
    (hr : x.ref = some ref) : Delivered s (((s.laneSensed l).leaveSource m).joinDest m) m l ref := by
  have k1 := laneSensed_keeps s l
  have hc := laneSensed_shuttle s l
  generalize s.laneSensed l = a at *
  have k2 := leaveSource_keeps a m
  have place (k : Place) := leaveSource_place a m k
  rw [hs] at place
  generalize a.leaveSource m = b at *
  have k12 : KeepsAllBut [.filtered, .timing, .places] s b := (k1.mono (by simp)).trans (k2.mono (by simp))
  have k3 := joinDest_keeps b m
  refine ⟨⟨{ x with location := m.dest, movingTo := none }, ?_, ?_, ?_⟩, fun k hk => ?_, fun k => ?_, ?_, fun k hk hk' => ?_, fun h => absurd h hi, fun _ => ?_,
    ((k3.covered _).trans (k2.covered _)).trans hc,
    (k12.mono (by simp)).trans (k3.mono (by simp))⟩
  · rw [joinDest_record?, if_pos rfl, k12.record?, hx]
    rfl
  · exact hd
  · exact hr
  · rw [joinDest_record?, if_neg hk, k12.record?]
  · rw [joinDest_move?, k12.move?]
  · rw [joinDest_place b hd, if_pos rfl, place, if_neg nofun, k1.place]
  · rw [joinDest_place b hd, if_neg hk, place, if_neg hk', k1.place]
  · rw [joinDest_place b hd, if_neg nofun, place, if_pos rfl, k1.place, hc]
    rfl

/-- A record whose late move completes has the stage it had before it became LOST. -/
def State.stageRestored (s : State) (n : Nat) : State := s.modRecord n fun r => { r with stage := r.preLost.getD r.stage, preLost := none }

theorem stageRestored_record? (s : State) (n k : Nat) : (s.stageRestored n).record? k
    = if k = n then (s.record? n).map fun r => { r with stage := r.preLost.getD r.stage, preLost := none } else s.record? k :=
  modRecord_record? (f := fun r => { r with stage := r.preLost.getD r.stage, preLost := none }) k

theorem delivered_late (hd : m.dest = .lane l) (hi : m.state = .lost) (hx : s.record? m.track = some x)
    (hr : x.ref = some ref) : Delivered s (((s.laneSensed l).stageRestored m.track).joinDest m) m l ref := by
  have k1 := laneSensed_keeps s l
  have hc := laneSensed_shuttle s l
  generalize s.laneSensed l = a at *
  have k2 : KeepsAllBut [.records] a (a.stageRestored m.track) := by simp [State.stageRestored]
  have find (k : Nat) := stageRestored_record? a m.track k
  generalize a.stageRestored m.track = b at *
  have k12 : KeepsAllBut [.filtered, .timing, .records] s b := (k1.mono (by simp)).trans (k2.mono (by simp))
  have k3 := joinDest_keeps b m
  refine ⟨⟨{ x with stage := x.preLost.getD x.stage, preLost := none, location := m.dest, movingTo := none }, ?_, ?_, ?_⟩,
    fun k hk => ?_, fun k => ?_, ?_, fun k hk _ => ?_, fun _ => ?_, fun h => absurd hi h,
    ((k3.covered _).trans (k2.covered _)).trans hc,
    (k12.mono (by simp)).trans (k3.mono (by simp))⟩
  · rw [joinDest_record?, if_pos rfl, find, if_pos rfl, k1.record?, hx]
    rfl
  · exact hd
  · exact hr
  · rw [joinDest_record?, if_neg hk, find, if_neg hk, k1.record?]
  · rw [joinDest_move?, k12.move?]
  · rw [joinDest_place b hd, if_pos rfl, k12.place]
  · rw [joinDest_place b hd, if_neg hk, k12.place]
  · rw [joinDest_place b hd, if_neg nofun, k12.place]

/-! ### The completion of the move -/

/-- The report of a late completion. -/
def State.lateReport (s : State) (m : Move) : Report := s.report .late { track := some m.track, detail := m.dest.number }

/-- The line after a delivery into a lane, before the derived parts: the pallet stood in the lane and was dispatched. -/
theorem delivery_run (ht : tget s.field.timing (Input.laneEntry l).idx = some 0) (hraw : s.rawLevel (.laneEntry l) = true)
    (hf : s.field.moves.find? (fun k => k.dest == .lane l && k.state != .waiting) = some m) (hs : m.source = .shuttle)
    (hx : s.record? m.track = some x) (hr : x.ref = some ref) :
    ∃ w v, Delivered s w m l ref ∧ exec (.inputFilterExpiry (.laneEntry l)) s = .next v.settle
      ∧ ((m.state ≠ .lost ∧ v = w.dispatch m.track l)
        ∨ m.state = .lost ∧ v = (w.dispatch m.track l).raise .late { track := some m.track, detail := m.dest.number }) := by
  obtain ⟨hd, hw⟩ : m.dest = .lane l ∧ m.state ≠ .waiting := by simpa using List.find?_some hf
  have hmoves : (s.laneSensed l).field.moves = s.field.moves := laneSensed_keeps s l .moves (by decide)
  have run : exec (.inputFilterExpiry (.laneEntry l)) s
      = .next (((s.laneSensed l).completion (.lane l)).getD (s.laneSensed l)).settle := by
    show execInputFilterExpiry (.laneEntry l) s = _
    unfold execInputFilterExpiry
    rw [ht, hraw]
    rfl
  have comp : (s.laneSensed l).completion (.lane l)
      = some (if m.state == .inFlight then (s.laneSensed l).completeMove m else (s.laneSensed l).completeLate m) := by
    unfold State.completion
    rw [hmoves, hf]
  rw [run, comp]
  by_cases hi : m.state = .lost
  · refine ⟨_, _, delivered_late hd hi hx hr, rfl, .inr ⟨hi, ?_⟩⟩
    rw [Option.getD_some, hi]
    show ((((s.laneSensed l).stageRestored m.track).joinDest m).reachedPlace m.track m.dest).raise .late _ = _
    rw [hd]
    rfl
  · have hin : m.state = .inFlight := by
      cases h : m.state with
      | inFlight => rfl
      | waiting => exact absurd h hw
      | lost => exact absurd h hi
    refine ⟨_, _, delivered_inTime hd hs hi hx hr, rfl, .inl ⟨hi, ?_⟩⟩
    rw [Option.getD_some, hin]
    show ((((s.laneSensed l).leaveSource m).joinDest m).leftPlace m.track m.source).reachedPlace m.track m.dest = _
    rw [hd, hs]
    rfl

end Sys2Proof.Machine
end

section
/-! Settles O40: a delivery into a lane (R42, R44, R163). -/

namespace Sys2Proof.Machine

open State

variable {bs : List Block} {r s t u v w : State} {n : Nat} {ref : LoadRef} {x : Record} {l : Lane} {ld : Load} {sl : Slot} {m : Move}

/-- The reports of a delivery into a lane, before those of the derived parts. -/
structure DeliveryReports (s v : State) (m : Move) (l : Lane) (ref : LoadRef) (ld : Load) (new : List Report) : Prop where
  count : new.length ≤ 7
  queues : Queues s v new
  dispatch : s.dispatchReport m.track ref l ∈ new
  complete : (ld.dispatching ref.position).status = .complete →
    (ld.modSlotAt ref.position Slot.dispatch).completeReport s.lineTime ∈ new
  late : m.state = .lost → s.lateReport m ∈ new

/-- A delivery into a lane stands dispatched, but for the derived parts. -/
theorem delivery_leaves (del : Delivered s w m l ref) (hl : s.load? ref.load = some ld) (hb : ld.status = .bound)
    (hv : (m.state ≠ .lost ∧ v = w.dispatch m.track l)
      ∨ m.state = .lost ∧ v = (w.dispatch m.track l).raise .late { track := some m.track, detail := m.dest.number }) :
    ∃ d, Dispatched w d m.track ref ld l ∧ KeepsAllBut [.queue] d v ∧ ∃ new, DeliveryReports s v m l ref ld new := by
  obtain ⟨y, hy, hloc, hr⟩ := del.record
  have k := del.keeps
  have d := dispatch_leaves hy hloc (by rw [del.move, if_pos rfl]) hr ((k.load? _).trans hl) hb
  generalize w.dispatch m.track l = e at *
  obtain ⟨new, hn, q, hd, hc⟩ := d.reports
  have q' : Queues s e new := (Queues.of_keeps k).trans q
  have ew : w.dispatchReport m.track ref l = s.dispatchReport m.track ref l := by
    unfold State.dispatchReport State.report
    rw [k .lineTime (by decide), (k .lanes (by decide) l).1]
  have et : w.lineTime = s.lineTime := k .lineTime (by decide)
  rw [ew] at hd
  rw [et] at hc
  refine ⟨e, d, ?_⟩
  rcases hv with ⟨hi, rfl⟩ | ⟨hi, rfl⟩
  · exact ⟨keeps_refl, new, by omega, q', hd, hc, fun h => absurd h hi⟩
  · have el : e.report .late { track := some m.track, detail := m.dest.number } = s.lateReport m := by
      unfold State.lateReport State.report
      rw [d.keeps .lineTime (by decide), et]
    refine ⟨raise_keeps _ _ _, _, ?_, q'.trans (.raise _ _), List.mem_append_left _ hd, fun h => List.mem_append_left _ (hc h), fun _ => ?_⟩
    · simp
      omega
    · rw [el]
      simp

theorem OwnersAfterDeletion.of_derived (o : OwnersAfterDeletion s u n) (k : KeepsAllBut derived u t) : OwnersAfterDeletion s t n := by
  obtain ⟨o1, o2, o3, o4, o5⟩ := o
  refine ⟨fun j => (k.wrapper j).trans (o1 j), fun j => (k.staging j).trans (o2 j), ?_, ?_, ?_⟩
  · rw [k .wrap (by decide), o3]
  · have e := k.label
    rw [o4] at e
    exact e
  · have e := k.buffer
    rw [o5] at e
    exact e

/-- Settles O40: the pallet joins the lane, in time or late, its record is deleted as dispatched, and the lane states follow. -/
theorem aDeliveryIntoALaneIsADispatch : Obligations.ADeliveryIntoALaneIsADispatch := by
  intro l s m r ref ld sl ht hraw hf hs hx hr hl hsl hfin hb
  obtain ⟨hd, -⟩ : m.dest = .lane l ∧ m.state ≠ .waiting := by simpa using List.find?_some hf
  obtain ⟨w, v, del, run, hv⟩ := delivery_run ht hraw hf hs hx hr
  obtain ⟨d, dis, kv, new, rep⟩ := delivery_leaves del hl hb hv
  have lanes := settle_laneStatus v l
  have reported {p : Report → Prop} {y : Report} {k : ReportKind} (h : y ∈ new) (hk : y.kind = k) (hp : p y) (ho : QueueOpen s) :
      Reported v.settle k p := rep.queues.reported h hk hp ho (by have := rep.count; omega)
  have changed (ho : QueueOpen s) := rep.queues.laneReported (l := l) (by have := rep.count; omega) ho
  have kt := settle_keeps v
  have ls : v.settle.laneStatus l = v.laneStatus l := kt.laneStatus l (by decide) (by decide) (by decide)
  generalize v.settle = t at *
  have k : KeepsAllBut derived d t := (kv.mono (by simp [derived])).trans kt
  have kw := del.keeps
  have place (c : Place) := (k.place c).trans (dis.place c)
  have count (c : Lane) : (tget t.lanes c).count = if c = l then (tget s.lanes l).count + 1 else (tget s.lanes c).count := by
    rw [(k .lanes (by decide) c).1, dis.count, (kw .lanes (by decide) l).1, (kw .lanes (by decide) c).1]
  have load (c : Nat) : t.load? c = if c = ref.load then some (ld.dispatching ref.position) else s.load? c := by
    rw [k.load?, dis.load, kw.load?]
  have shuttle : t.place .shuttle = w.place .shuttle := (place .shuttle).trans (if_neg nofun)
  have covered : t.covered .shuttle = s.covered .shuttle :=
    ((k.covered _).trans (dis.keeps.covered _)).trans del.covered
  have status : (tget v.lanes l).status = (tget s.lanes l).status := by
    rw [kv .laneStates (by decide) l, dis.keeps .laneStates (by decide) l, kw .laneStates (by decide) l]
  have owners : OwnersAfterDeletion w t m.track := dis.owners.of_derived k
  obtain ⟨b1, b2, -, -, b5⟩ := buffer_forgets owners
  obtain ⟨ld', hl', hslot⟩ := slot?_load hsl
  obtain rfl : ld = ld' := Option.some.inj (hl.symm.trans hl')
  refine ⟨t, ld.dispatching ref.position, run, ?_, fun c hc => ?_, ?_, fun c hc => ?_, ?_, ?_, dispatching_status hb, fun c hc => ?_,
    ⟨fun hi => ⟨?_, fun ho => ?_⟩, fun hi => ?_⟩, ?_, fun c hc hc' => ?_, ?_, fun c hc => ?_, b1, b5, b2, fun ho => ?_, fun hi ho => ?_,
    fun hc ho => ?_, lanes.trans ls.symm, fun hne ho => ?_, ?_⟩
  · rw [count, if_pos rfl]
  · rw [count, if_neg hc]
  · rw [k.record?, dis.record, if_pos rfl]
  · rw [k.record?, dis.record, if_neg hc, del.records c hc]
  · unfold State.slot?
    rw [load, if_pos rfl]
    exact dispatching_slotAt hslot
  · rw [load, if_pos rfl]
  · rw [load, if_neg hc]
  · rw [hs, shuttle, del.late hi]
  · exact reported (rep.late hi) rfl ⟨rfl, rfl⟩ ho
  · unfold LeftBehind
    rw [hs, shuttle, del.inTime hi, covered]
    rfl
  · rw [place, if_pos rfl, del.lane]
  · rw [place, if_neg hc', del.place c hc' hc]
  · rw [k.move?, dis.move, if_pos rfl]
  · rw [k.move?, dis.move, if_neg hc, del.move, if_neg hc]
  · exact reported rep.dispatch rfl ⟨rfl, rfl, rfl, rfl, rfl⟩ ho
  · exact reported (rep.late hi) rfl ⟨rfl, congrArg Place.number hd⟩ ho
  · refine reported (rep.complete hc) rfl ⟨?_, ?_, ?_⟩ ho
    · exact congrArg some ((Load.modSlotAt_id ..).trans (load?_some hl).2)
    · exact congrArg laneNumber (modSlotAt_rest ..).2.2.1
    · rw [Load.dispatching, (tested_slots _).1]
      rfl
  · refine ⟨_, changed ho ?_, rfl, rfl, ?_⟩
    · rw [status, ← lanes]
      exact hne.symm
    · rw [lanes]
      rfl
  · exact (kw.mono (by simp)).trans ((dis.keeps.mono (by simp [derived])).trans (k.mono fun _ h => List.mem_append_right _ h))

end Sys2Proof.Machine
end

section
/-! SUPPORT. The derived signals as functions of the state, in the words of the rules (R30, R31, R46, R75, R79, R135, R156, R168). -/

namespace Sys2Proof.Machine

open State

variable {s t : State} {x : Record}

/-! ### Load order and the shuttle (R153, R157, R158) -/

theorem boundLane_iff {ld : Load} {ref : LoadRef} {l : Lane} : s.boundLane x = some (ld, ref, l) ↔ LaneOf s x ref ld l := by
  unfold State.boundLane LaneOf
  rcases hx : x.ref with _ | k
  · simp
  · rcases e : s.load? k.load with _ | m
    · simp only [e, reduceCtorEq, Option.some.injEq, false_iff]
      rintro ⟨rfl, h, -⟩
      rw [e] at h
      cases h
    · simp only [e, Option.map_eq_some_iff, Prod.mk.injEq, Option.some.injEq]
      constructor
      · rintro ⟨_, h, rfl, rfl, rfl⟩
        exact ⟨rfl, e, h⟩
      · rintro ⟨rfl, h, hl⟩
        rw [e] at h
        cases h
        exact ⟨l, hl, rfl, rfl, rfl⟩

theorem lostTo_eq_false {p : Place} : s.lostTo p = false ↔ ∀ m ∈ s.field.moves, m.dest = p → m.state ≠ .lost := by
  simp [State.lostTo]

/-- A pallet is releasable into a lane just as the function of R158 finds. -/
theorem releasable_iff {l : Lane} : s.releasable x = some l ↔ CanRelease s x l := by
  unfold State.releasable CanRelease
  rcases e : s.boundLane x with _ | ⟨ld, ref, ln⟩
  · refine ⟨nofun, fun ⟨ref, ld, h, _⟩ => ?_⟩
    rw [boundLane_iff.mpr h] at e
    cases e
  · have bound := boundLane_iff.mp e
    have only (ref' : LoadRef) (ld' : Load) (l : Lane) (h : LaneOf s x ref' ld' l) : ref' = ref ∧ ld' = ld ∧ l = ln := by
      have := (boundLane_iff.mpr h).symm.trans e
      simp_all
    simp only [Option.ite_none_right_eq_some, Option.some.injEq, Bool.and_eq_true, Bool.or_eq_true, beq_iff_eq, decide_eq_true_eq,
      Bool.not_eq_true', lostTo_eq_false, nextPosition_iff, List.contains_iff_mem]
    constructor
    · rintro ⟨⟨⟨⟨⟨h1, h2⟩, h3⟩, h4⟩, h5⟩, rfl⟩
      exact ⟨ref, ld, bound, h1, h2, h3, h4, h5⟩
    · rintro ⟨ref', ld', h, h1, h2, h3, h4, h5⟩
      obtain ⟨rfl, rfl, rfl⟩ := only _ _ _ h
      exact ⟨⟨⟨⟨⟨h1, h2⟩, h3⟩, h4⟩, h5⟩, rfl⟩

theorem releasable_isNone_iff : (s.releasable x).isNone = true ↔ ∀ l, ¬ CanRelease s x l := by
  simp only [Option.isNone_iff_eq_none, Option.eq_none_iff_forall_ne_some, ne_eq, releasable_iff]

theorem isOpen_iff {p : Position} : s.isOpen p = true ↔ s.placeState (.position p) = .free ∧ tget s.buffer.reserved p = none := by
  simp [State.isOpen]

theorem shared_iff {p : Position} : s.shared p = true ↔ ∀ l, windowHolds (tget s.buffer.windows l) p = false := by
  simp [State.shared, mem_allLanes]

/-- The least of the positions of a sort is found first. -/
theorem find?_allPositions_iff {f : Position → Bool} {p : Position} :
    allPositions.find? f = some p ↔ f p = true ∧ ∀ q, f q = true → p ≤ q := by
  have e : allPositions = List.finRange 16 := by decide
  rw [e, List.find?_eq_some_iff_getElem]
  constructor
  · rintro ⟨hp, i, hi, hpi, hmin⟩
    simp only [List.getElem_finRange] at hpi hmin
    subst hpi
    refine ⟨hp, fun q hq => ?_⟩
    by_contra hlt
    have := hmin q.val (by simp at hlt ⊢; omega)
    simp_all
  · rintro ⟨hp, hmin⟩
    refine ⟨hp, p.val, by simp, by simp, fun j hj => ?_⟩
    simp only [List.getElem_finRange, Bool.not_eq_true']
    by_contra h
    have := hmin ⟨j, by omega⟩ (by simpa using h)
    exact absurd this (by simp [Fin.le_def]; omega)

/-- A position is open and shared. -/
theorem find?_shared_iff {p : Position} : (allPositions.find? fun p => s.shared p && s.isOpen p) = some p
    ↔ ((s.placeState (.position p) = .free ∧ tget s.buffer.reserved p = none)
        ∧ ∀ l, windowHolds (tget s.buffer.windows l) p = false)
      ∧ ∀ q, (s.placeState (.position q) = .free ∧ tget s.buffer.reserved q = none)
        ∧ (∀ l, windowHolds (tget s.buffer.windows l) q = false) → p ≤ q := by
  simp only [find?_allPositions_iff, Bool.and_eq_true, shared_iff, isOpen_iff, and_comm]

/-- The position chosen for a pallet is the one that the function of R153 finds. -/
theorem choosePosition_iff {p : Position} : s.choosePosition x = some p ↔ PositionChosen s x p := by
  unfold State.choosePosition PositionChosen
  dsimp only
  rcases e : s.boundLane x with _ | ⟨ld, ref, ln⟩
  · have noLane (ref : LoadRef) (ld : Load) (l : Lane) : ¬ LaneOf s x ref ld l := fun h => by
      rw [boundLane_iff.mpr h] at e; cases e
    simp [noLane, find?_shared_iff, and_assoc]
  · have own (q : Position) : (∃ ref ld l, LaneOf s x ref ld l ∧ windowHolds (tget s.buffer.windows l) q = true)
        ↔ windowHolds (tget s.buffer.windows ln) q = true := by
      constructor
      · rintro ⟨ref', ld', l, h, hw⟩
        have := (boundLane_iff.mpr h).symm.trans e
        simp_all
      · exact fun hw => ⟨ref, ld, ln, boundLane_iff.mp e, hw⟩
    simp only [own]
    rcases f : allPositions.find? (fun p => windowHolds (tget s.buffer.windows ln) p && s.isOpen p) with _ | q
    · have none (q : Position) : ¬ ((s.placeState (.position q) = .free ∧ tget s.buffer.reserved q = none)
          ∧ windowHolds (tget s.buffer.windows ln) q = true) := fun h => by
        have := List.find?_eq_none.mp f q (mem_allPositions q)
        simp [isOpen_iff.mpr h.1, h.2] at this
      simp only [none, not_false_eq_true, implies_true, false_and, true_and, false_or]
      rw [find?_shared_iff]
    · obtain ⟨hq, hmin⟩ := find?_allPositions_iff.mp f
      simp only [Bool.and_eq_true, isOpen_iff] at hq hmin
      simp only [Option.some.injEq]
      constructor
      · rintro rfl
        exact .inl ⟨hq.symm, fun k hk => hmin k hk.symm⟩
      · rintro (⟨hp, hle⟩ | ⟨hno, -⟩)
        · exact le_antisymm (hmin p hp.symm) (hle q hq.symm)
        · exact absurd hq.symm (hno q)

theorem choosePosition_isNone_iff : (s.choosePosition x).isNone = true ↔ ∀ p, ¬ PositionChosen s x p := by
  simp only [Option.isNone_iff_eq_none, Option.eq_none_iff_forall_ne_some, ne_eq, choosePosition_iff]

/-- The deadlock condition holds just when the function of R168 finds a record in deadlock. -/
theorem deadlocked_isSome_iff : s.deadlocked.isSome = true ↔ Deadlocked s := by
  unfold State.deadlocked Deadlocked
  rcases e : s.buffer.exitPallet.bind s.record? with _ | r
  · refine ⟨nofun, fun ⟨_, ⟨n, r, hx, hr, _⟩, _⟩ => ?_⟩
    rw [hx, Option.bind_some, hr] at e
    cases e
  · obtain ⟨n, hx, hr⟩ := Option.bind_eq_some_iff.mp e
    have held : (s.track.records.all fun h => h.stage != .held || (s.releasable h).isNone) = true
        ↔ ∀ h ∈ s.track.records, h.stage = .held → ∀ l, ¬ CanRelease s h l := by
      simp only [List.all_eq_true, Bool.or_eq_true, bne_iff_ne, ne_eq, releasable_isNone_iff, imp_iff_not_or]
    have exit : (∃ n r, s.buffer.exitPallet = some n ∧ s.record? n = some r ∧ (∀ l, ¬ CanRelease s r l) ∧ ∀ p, ¬ PositionChosen s r p)
        ↔ (∀ l, ¬ CanRelease s r l) ∧ ∀ p, ¬ PositionChosen s r p := by
      simp [hx, hr]
    simp only [Option.isSome_ite, Bool.and_eq_true, held, exit, releasable_isNone_iff, choosePosition_isNone_iff]
    rw [Option.isNone_iff_eq_none]
    tauto

/-! ### Requests, the grant and the print limit (R75, R79, R135) -/

theorem requests_iff {i : Infeed} : s.requests i = true ↔ WantsCheck s i := by
  unfold State.requests WantsCheck State.oldest
  rcases e : (s.place (.infeed i)).occupants with _ | ⟨n, rest⟩
  · simp
  · rcases er : s.record? n with _ | r
    · simp +contextual [er]
    · simp +contextual [er, and_assoc]

/-- The grant is released just when it is over (R79). -/
theorem settleGrant_of_over {g : Grant} (hg : s.merge.grant = some g) (h : GrantOver s g) :
    s.settleGrant = s.modMerge fun m => { m with grant := none } := by
  unfold State.settleGrant
  rw [hg]
  rcases h with h | ⟨hi, ho, r, hr, hl⟩
  · simp only [h]
  · have hn : r.number = g.track := record?_number hr
    have left : (s.leftCheck r && !s.input .checkExit) = true := by
      unfold State.leftCheck
      rw [hn, hi]
      cases e : r.location <;> simp_all
    simp only [hr, left, if_true]

theorem settleGrant_of_not_over {g : Grant} (hg : s.merge.grant = some g) (h : ¬ GrantOver s g) : s.settleGrant = s := by
  unfold State.settleGrant
  rw [hg]
  rcases hr : s.record? g.track with _ | r
  · exact absurd (.inl hr) h
  · have hn : r.number = g.track := record?_number hr
    have stays : ¬ (s.leftCheck r && !s.input .checkExit) = true := by
      intro hl
      refine h (.inr ?_)
      unfold State.leftCheck at hl
      rw [hn] at hl
      simp only [Bool.and_eq_true, Bool.not_eq_true', List.contains_eq_mem, decide_eq_false_iff_not] at hl
      refine ⟨hl.2, hl.1.1, r, hr, fun i hi => ?_⟩
      simp [hi] at hl
    simp only [hr]
    rw [if_neg stays]

theorem printRuns_iff : s.printRuns = true ↔ PrintWaits s := by
  unfold State.printRuns PrintWaits State.palletJob
  rcases s.label.pallet with _ | p
  · simp
  · rcases e : s.label.jobs.find? (fun j => j.track == p.track) with _ | j
    · simp +contextual [e]
    · simp +contextual [e, and_assoc]

/-! ### Drives (R30, R46) -/

theorem drivesLive_iff : s.drivesLive = true ↔ s.mode.mode ≠ .stopped ∧ s.mode.mode ≠ .halted := by
  simp [State.drivesLive]

theorem working_iff : s.working = true ↔ s.mode.mode = .run ∨ s.mode.mode = .drain := by simp [State.working]

theorem accumulates_iff {i : Infeed} : s.accumulates i = true ↔ Accumulates s i := by
  simp [State.accumulates, Accumulates, working_iff, and_assoc]

theorem zoneDrive_iff {z : Zone} : s.zoneDrive z = true ↔ s.mode.mode ≠ .stopped ∧ s.mode.mode ≠ .halted
    ∧ ((∃ m ∈ s.field.moves, m.zone = z ∧ m.state = .inFlight) ∨ ∃ i, z = .infeed i ∧ Accumulates s i) := by
  unfold State.zoneDrive
  cases z <;> simp [drivesLive_iff, accumulates_iff, and_assoc]

/-- The target of the first move in flight that a carrier carries is one that follows the moves. -/
theorem carrierFollows_of_findSome? {α : Type} {f : Move → Option α} {carries : Move → α → Prop} {d : Option α}
    (hf : ∀ m x, f m = some x ↔ carries m x) (hd : d = if s.drivesLive then s.inFlight.findSome? f else none) :
    CarrierFollows s d carries := by
  subst hd
  constructor
  · intro x hx
    obtain ⟨hl, hx⟩ := (Option.ite_none_right_eq_some ..).mp hx
    obtain ⟨m, hm, hx⟩ := List.exists_of_findSome?_eq_some hx
    obtain ⟨hm, hs⟩ := List.mem_filter.mp hm
    obtain ⟨h1, h2⟩ := drivesLive_iff.mp hl
    exact ⟨h1, h2, m, hm, by simpa using hs, (hf m x).mp hx⟩
  · intro hn h1 h2 m hm hs x hx
    rw [if_pos (drivesLive_iff.mpr ⟨h1, h2⟩)] at hn
    have := List.findSome?_eq_none_iff.mp hn m (List.mem_filter.mpr ⟨hm, by simp [hs]⟩)
    rw [(hf m x).mpr hx] at this
    cases this

theorem carTarget_iff (m : Move) (w : Side) : m.carTarget = some w ↔ (∃ k, m.source = .staging k) ∧ m.dest = .wrapper w := by
  unfold Move.carTarget
  rcases m with ⟨n, src, dest, z, st, a, b, d⟩
  cases src <;> cases dest <;> simp

theorem shuttleTarget_iff (m : Move) (p : Place) :
    m.shuttleTarget = some p ↔ (m.source = .shuttle ∨ m.dest = .shuttle) ∧ m.dest = p := by
  simp [Move.shuttleTarget]

/-! ### Lamps and beacons (R31, R156) -/

theorem beacon_shows (s : State) (l : Lane) : Shows s (.lane l) (s.beacon l) := by
  unfold State.beacon Shows
  rcases e : s.boundLoad l with _ | ld
  · exact .inl ⟨e, rfl⟩
  · refine .inr ⟨ld, e, ?_⟩
    by_cases hc : ld.status = .complete
    · simp [hc]
    · have bound : s.laneStatus l ≠ .unbound := by
        unfold State.laneStatus
        rw [e]
        simp only [Option.isNone_some, Bool.false_eq_true, if_false]
        split_ifs <;> simp
      cases hs : s.laneStatus l <;> simp_all

theorem stopLamp_shows (s : State) (i : Infeed) : Shows s (.stop i) (s.stopLamp i) := by
  have refuses : (!tget s.track.enabled i.idx || s.mode.mode != .run || (s.place (.infeed i)).unknown
        || decide (3 ≤ (s.place (.infeed i)).occupants.length) || decide (Config.recordCapacity ≤ s.track.records.length)) = true
      ↔ tget s.track.enabled i.idx = false ∨ s.mode.mode ≠ .run ∨ (s.place (.infeed i)).unknown = true
        ∨ 3 ≤ (s.place (.infeed i)).occupants.length ∨ 32 ≤ s.track.records.length := by
    simp only [Bool.or_eq_true, Bool.not_eq_true', bne_iff_ne, decide_eq_true_eq, or_assoc]
    rfl
  unfold State.stopLamp Shows
  dsimp only
  split
  · exact .inl ⟨refuses.mp ‹_›, rfl⟩
  · exact .inr ⟨mt refuses.mpr ‹_›, rfl⟩

theorem spurBeacon_shows (s : State) (sp : Spur) : Shows s (.spur sp) (s.spurBeacon sp) := by
  unfold State.spurBeacon Shows
  dsimp only
  rcases s.place (.spur sp) with ⟨u, c, occ, inc⟩
  cases u
  · rcases occ with _ | ⟨a, _ | ⟨b, _ | ⟨c, l⟩⟩⟩ <;> simp
  · simp

theorem mem_allStations (st : Station) : st ∈ allStations := by
  cases st with
  | wrapper w => cases w <;> decide
  | _ => decide

theorem mem_allZones (z : Zone) : z ∈ allZones := by
  cases z with
  | infeed i => cases i <;> decide
  | _ => decide

theorem mem_allLamps (l : Lamp) : l ∈ allLamps := by
  rcases l with l | i | sp | _
  · revert l; decide
  · cases i <;> decide
  · cases sp <;> decide
  · decide

theorem faultBeacon_shows (s : State) : Shows s .fault s.faultBeacon := by
  unfold State.faultBeacon Shows
  by_cases h : s.mode.mode = .halted
  · simp [h]
  · simp only [h, beq_iff_eq, if_false]
    have trouble : (((allStations.any fun st => s.stationState st == .faulted || s.stationState st == .stalled)
          || (allZones.any fun z => (s.zone z).state == .stalled) || (allPlaces.any fun p => (s.place p).unknown)
          || (s.track.records.any fun r => r.stage == .lost)) = true)
        ↔ (∃ st, s.stationState st = .faulted ∨ s.stationState st = .stalled) ∨ (∃ z, (s.zone z).state = .stalled)
          ∨ (∃ q, (s.place q).unknown = true) ∨ ∃ r ∈ s.track.records, r.stage = .lost := by
      simp [mem_allStations, mem_allZones, mem_allPlaces, or_assoc]
    split_ifs with ht
    · exact .inr (.inl ⟨h, trouble.mp ht, rfl⟩)
    · exact .inr (.inr ⟨h, mt trouble.mpr ht, rfl⟩)

/-- The pattern of a lamp is the one it is to show. -/
theorem pattern_shows (s : State) (l : Lamp) : Shows s l (s.pattern l) := by
  cases l with
  | lane l => exact beacon_shows s l
  | stop i => exact stopLamp_shows s i
  | spur sp => exact spurBeacon_shows s sp
  | fault => exact faultBeacon_shows s

/-- A lamp is to show one pattern only. -/
theorem Shows.unique {l : Lamp} {p q : Pattern} (h : Shows s l p) (h' : Shows s l q) : p = q := by
  cases l <;> unfold Shows at h h' <;> grind

theorem shows_iff {l : Lamp} {p : Pattern} : Shows s l p ↔ p = s.pattern l :=
  ⟨fun h => h.unique (pattern_shows s l), fun h => h ▸ pattern_shows s l⟩

end Sys2Proof.Machine
end

section
/-! SUPPORT. The derived signals between states that agree in all they follow from, and after `settle` (R30, R31, R75, R79, R83, R135,
R155, R156, R168). -/

namespace Sys2Proof.Machine

open State

variable {bs : List Block} {r s t u : State}

/-! ### The parts that no signal follows from -/

/-- The parts of the state that the derived signals do not follow from: the signals themselves among them. -/
def offSignals : List Block :=
  [.lineTime, .queue, .counters, .address, .straps, .receiver, .answering, .identity, .mask, .articles, .bases, .recipes, .bands,
   .raw, .timing, .estop, .entryTaken, .diverter, .purgeHold, .wakeHolds, .outputs, .nextNumber, .scanners, .grant, .mass,
   .printLimit, .deadlock, .laneStates, .settings, .reported, .sent, .freeDraws, .pending]

namespace KeepsAllBut

variable (k : KeepsAllBut offSignals s t)

include k in
theorem stationState_same (st : Station) : t.stationState st = s.stationState st := by
  obtain ⟨-, -, h3, -⟩ := k .label (by decide)
  obtain ⟨-, -, -, -, -, hf⟩ := k .merge (by decide)
  have hl := (k .label (by decide)).2.1
  have hb := k .buffer (by decide)
  cases st with
  | check => simp only [State.stationState, show t.check = _ from k .check (by decide)]
  | wrapper w => simp only [State.stationState, k.wrapper]
  | label => simp only [State.stationState, h3, hl]
  | shuttle =>
    have hw : t.shuttleWaiting = s.shuttleWaiting := by
      unfold State.shuttleWaiting
      rw [hb.2.2.1, show t.field.moves = _ from k .moves (by decide)]
    simp only [State.stationState, hw, hb.2.2.2.1]
  | mergeGate => simp only [State.stationState, hf]

include k in
theorem boundLane_same (x : Record) : t.boundLane x = s.boundLane x := by
  unfold State.boundLane
  simp only [k.load?]

include k in
theorem releasable_same (x : Record) : t.releasable x = s.releasable x := by
  obtain ⟨-, -, -, -, hr, hf, -⟩ := k .buffer (by decide)
  unfold State.releasable State.releasesTo State.lostTo
  simp only [k.boundLane_same, k.laneStatus, k.place, hr, hf, show t.field.moves = _ from k .moves (by decide),
    fun l => (k .lanes (by decide) l).1]

include k in
theorem choosePosition_same (x : Record) : t.choosePosition x = s.choosePosition x := by
  obtain ⟨hr, -⟩ := k .buffer (by decide)
  unfold State.choosePosition State.shared State.isOpen
  simp only [k.boundLane_same, k.placeState, hr, show t.buffer.windows = _ from k .windows (by decide)]

include k in
theorem deadlocked_same : t.deadlocked = s.deadlocked := by
  obtain ⟨-, hx, ht, -⟩ := k .buffer (by decide)
  unfold State.deadlocked
  simp only [k.releasable_same, k.choosePosition_same, hx, ht, show t.track.records = _ from k .records (by decide),
    show t.record? = s.record? from funext k.record?]

include k in
theorem requests_same (i : Infeed) : t.requests i = s.requests i := by
  unfold State.requests State.oldest
  simp only [k.place, k.record?, show t.track.enabled = _ from k .enabled (by decide)]

include k in
theorem printRuns_same : t.printRuns = s.printRuns := by
  obtain ⟨hp, hc, hf, hj, -⟩ := k .label (by decide)
  unfold State.printRuns State.palletJob
  simp only [hp, hc, hf, hj]

include k in
theorem grantOver_same (g : Grant) : GrantOver t g ↔ GrantOver s g := by
  unfold GrantOver
  simp only [k.record?, k.input, k.place]

include k in
theorem zoneDrive_same (z : Zone) : t.zoneDrive z = s.zoneDrive z := by
  have hz (z : Zone) : (t.zone z).state = (s.zone z).state := (k .zones (by decide) z.idx).1
  unfold State.zoneDrive State.drivesLive State.accumulates State.working
  simp only [k.place, k.input, hz, show t.mode = _ from k .mode (by decide), show t.field.moves = _ from k .moves (by decide)]

include k in
theorem pattern_same (l : Lamp) : t.pattern l = s.pattern l := by
  have hz (z : Zone) : (t.zone z).state = (s.zone z).state := (k .zones (by decide) z.idx).1
  have hm : t.mode = s.mode := k .mode (by decide)
  cases l with
  | lane l => simp only [State.pattern, State.beacon, k.boundLoad, k.laneStatus]
  | stop i =>
    simp only [State.pattern, State.stopLamp, k.place, hm, show t.track.enabled = _ from k .enabled (by decide),
      show t.track.records = _ from k .records (by decide)]
  | spur sp => simp only [State.pattern, State.spurBeacon, k.place]
  | fault =>
    simp only [State.pattern, State.faultBeacon, k.place, hz, hm, k.stationState_same, show t.track.records = _ from k .records (by decide)]

include k in
theorem carriers_same : t.drivesLive = s.drivesLive ∧ t.inFlight = s.inFlight ∧ t.merge.switch = s.merge.switch := by
  unfold State.drivesLive State.inFlight
  rw [show t.mode = _ from k .mode (by decide), show t.field.moves = _ from k .moves (by decide)]
  exact ⟨rfl, rfl, (k .merge (by decide)).2.2.2.1⟩

end KeepsAllBut

/-! ### One entry of a table after another brought up to date -/

/-- Where each step sets one entry to a value that no step changes, a run of them sets the entries of its list. -/
theorem foldl_sets {κ β : Type} [DecidableEq κ] {f : State → κ → State} {entry value : State → κ → β}
    (he : ∀ s k j, entry (f s k) j = if j = k then value s k else entry s j) (hv : ∀ s k j, value (f s k) j = value s j)
    (l : List κ) (s : State) (j : κ) : entry (l.foldl f s) j = if j ∈ l then value s j else entry s j := by
  induction l generalizing s with
  | nil => simp
  | cons k l ih =>
    rw [List.foldl_cons, ih, hv, he]
    by_cases hj : j = k <;> by_cases hl : j ∈ l <;> simp [hj, hl]

theorem zone_idx_injective : Function.Injective Zone.idx := by
  intro a b
  rcases a with (_ | _ | _) | _ | _ | _ <;> rcases b with (_ | _ | _) | _ | _ | _ <;> decide

theorem modZone_zone (z y : Zone) (f : ZoneEntry → ZoneEntry) :
    (s.modZone z f).zone y = if y = z then f (s.zone z) else s.zone y := by
  show tget (tmod s.field.zones z.idx f) y.idx = _
  rw [tget_tmod]
  by_cases h : y = z
  · subst y; simp [State.zone]
  · rw [if_neg h, if_neg fun e => h (zone_idx_injective e).symm]; rfl

theorem lamp_idx_injective : Function.Injective Lamp.idx := by
  have h : ∀ a ∈ allLamps, ∀ b ∈ allLamps, a.idx = b.idx → a = b := by decide
  exact fun a b => h a (mem_allLamps a) b (mem_allLamps b)

/-! ### Drives, carriers and lamps (R30, R31) -/

/-- The drives, the carriers and the patterns of the lamps are those that the rest of the state calls for. -/
structure DrivesFollow (s : State) : Prop where
  drives : ∀ z, (s.zone z).drive = s.zoneDrive z
  gate : s.field.gateDrive = if s.drivesLive then s.merge.switch.map (·.target) else none
  car : CarrierFollows s s.field.car fun m w => (∃ k, m.source = .staging k) ∧ m.dest = .wrapper w
  shuttle : CarrierFollows s s.field.shuttleDrive fun m p => (m.source = .shuttle ∨ m.dest = .shuttle) ∧ m.dest = p
  lamps : ∀ l, (tget s.field.lamps l.idx).pattern = s.pattern l

/-- The outputs are those that the rest of the state calls for, and the lamps are lit as their patterns ask. -/
structure OutputsFollow (s : State) : Prop extends DrivesFollow s where
  lit : ∀ l : Lamp, LampLit (tget s.field.lamps l.idx)

/-- A lamp that shows its pattern is left as it is, and another takes it anew, in its on half. -/
def State.shown (s : State) (l : Lamp) : LampState :=
  if (tget s.field.lamps l.idx).pattern = s.pattern l then tget s.field.lamps l.idx
  else ⟨s.pattern l, s.pattern l != .off, (s.pattern l).halfPeriod⟩

theorem shown_pattern (s : State) (l : Lamp) : (s.shown l).pattern = s.pattern l := by
  unfold State.shown; split
  · assumption
  · rfl

theorem shown_lit {l : Lamp} (h : LampLit (tget s.field.lamps l.idx)) : LampLit (s.shown l) := by
  unfold State.shown
  split
  · exact h
  · cases s.pattern l <;> simp [LampLit, Pattern.halfPeriod]

theorem settleLamp_shown (s : State) (l : Lamp) : tget (s.settleLamp l).field.lamps l.idx = s.shown l := by
  unfold State.settleLamp State.shown
  by_cases h : (tget s.field.lamps l.idx).pattern = s.pattern l <;> simp [h]

theorem settleLamp_other (s : State) {l j : Lamp} (h : j ≠ l) :
    tget (s.settleLamp l).field.lamps j.idx = tget s.field.lamps j.idx := by
  unfold State.settleLamp
  dsimp only
  split
  · rfl
  · exact tget_tset_of_ne _ _ fun e => h (lamp_idx_injective e).symm

theorem settleLamps_lamp (s : State) (l : Lamp) : tget s.settleLamps.field.lamps l.idx = s.shown l := by
  have k (s : State) (l : Lamp) : KeepsAllBut offSignals s (s.settleLamp l) := (keeps_settleLamp (by decide)).mpr keeps_refl
  have he (s : State) (l j : Lamp) : tget (s.settleLamp l).field.lamps j.idx = if j = l then s.shown l else tget s.field.lamps j.idx := by
    split
    · rename_i h; subst h; exact settleLamp_shown s j
    · exact settleLamp_other s ‹_›
  have hv (s : State) (l j : Lamp) : (s.settleLamp l).shown j = s.shown j := by
    have hp := (k s l).pattern_same j
    by_cases h : j = l
    · subst h
      rw [State.shown, hp, settleLamp_shown, shown_pattern, if_pos rfl]
    · unfold State.shown
      rw [hp, settleLamp_other s h]
  have e := foldl_sets (entry := fun s l => tget s.field.lamps l.idx) he hv allLamps s l
  rw [if_pos (mem_allLamps l)] at e
  unfold State.settleLamps
  exact e

theorem settleZones_drive (s : State) (z : Zone) : (s.settleZones.zone z).drive = s.zoneDrive z := by
  have k (s : State) (z : Zone) : KeepsAllBut offSignals s (s.settleZone z) := (keeps_settleZone (by decide)).mpr keeps_refl
  have he (s : State) (z y : Zone) : ((s.settleZone z).zone y).drive = if y = z then s.zoneDrive z else (s.zone y).drive := by
    unfold State.settleZone
    dsimp only
    by_cases h : (s.zone z).drive = s.zoneDrive z
    · rw [if_pos (beq_iff_eq.mpr h)]
      by_cases hy : y = z
      · rw [if_pos hy, hy, h]
      · rw [if_neg hy]
    · rw [if_neg (mt beq_iff_eq.mp h), modZone_zone]
      by_cases hy : y = z
      · rw [if_pos hy, if_pos hy]
      · rw [if_neg hy, if_neg hy]
  have e := foldl_sets (entry := fun s z => (s.zone z).drive) he (fun s z y => (k s z).zoneDrive_same y) allZones s z
  rw [if_pos (mem_allZones z)] at e
  unfold State.settleZones
  exact e

theorem settleLamps_zones (s : State) : s.settleLamps.field.zones = s.field.zones := by
  unfold State.settleLamps
  exact foldl_settleLamp_zones (s := s) allLamps

theorem foldl_settleLamp_carriers (l : List Lamp) : (l.foldl State.settleLamp s).field.gateDrive = s.field.gateDrive
    ∧ (l.foldl State.settleLamp s).field.car = s.field.car
    ∧ (l.foldl State.settleLamp s).field.shuttleDrive = s.field.shuttleDrive := by
  induction l generalizing s with
  | nil => exact ⟨rfl, rfl, rfl⟩
  | cons x l ih =>
    rw [List.foldl_cons]
    obtain ⟨h1, h2, h3⟩ := ih (s := s.settleLamp x)
    rw [h1, h2, h3]
    unfold State.settleLamp
    dsimp only
    split <;> exact ⟨rfl, rfl, rfl⟩

theorem settleLamps_carriers (s : State) : s.settleLamps.field.gateDrive = s.field.gateDrive
    ∧ s.settleLamps.field.car = s.field.car ∧ s.settleLamps.field.shuttleDrive = s.field.shuttleDrive := by
  unfold State.settleLamps
  exact foldl_settleLamp_carriers (s := s) allLamps

theorem foldl_settleZone_lamps (l : List Zone) : (l.foldl State.settleZone s).field.lamps = s.field.lamps := by
  induction l generalizing s with
  | nil => rfl
  | cons x l ih =>
    rw [List.foldl_cons, ih]
    unfold State.settleZone
    dsimp only
    split <;> rfl

theorem settleCarriers_lamps (s : State) : s.settleCarriers.field.lamps = s.field.lamps := by
  unfold State.settleCarriers
  by_cases h : s.drivesLive = true
  · rw [if_pos h]; rfl
  · rw [if_neg h]; rfl

theorem settleOutputs_eq (s : State) : s.settleOutputs = s.settleZones.settleCarriers.settleLamps := rfl

theorem settleOutputs_shown (s : State) (l : Lamp) : tget s.settleOutputs.field.lamps l.idx = s.settleZones.settleCarriers.shown l := by
  rw [settleOutputs_eq, settleLamps_lamp]

/-- Drives, carriers and lamp patterns follow when the outputs are set (R30, R31). -/
theorem settleOutputs_drives (s : State) : DrivesFollow s.settleOutputs := by
  have kz : KeepsAllBut offSignals s s.settleZones := (keeps_settleZones (by decide)).mpr keeps_refl
  have kc : KeepsAllBut offSignals s s.settleZones.settleCarriers := (keeps_settleCarriers (by decide)).mpr kz
  have kl : KeepsAllBut offSignals s s.settleOutputs := (keeps_settleOutputs (by decide)).mpr keeps_refl
  have zones : s.settleOutputs.field.zones = s.settleZones.field.zones := by
    rw [settleOutputs_eq, settleLamps_zones, settleCarriers_zones]
  obtain ⟨gate, car, shuttle⟩ := settleLamps_carriers s.settleZones.settleCarriers
  rw [← settleOutputs_eq] at gate car shuttle
  obtain ⟨live, flight, switch⟩ := kl.carriers_same
  obtain ⟨live', flight', switch'⟩ := kz.carriers_same
  refine ⟨fun z => ?_, ?_, ?_, ?_, fun l => ?_⟩
  · rw [kl.zoneDrive_same, ← settleZones_drive]
    unfold State.zone
    rw [zones]
  · rw [live, switch]
    refine gate.trans ?_
    unfold State.settleCarriers
    rw [live', switch']
    split <;> rfl
  · refine carrierFollows_of_findSome? carTarget_iff ?_
    rw [live, flight]
    refine car.trans ?_
    unfold State.settleCarriers
    rw [live', flight']
    split <;> rfl
  · refine carrierFollows_of_findSome? shuttleTarget_iff ?_
    rw [live, flight]
    refine shuttle.trans ?_
    unfold State.settleCarriers
    rw [live', flight']
    split <;> rfl
  · rw [settleOutputs_shown, shown_pattern, kl.pattern_same, kc.pattern_same]

/-- The outputs of a line whose lamps are lit as their patterns ask follow when they are set (R30, R31). -/
theorem settleOutputs_follow (h : ∀ l : Lamp, LampLit (tget s.field.lamps l.idx)) : OutputsFollow s.settleOutputs := by
  have lamps : s.settleZones.settleCarriers.field.lamps = s.field.lamps := by
    rw [settleCarriers_lamps]
    exact foldl_settleZone_lamps allZones
  refine ⟨settleOutputs_drives s, fun l => ?_⟩
  rw [settleOutputs_shown]
  exact shown_lit (by rw [lamps]; exact h l)

end Sys2Proof.Machine
end

section
/-! SUPPORT. The derived signals together: what a state whose signals follow is, in the functions of the state, and that `settle` makes
one of every state (R30, R31, R75, R79, R83, R135, R155, R168). -/

namespace Sys2Proof.Machine

open State

variable {bs : List Block} {r s t u : State}

/-- The derived signals of a state are those that its functions give. -/
structure SignalsStand (s : State) : Prop where
  outputs : OutputsFollow s
  stations : ∀ st, tget s.reported st.idx = s.stationState st
  lanes : ∀ l, (tget s.lanes l).status = s.laneStatus l
  deadlock : s.buffer.deadlock = s.deadlocked.isSome
  requests : ∀ i, (tget s.merge.requests i.idx).isSome = s.requests i
  grant : ∀ g, s.merge.grant = some g → ¬ GrantOver s g
  print : s.label.print.isSome = s.printRuns

theorem signalsInv_iff : SignalsInv s ↔ SignalsStand s := by
  have live : (if s.mode.mode = .stopped ∨ s.mode.mode = .halted then none else s.merge.switch.map (·.target))
      = if s.drivesLive then s.merge.switch.map (·.target) else none := by
    by_cases h : s.drivesLive = true
    · rw [if_pos h, if_neg (not_or.mpr (drivesLive_iff.mp h))]
    · rw [if_neg h, if_pos (by rw [drivesLive_iff] at h; tauto)]
  unfold SignalsInv
  rw [live]
  constructor
  · rintro ⟨h1, h2, h3, h4, h5, h6, h7, h8, h9, h10, h11⟩
    exact ⟨⟨⟨fun z => Bool.eq_iff_iff.mpr ((h1 z).trans zoneDrive_iff.symm), h2, h3, h4, fun l => shows_iff.mp (h5 l).1⟩, fun l => (h5 l).2⟩,
      h6, h7, Bool.eq_iff_iff.mpr (h8.trans deadlocked_isSome_iff.symm), fun i => Bool.eq_iff_iff.mpr ((h9 i).trans requests_iff.symm), h10,
      Bool.eq_iff_iff.mpr (h11.trans printRuns_iff.symm)⟩
  · rintro ⟨⟨⟨h1, h2, h3, h4, h5⟩, h6⟩, h7, h8, h9, h10, h11, h12⟩
    exact ⟨fun z => by rw [h1]; exact zoneDrive_iff, h2, h3, h4, fun l => ⟨shows_iff.mpr (h5 l), h6 l⟩, h7, h8,
      by rw [h9]; exact deadlocked_isSome_iff, fun i => by rw [h10]; exact requests_iff, h11, by rw [h12]; exact printRuns_iff⟩

/-! ### The stages of `settle` -/

theorem settleGrant_follows (s : State) {g : Grant} (h : s.settleGrant.merge.grant = some g) : s.merge.grant = some g ∧ ¬ GrantOver s g := by
  rcases e : s.merge.grant with _ | g'
  · have : s.settleGrant = s := by unfold State.settleGrant; rw [e]
    rw [this, e] at h
    cases h
  · by_cases ho : GrantOver s g'
    · rw [settleGrant_of_over e ho] at h
      cases h
    · rw [settleGrant_of_not_over e ho, e] at h
      injection h with h
      exact ⟨h ▸ rfl, h ▸ ho⟩

/-- The request of an infeed brought up to date (R75). -/
def State.requestNow (s : State) (i : Infeed) : Option Waiting :=
  if s.requests i then some ((tget s.merge.requests i.idx).getD ⟨s.lineTime, 0⟩) else none

theorem settleRequest_request (s : State) (i j : Infeed) :
    tget (s.settleRequest i).merge.requests j.idx = if j = i then s.requestNow i else tget s.merge.requests j.idx := by
  have other (w : Option Waiting) (h : j ≠ i) : tget (tset s.merge.requests i.idx w) j.idx = tget s.merge.requests j.idx :=
    tget_tset_of_ne _ _ fun e => h (infeed_idx_injective e).symm
  unfold State.settleRequest State.requestNow
  by_cases hj : j = i
  · subst hj
    cases s.requests j <;> cases hw : tget s.merge.requests j.idx <;> simp [hw]
  · rw [if_neg hj]
    cases s.requests i <;> cases tget s.merge.requests i.idx <;> simp [other _ hj]

theorem settleRequest_grant (s : State) (i : Infeed) : (s.settleRequest i).merge.grant = s.merge.grant := by
  unfold State.settleRequest
  split <;> rfl

theorem settleRequests_grant (s : State) : s.settleRequests.merge.grant = s.merge.grant := by
  unfold State.settleRequests
  induction allInfeeds generalizing s with
  | nil => rfl
  | cons i l ih => rw [List.foldl_cons, ih, settleRequest_grant]

theorem settleRequests_request (s : State) (i : Infeed) : tget s.settleRequests.merge.requests i.idx = s.requestNow i := by
  have hv (s : State) (i j : Infeed) : (s.settleRequest i).requestNow j = s.requestNow j := by
    have k : KeepsAllBut [.grant] s (s.settleRequest i) := (keeps_settleRequest (by decide)).mpr keeps_refl
    have same := (k.mono (cs := offSignals) (by decide)).requests_same j
    have now := k .lineTime (by decide)
    by_cases hj : j = i
    · subst hj
      unfold State.requestNow
      rw [same, settleRequest_request, if_pos rfl, State.requestNow]
      cases s.requests j <;> simp
    · unfold State.requestNow
      rw [same, settleRequest_request, if_neg hj, show (s.settleRequest i).lineTime = s.lineTime from now]
  have e := foldl_sets (entry := fun s i => tget s.merge.requests i.idx) settleRequest_request hv allInfeeds s i
  rw [if_pos (by cases i <;> decide)] at e
  unfold State.settleRequests
  exact e

theorem settleStation_reported (s : State) (a b : Station) :
    tget (s.settleStation a).reported b.idx = if b = a then s.stationState a else tget s.reported b.idx := by
  unfold State.settleStation
  dsimp only
  by_cases h : tget s.reported a.idx = s.stationState a
  · rw [if_pos (beq_iff_eq.mpr h)]
    by_cases hb : b = a
    · rw [if_pos hb, hb, h]
    · rw [if_neg hb]
  · rw [if_neg (mt beq_iff_eq.mp h), show _ = _ from raise_keeps _ _ _ .reported (by decide)]
    by_cases hb : b = a
    · rw [if_pos hb, hb]; exact tget_tset_self ..
    · rw [if_neg hb]; exact tget_tset_of_ne _ _ fun e => hb (station_idx_injective e).symm

theorem settleStations_reported (s : State) (st : Station) : tget s.settleStations.reported st.idx = s.stationState st := by
  have hv (s : State) (a b : Station) : (s.settleStation a).stationState b = s.stationState b :=
    KeepsAllBut.stationState_same ((keeps_settleStation (by decide)).mpr keeps_refl) b
  have e := foldl_sets (entry := fun s st => tget s.reported (Station.idx st)) settleStation_reported hv allStations s st
  rw [if_pos (mem_allStations st)] at e
  unfold State.settleStations
  exact e

theorem settleDeadlock_follows (s : State) : s.settleDeadlock.buffer.deadlock = s.deadlocked.isSome := by
  unfold State.settleDeadlock
  split
  · split
    · simp_all
    · exact (raise_keeps _ _ _ .deadlock (by decide)).trans (by simp_all)
  · split
    · simp_all
    · simp_all

/-- The print limit brought up to date (R135). -/
def State.printNow (s : State) : Option Nat := if s.printRuns then some (s.label.print.getD (s.setting .applyLimit)) else none

theorem settlePrint_follows (s : State) : s.settlePrint.label.print = s.printNow := by
  unfold State.settlePrint State.printNow
  cases hr : s.printRuns <;> cases hp : s.label.print <;> simp [hp]

theorem settle_eq (s : State) :
    s.settle = s.settleGrant.settleRequests.settleStations.settleLanes.settleDeadlock.settlePrint.settleOutputs := by
  unfold State.settle; rfl

theorem settle_grant (s : State) : s.settle.merge.grant = s.settleGrant.merge.grant := by
  have after (u : State) : KeepsAllBut [.queue, .reported, .laneStates, .deadlock, .printLimit, .outputs] u
      u.settleStations.settleLanes.settleDeadlock.settlePrint.settleOutputs := by simp
  rw [settle_eq, ← settleRequests_grant s.settleGrant]
  exact (after _ .grant (by decide)).1

theorem settleGrant_requests (s : State) : s.settleGrant.merge.requests = s.merge.requests := by
  unfold State.settleGrant
  split
  · rfl
  · split
    · rfl
    · split <;> rfl

theorem settle_request (s : State) (i : Infeed) : tget s.settle.merge.requests i.idx = s.requestNow i := by
  have after (u : State) : KeepsAllBut [.queue, .reported, .laneStates, .deadlock, .printLimit, .outputs] u
      u.settleStations.settleLanes.settleDeadlock.settlePrint.settleOutputs := by simp
  have k : KeepsAllBut [.grant] s s.settleGrant := (keeps_settleGrant (by decide)).mpr keeps_refl
  have e : s.settle.merge.requests = s.settleGrant.settleRequests.merge.requests := by
    rw [settle_eq]; exact (after _ .grant (by decide)).2
  rw [e, settleRequests_request]
  unfold State.requestNow
  rw [(k.mono (cs := offSignals) (by decide)).requests_same, settleGrant_requests, show _ = _ from k .lineTime (by decide)]

theorem settle_print (s : State) : s.settle.label.print = s.printNow := by
  have after (u : State) : KeepsAllBut [.outputs] u u.settleOutputs := by simp
  have k : KeepsAllBut [.grant, .queue, .reported, .laneStates, .deadlock] s
      s.settleGrant.settleRequests.settleStations.settleLanes.settleDeadlock := by simp
  have e : s.settle.label.print
      = s.settleGrant.settleRequests.settleStations.settleLanes.settleDeadlock.settlePrint.label.print := by
    rw [settle_eq]; exact after _ .printLimit (by decide)
  rw [e, settlePrint_follows]
  unfold State.printNow
  rw [(k.mono (cs := offSignals) (by decide)).printRuns_same, k.setting, show _ = _ from k .printLimit (by decide)]

/-- Every state is settled to one whose signals follow from it (R30, R31, R75, R79, R83, R135, R155, R168). -/
theorem settle_stand (h : ∀ l : Lamp, LampLit (tget s.field.lamps l.idx)) : SignalsStand s.settle := by
  have ks : KeepsAllBut derived s s.settle := settle_keeps s
  have k : KeepsAllBut offSignals s s.settle := ks.mono (by decide)
  have k2 : KeepsAllBut offSignals s s.settleGrant.settleRequests :=
    (keeps_settleRequests (by decide)).mpr ((keeps_settleGrant (by decide)).mpr keeps_refl)
  have k4 : KeepsAllBut offSignals s s.settleGrant.settleRequests.settleStations.settleLanes :=
    (keeps_settleLanes (by decide)).mpr ((keeps_settleStations (by decide)).mpr k2)
  have k6 : KeepsAllBut [.grant, .queue, .reported, .laneStates, .deadlock, .printLimit] s
      s.settleGrant.settleRequests.settleStations.settleLanes.settleDeadlock.settlePrint := by simp
  have after3 (u : State) : KeepsAllBut [.queue, .laneStates, .deadlock, .printLimit, .outputs] u
      u.settleLanes.settleDeadlock.settlePrint.settleOutputs := by simp
  have after5 (u : State) : KeepsAllBut [.printLimit, .outputs] u u.settlePrint.settleOutputs := by simp
  have reported : s.settle.reported = s.settleGrant.settleRequests.settleStations.reported := by
    rw [settle_eq]; exact after3 _ .reported (by decide)
  have deadlock : s.settle.buffer.deadlock
      = s.settleGrant.settleRequests.settleStations.settleLanes.settleDeadlock.buffer.deadlock := by
    rw [settle_eq]; exact after5 _ .deadlock (by decide)
  refine ⟨settle_eq s ▸ settleOutputs_follow fun l => ?_, fun st => ?_, fun l => ?_, ?_, fun i => ?_, fun g hg => ?_, ?_⟩
  · rw [(k6 .outputs (by decide)).2.2.2.1]
    exact h l
  · rw [k.stationState_same, ← k2.stationState_same, ← settleStations_reported, reported]
  · rw [settle_laneStatus, ks.laneStatus]
  · rw [k.deadlocked_same, ← k4.deadlocked_same, ← settleDeadlock_follows, deadlock]
  · rw [k.requests_same, settle_request, State.requestNow]
    cases s.requests i <;> rfl
  · rw [k.grantOver_same]
    exact (settleGrant_follows s (settle_grant s ▸ hg)).2
  · rw [k.printRuns_same, settle_print, State.printNow]
    cases s.printRuns <;> rfl

end Sys2Proof.Machine
end

section
/-! SUPPORT. What a command leaves before `settle`, and what `settle` then begins: the requests, the grant and the print limit (R75, R79,
R135). -/

namespace Sys2Proof.Machine

open State

variable {bs : List Block} {r s t u : State} {m : Move} {n : Nat} {p : Place}

/-- The parts that the operations of a command may change before `settle`: all but the outputs, the grant with the requests, and the
print limit. -/
def stirred : List Block :=
  [.lineTime, .queue, .counters, .address, .straps, .receiver, .answering, .identity, .mask, .articles, .bases, .recipes, .bands, .loads,
   .raw, .filtered, .timing, .estop, .entryTaken, .diverter, .purgeHold, .wakeHolds, .zones, .places, .moves, .records, .nextNumber,
   .enabled, .scanners, .merge, .check, .mass, .wrap, .label, .buffer, .deadlock, .windows, .lanes, .laneStates, .mode, .settings,
   .reported, .sent, .freeDraws, .pending]

/-- What a command has done to the lamps, the grant, the requests and the print limit before `settle`: it has begun none of them. -/
structure Unsettled (r s : State) : Prop where
  lamps : s.field.lamps = r.field.lamps
  grant : ∀ g, r.merge.grant = some g → s.merge.grant = some g
  requests : ∀ i : Infeed, tget r.merge.requests i.idx = none → tget s.merge.requests i.idx = none
  print : r.label.print = none → s.label.print = none

/-- From a state whose signals follow to another, begun as R75, R79 and R135 say. -/
def Signals (s t : State) : Prop := SignalsInv s → SignalsInv t ∧ SignalsBegin s t

namespace Unsettled

theorem refl (s : State) : Unsettled s s := ⟨rfl, fun _ h => h, fun _ h => h, fun h => h⟩

theorem keeps (h : Unsettled r s) (k : KeepsAllBut stirred s t) : Unsettled r t := by
  obtain ⟨-, -, -, lamps, -⟩ := k .outputs (by decide)
  obtain ⟨grant, requests⟩ := k .grant (by decide)
  have print := k .printLimit (by decide)
  exact ⟨lamps.trans h.lamps, fun g hg => grant.trans (h.grant g hg), fun i hi => requests.symm ▸ h.requests i hi,
    fun hp => print.trans (h.print hp)⟩

theorem of (k : KeepsAllBut stirred s t) : Unsettled s t := (refl s).keeps k

/-- After `settle` the signals follow, begun as R75, R79 and R135 say. -/
theorem settle (h : Unsettled r s) : Signals r s.settle := by
  intro i
  have k : KeepsAllBut offSignals s s.settle := (settle_keeps s).mono (by decide)
  refine ⟨signalsInv_iff.mpr (settle_stand fun l => h.lamps.symm ▸ (signalsInv_iff.mp i).outputs.lit l), fun i w h1 h2 => ?_,
    fun g hg => ?_, fun n h1 h2 => ?_⟩
  · rw [settle_request, State.requestNow, h.requests i h1, Option.getD_none, Option.ite_none_right_eq_some] at h2
    rw [settle_lineTime, ← Option.some.inj h2.2]
  · have hs := h.grant g hg
    by_cases ho : GrantOver s g
    · right
      rw [settle_grant, settleGrant_of_over hs ho]
      exact ⟨rfl, (k.grantOver_same g).mpr ho⟩
    · left
      rw [settle_grant, settleGrant_of_not_over hs ho, hs]
  · rw [settle_print, State.printNow, h.print h1, Option.getD_none, Option.ite_none_right_eq_some] at h2
    rw [(settle_keeps s).setting, ← Option.some.inj h2.2]

/-! ### The operations that may stop the print limit (R144) -/

theorem leaveLabel (h : Unsettled r s) : Unsettled r (s.leaveLabel n) := by
  unfold State.leaveLabel
  split
  · exact ⟨h.lamps, h.grant, h.requests, fun _ => rfl⟩
  · exact h

theorem dropFromLabel (h : Unsettled r s) : Unsettled r (s.dropFromLabel n) := by
  have drop : KeepsAllBut stirred s (if s.label.holdsJob n then (s.modLabel fun u => u.dropJob n).makePurgePending else s) := by
    split <;> simp [stirred, LabelController.dropJob]
  have apply (s : State) : KeepsAllBut stirred s (if s.label.apply.isSome then s.makePurgePending else s) := by
    split <;> simp [stirred]
  have ends (s : State) : KeepsAllBut stirred s (s.endReads .verify n) := by simp [stirred]
  unfold State.dropFromLabel
  dsimp only
  generalize (if s.label.holdsJob n then (s.modLabel fun u => u.dropJob n).makePurgePending else s) = u at drop
  split
  · exact ((h.keeps drop).keeps (apply u)).leaveLabel.keeps (ends _)
  · exact h.keeps drop

/-- A deletion, as it stands about the label unit's part of it. -/
theorem deleteRecord_eq {x : Record} {d : Deletion} (hx : s.record? n = some x) : ∃ u, KeepsAllBut stirred s u
    ∧ s.deleteRecord n d = (allScanners.foldl (fun s sc => s.endReads sc n) ((u.dropFromLabel n).dropFromBuffer n)).modTrack fun t =>
        { t with records := t.records.filter fun r => r.number != n } := by
  unfold State.deleteRecord
  rw [hx]
  dsimp only
  refine ⟨_, ?_, rfl⟩
  split <;> split <;> simp [stirred]

theorem deleteRecord {d : Deletion} (h : Unsettled r s) : Unsettled r (s.deleteRecord n d) := by
  rcases hx : s.record? n with _ | x
  · unfold State.deleteRecord
    rw [hx]
    exact h
  · obtain ⟨u, k, e⟩ := deleteRecord_eq (d := d) hx
    have after (v : State) : KeepsAllBut stirred v
        ((allScanners.foldl (fun s sc => s.endReads sc n) (v.dropFromBuffer n)).modTrack fun t =>
          { t with records := t.records.filter fun r => r.number != n }) := by
      simp [stirred, keeps_foldl]
    rw [e]
    exact (h.keeps k).dropFromLabel.keeps (after _)

theorem leftPlace (h : Unsettled r s) : Unsettled r (s.leftPlace n p) := by
  cases p with
  | label => exact (h.leaveLabel (n := n)).keeps (t := (s.leaveLabel n).leaveExit n) (by simp [stirred])
  | check => exact h.keeps (by simp [stirred, State.leftPlace])
  | wrapper w => exact h.keeps (by simp [stirred, State.leftPlace])
  | _ => exact h

theorem dispatch {l : Lane} (h : Unsettled r s) : Unsettled r (s.dispatch n l) := by
  have k : KeepsAllBut stirred s (s.modLane l fun e => { e with count := e.count + 1 }) := by simp [stirred]
  unfold State.dispatch
  exact (h.keeps k).deleteRecord.keeps ((keeps_raise (by decide)).mpr keeps_refl)

theorem reachedPlace (h : Unsettled r s) : Unsettled r (s.reachedPlace n p) := by
  cases p with
  | lane l => exact h.dispatch
  | infeed i => exact h
  | spur sp => exact h
  | _ => exact h.keeps (by simp [stirred, State.reachedPlace])

theorem completeMove (h : Unsettled r s) : Unsettled r (s.completeMove m) := by
  have k : KeepsAllBut stirred s ((s.leaveSource m).joinDest m) := by simp [stirred]
  unfold State.completeMove
  exact (h.keeps k).leftPlace.reachedPlace

theorem completeLate (h : Unsettled r s) : Unsettled r (s.completeLate m) := by
  have k : KeepsAllBut stirred s
      ((s.modRecord m.track fun r => { r with stage := r.preLost.getD r.stage, preLost := none }).joinDest m) := by simp [stirred]
  unfold State.completeLate
  exact (h.keeps k).reachedPlace.keeps ((keeps_raise (by decide)).mpr keeps_refl)

theorem completion (h : Unsettled r s) (k : KeepsAllBut stirred s t) : Unsettled r ((s.completion p).getD t) := by
  unfold State.completion
  split
  · rw [Option.getD_some]
    split
    · exact h.completeMove
    · exact h.completeLate
  · exact h.keeps k

theorem arrivalSensor {b : Bool} (h : Unsettled r s) : Unsettled r (s.arrivalSensor p b) := by
  unfold State.arrivalSensor
  split
  · exact h.completion (by simp [stirred])
  · exact h.keeps (by simp [stirred])

theorem spurRemoval {sp : Spur} (h : Unsettled r s) : Unsettled r (s.spurRemoval sp) := by
  unfold State.spurRemoval
  split
  · exact h.deleteRecord.keeps ((keeps_raise (by decide)).mpr keeps_refl)
  · exact h

theorem handOn {i : Input} {b : Bool} (h : Unsettled r s) : Unsettled r (s.handOn i b) := by
  cases i with
  | checkArrival => exact h.arrivalSensor
  | staging k => exact h.arrivalSensor
  | wrapper w => exact h.arrivalSensor
  | labelArrival => exact h.arrivalSensor
  | shuttleLoaded => exact h.arrivalSensor
  | position p => exact h.arrivalSensor
  | spurEntry sp =>
    cases b with
    | true => exact h.completion keeps_refl
    | false => exact h
  | laneEntry l =>
    cases b with
    | true => exact h.completion keeps_refl
    | false => exact h
  | spurEnd sp =>
    cases b with
    | true => exact h
    | false => exact h.spurRemoval
  | head i =>
    cases b with
    | true => exact h.keeps (t := s.reachHead i) (by simp [stirred])
    | false => exact h
  | laneEnd l =>
    cases b with
    | true => exact h
    | false => exact h.keeps (t := s.laneRemoval l) (by simp [stirred])
  | laneDoor l => exact h
  | _ => exact h.keeps (by simp [stirred, State.handOn])

theorem filtered {i : Input} {b : Bool} (h : Unsettled r s) : Unsettled r (s.filtered i b) := by
  have k : KeepsAllBut stirred s ((s.setTiming i none).modField fun u => { u with filtered := tset u.filtered i.idx b }) := by
    simp [stirred]
  unfold State.filtered
  exact (h.keeps k).handOn

theorem loseMove (h : Unsettled r s) : Unsettled r (s.loseMove m) := by
  have before : KeepsAllBut stirred s
      (((s.modMove m.track fun k => { k with state := .lost, left := 0 }).modRecord m.track Record.lose).loseSource m) := by
    simp [stirred]
  have after (u : State) (n : Note) : KeepsAllBut stirred u (((u.faultStation m).settleStations.raise .palletLost n).count .lostMoves) := by
    simp [stirred]
  unfold State.loseMove
  dsimp only
  exact (h.keeps before).leftPlace.keeps (after _ _)

end Unsettled

end Sys2Proof.Machine
end

section
/-! SUPPORT. One centisecond (00_scope.md, R181): what runs on in every mode, and what runs on outside a halt. -/

namespace Sys2Proof.Machine

open State

variable {s t : State}

/-- What one centisecond does outside a halt, besides what it does in every mode (R34, R41, R58, R75, R88, R107, R127, R177, R181). -/
structure RunsOn (s t : State) : Prop where
  moves : t.field.moves = s.field.moves.map fun m => if m.state = .inFlight then { m with left := m.left - 1 } else m
  zone : ∀ i, tget t.field.zones i = { tget s.field.zones i with
    windowLeft := if (tget s.field.zones i).drive then (tget s.field.zones i).windowLeft - 1 else (tget s.field.zones i).windowLeft }
  scanner : ∀ sc, t.scanner sc = { s.scanner sc with
    outstanding := (s.scanner sc).outstanding.map fun x => (x.1, x.2 - 1), ended := (s.scanner sc).ended.map (· - 1) }
  wrap : t.wrap = { s.wrap with wrappers := t.wrap.wrappers }
  wrapper : ∀ w, t.wrapper w = { s.wrapper w with
    order := (s.wrapper w).order.map fun o => { o with ack := o.ack.map (· - 1), wrap := o.wrap.map (· - 1) } }
  label : t.label = { s.label with
    ack := s.label.ack.map (· - 1), print := s.label.print.map (· - 1), apply := s.label.apply.map (· - 1) }
  mode : t.mode = { s.mode with drain := s.mode.drain.map (· - 1) }
  merge : t.merge = { s.merge with
    switch := s.merge.switch.map (fun w => { w with left := w.left - 1 }), requests := t.merge.requests }
  request : ∀ i, tget t.merge.requests i = (tget s.merge.requests i).map fun w => { w with waited := w.waited + 1 }
  mass : t.mass = { s.mass with
    settleEnd := s.mass.settleEnd.map fun d => { d with left := d.left - 1 }
    limit := s.mass.limit.map fun d => { d with left := d.left - 1 } }
  check : t.check = { s.check with current := s.check.current.map fun k => { k with
    settleEnd := { k.settleEnd with left := k.settleEnd.left - 1 }
    settleLimit := { k.settleLimit with left := k.settleLimit.left - 1 } } }
  records : t.track.records = s.track.records.map fun r => { r with deferral := r.deferral.map fun d => { d with left := d.left - 1 } }
  outputs : t.field.gateDrive = s.field.gateDrive ∧ t.field.car = s.field.car ∧ t.field.shuttleDrive = s.field.shuttleDrive
    ∧ t.field.lamps = s.field.lamps

theorem tickRunning_runsOn (s : State) : RunsOn s s.tickRunning where
  moves := by
    have e : Move.onward = fun m : Move => if m.state = .inFlight then { m with left := m.left - 1 } else m := by
      funext m; simp [Move.onward]
    exact e ▸ rfl
  zone i := by
    refine (tget_tmap ..).trans ?_
    unfold ZoneEntry.onward
    split <;> rfl
  scanner sc := tget_tmap ..
  wrap := rfl
  wrapper w := tget_tmap ..
  label := rfl
  mode := rfl
  merge := rfl
  request i := tget_tmap ..
  mass := rfl
  check := rfl
  records := rfl
  outputs := ⟨rfl, rfl, rfl, rfl⟩

theorem tickRunning_keeps (s : State) :
    KeepsAllBut [.outputs, .moves, .records, .scanners, .grant, .merge, .check, .mass, .wrap, .label, .printLimit, .mode] s s.tickRunning :=
  (keeps_tickRunning (by decide)).mpr keeps_refl

theorem tickAlways_keeps (s : State) : KeepsAllBut [.lineTime, .receiver, .timing, .purgeHold, .wakeHolds, .outputs] s s.tickAlways :=
  (keeps_tickAlways (by decide)).mpr keeps_refl

/-- What one centisecond does in every mode (R31, R181, R189). -/
structure TimePasses (s t : State) : Prop where
  lineTime : t.lineTime = s.lineTime + 1
  timing : ∀ i, tget t.field.timing i = (tget s.field.timing i).map (· - 1)
  purgeHold : t.field.purgeHold = s.field.purgeHold.map (· - 1)
  wakeHolds : ∀ i, tget t.field.wakeHolds i = (tget s.field.wakeHolds i).map (· - 1)
  receiving : ∀ f g, s.link.receiver = .receiving f g → t.link.receiver = .receiving f (g - 1)
  hunting : s.link.receiver = .hunting → t.link.receiver = .hunting
  purgeSpent : t.field.purgeSpent = s.field.purgeSpent
  lamps : ∀ l, tget t.field.lamps l = { tget s.field.lamps l with left := (tget s.field.lamps l).left - 2 }
  carriers : t.field.gateDrive = s.field.gateDrive ∧ t.field.car = s.field.car ∧ t.field.shuttleDrive = s.field.shuttleDrive

theorem tickAlways_timePasses (s : State) : TimePasses s s.tickAlways where
  lineTime := rfl
  timing i := tget_tmap ..
  purgeHold := rfl
  wakeHolds i := tget_tmap ..
  receiving f g h := by
    show s.link.receiver.onward = _
    rw [h]; rfl
  hunting h := by
    show s.link.receiver.onward = _
    rw [h]; rfl
  purgeSpent := rfl
  lamps i := tget_tmap ..
  carriers := ⟨rfl, rfl, rfl⟩

/-- The timers of R181 leave what runs on in every mode. -/
theorem TimePasses.tickRunning (h : TimePasses s t) : TimePasses s t.tickRunning := by
  have k := tickRunning_keeps t
  have time : t.tickRunning.lineTime = t.lineTime := k .lineTime (by decide)
  have timing : t.tickRunning.field.timing = t.field.timing := k .timing (by decide)
  obtain ⟨hold, spent⟩ := k .purgeHold (by decide)
  have wakes : t.tickRunning.field.wakeHolds = t.field.wakeHolds := k .wakeHolds (by decide)
  have receiver : t.tickRunning.link.receiver = t.link.receiver := k .receiver (by decide)
  obtain ⟨gate, car, shuttle, lamps⟩ := (tickRunning_runsOn t).outputs
  obtain ⟨hg, hc, hs⟩ := h.carriers
  exact ⟨time.trans h.lineTime, fun i => timing ▸ h.timing i, hold.trans h.purgeHold, fun i => wakes ▸ h.wakeHolds i,
    fun f g hr => receiver.trans (h.receiving f g hr), fun hr => receiver.trans (h.hunting hr), spent.trans h.purgeSpent,
    fun l => lamps ▸ h.lamps l, gate.trans hg, car.trans hc, shuttle.trans hs⟩

theorem tick_timePasses (s : State) : TimePasses s s.tick := by
  unfold State.tick
  split
  · exact tickAlways_timePasses s
  · exact (tickAlways_timePasses s).tickRunning

theorem tick_of_running (h : s.mode.mode ≠ .halted) : s.tick = s.tickAlways.tickRunning := by simp [State.tick, h]

/-- Settles O58: what runs on in every mode, then the timers that a halt suspends. -/
theorem anEmptyQueueLetsTimePass : Obligations.AnEmptyQueueLetsTimePass := by
  intro s hp
  have e : step s = .next s.tick := by simp [step, hp]
  obtain ⟨p1, p2, p3, p4, p5, p6, p7, p8, p9, p10, p11⟩ := tick_timePasses s
  refine ⟨s.tick, e, p1, p2, p3, p4, p5, p6, p7, p8, p9, p10, p11, fun hm => ?halted, fun hm => ?running⟩
  case halted =>
    have ht : s.tick = s.tickAlways := by simp [State.tick, hm]
    rw [ht]
    exact ⟨rfl, (tickAlways_keeps s).mono (by decide)⟩
  case running =>
    rw [tick_of_running hm]
    obtain ⟨r1, r2, r3, r4, r5, r6, r7, r8, r9, r10, r11, r12, -⟩ := tickRunning_runsOn s.tickAlways
    exact ⟨r1, fun z => r2 z.idx, r3, r4, r5, r6, r7, r8, r9, r10, r11, r12,
      ((tickAlways_keeps s).mono (by decide)).trans ((tickRunning_keeps _).mono (by decide))⟩

end Sys2Proof.Machine
end

section
/-! SUPPORT. The derived signals at the steps that do not settle: where a command leaves all that they follow from, and as time passes
(R31, R75, R135, R181). -/

namespace Sys2Proof.Machine

open State

variable {bs : List Block} {r s t u : State}

/-- All that the signals follow from calls for the same in two states. -/
structure SameDerived (s t : State) : Prop where
  mode : t.mode.mode = s.mode.mode
  moves : ∃ f : Move → Move, t.field.moves = s.field.moves.map f
    ∧ ∀ m, (f m).state = m.state ∧ (f m).source = m.source ∧ (f m).dest = m.dest
  switch : t.merge.switch.map (·.target) = s.merge.switch.map (·.target)
  zoneDrive : ∀ z, t.zoneDrive z = s.zoneDrive z
  pattern : ∀ l, t.pattern l = s.pattern l
  stationState : ∀ st, t.stationState st = s.stationState st
  laneStatus : ∀ l, t.laneStatus l = s.laneStatus l
  deadlocked : t.deadlocked.isSome = s.deadlocked.isSome
  requests : ∀ i, t.requests i = s.requests i
  grantOver : ∀ g, GrantOver t g ↔ GrantOver s g
  printRuns : t.printRuns = s.printRuns

/-- The signals of one state show what those of another do. -/
structure SameSignals (s t : State) : Prop where
  drive : ∀ z, (t.zone z).drive = (s.zone z).drive
  carriers : t.field.gateDrive = s.field.gateDrive ∧ t.field.car = s.field.car ∧ t.field.shuttleDrive = s.field.shuttleDrive
  lamp : ∀ l : Lamp, (tget t.field.lamps l.idx).pattern = (tget s.field.lamps l.idx).pattern
    ∧ (LampLit (tget s.field.lamps l.idx) → LampLit (tget t.field.lamps l.idx))
  reported : t.reported = s.reported
  lanes : ∀ l, (tget t.lanes l).status = (tget s.lanes l).status
  deadlock : t.buffer.deadlock = s.buffer.deadlock
  requests : ∀ i, (tget t.merge.requests i).isSome = (tget s.merge.requests i).isSome
  grant : t.merge.grant = s.merge.grant
  print : t.label.print.isSome = s.label.print.isSome

theorem CarrierFollows.of_moves {α : Type} {f : Move → Move} {carries : Move → α → Prop} {d : Option α} (h : CarrierFollows s d carries)
    (mode : t.mode.mode = s.mode.mode) (moves : t.field.moves = s.field.moves.map f) (state : ∀ m, (f m).state = m.state)
    (same : ∀ m x, carries (f m) x ↔ carries m x) : CarrierFollows t d carries := by
  unfold CarrierFollows at h ⊢
  rw [mode, moves]
  refine ⟨fun x hx => ?_, fun hd h1 h2 m hm hs x => ?_⟩
  · obtain ⟨h1, h2, m, hm, hs, hc⟩ := h.1 x hx
    exact ⟨h1, h2, f m, List.mem_map_of_mem hm, (state m).trans hs, (same m x).mpr hc⟩
  · obtain ⟨k, hk, rfl⟩ := List.mem_map.mp hm
    rw [same]
    exact h.2 hd h1 h2 k hk ((state k).symm.trans hs) x

theorem SignalsStand.of_same (h : SignalsStand s) (d : SameDerived s t) (k : SameSignals s t) : SignalsStand t := by
  obtain ⟨f, moves, core⟩ := d.moves
  obtain ⟨hg, hc, hs⟩ := k.carriers
  have state (m : Move) : (f m).state = m.state := (core m).1
  have source (m : Move) : (f m).source = m.source := (core m).2.1
  have dest (m : Move) : (f m).dest = m.dest := (core m).2.2
  refine ⟨⟨⟨fun z => ?_, ?_, ?_, ?_, fun l => ?_⟩, fun l => (k.lamp l).2 (h.outputs.lit l)⟩, fun st => ?_, fun l => ?_, ?_, fun i => ?_,
    fun g hg => ?_, ?_⟩
  · rw [k.drive, d.zoneDrive, h.outputs.drives]
  · rw [hg, h.outputs.gate, d.switch]
    unfold State.drivesLive
    rw [d.mode]
  · rw [hc]
    exact h.outputs.car.of_moves d.mode moves state fun m w => by rw [source, dest]
  · rw [hs]
    exact h.outputs.shuttle.of_moves d.mode moves state fun m p => by rw [source, dest]
  · rw [(k.lamp l).1, d.pattern, h.outputs.lamps]
  · rw [k.reported, d.stationState, h.stations]
  · rw [k.lanes, d.laneStatus, h.lanes]
  · rw [k.deadlock, d.deadlocked, h.deadlock]
  · rw [k.requests, d.requests, h.requests]
  · rw [d.grantOver]
    exact h.grant g (k.grant ▸ hg)
  · rw [k.print, d.printRuns, h.print]

/-- A step that leaves the signals begins none. -/
theorem SameSignals.begins (k : SameSignals s t) : SignalsBegin s t := by
  refine ⟨fun i w h1 h2 => ?_, fun g hg => .inl (k.grant ▸ hg), fun n h1 h2 => ?_⟩
  · have := k.requests i.idx
    simp [h1, h2] at this
  · have := k.print
    simp [h1, h2] at this

theorem signals_of_same (d : SameDerived s t) (k : SameSignals s t) : Signals s t := fun i =>
  ⟨signalsInv_iff.mpr ((signalsInv_iff.mp i).of_same d k), k.begins⟩

theorem KeepsAllBut.sameDerived (k : KeepsAllBut offSignals s t) : SameDerived s t where
  mode := congrArg (·.mode) (show t.mode = _ from k .mode (by decide))
  moves := ⟨id, by rw [List.map_id]; exact k .moves (by decide), fun _ => ⟨rfl, rfl, rfl⟩⟩
  switch := by rw [k.carriers_same.2.2]
  zoneDrive := k.zoneDrive_same
  pattern := k.pattern_same
  stationState := k.stationState_same
  laneStatus := k.laneStatus
  deadlocked := by rw [k.deadlocked_same]
  requests := k.requests_same
  grantOver := k.grantOver_same
  printRuns := k.printRuns_same

/-- The parts of `offSignals` but the signals themselves. -/
def unseen : List Block :=
  [.lineTime, .queue, .counters, .address, .straps, .receiver, .answering, .identity, .mask, .articles, .bases, .recipes, .bands,
   .raw, .timing, .estop, .entryTaken, .diverter, .purgeHold, .wakeHolds, .nextNumber, .scanners, .mass, .settings, .sent, .freeDraws,
   .pending]

theorem KeepsAllBut.sameSignals (k : KeepsAllBut unseen s t) : SameSignals s t := by
  obtain ⟨gate, car, shuttle, lamps, zones⟩ := k .outputs (by decide)
  obtain ⟨grant, requests⟩ := k .grant (by decide)
  have print : t.label.print = _ := k .printLimit (by decide)
  exact ⟨fun z => (zones z.idx).1, ⟨gate, car, shuttle⟩, fun l => by rw [lamps]; exact ⟨rfl, id⟩, k .reported (by decide),
    k .laneStates (by decide), k .deadlock (by decide), fun i => by rw [requests], grant, by rw [print]⟩

/-- A step that leaves all that the signals follow from, and them, keeps them so. -/
theorem KeepsAllBut.signals (k : KeepsAllBut unseen s t) : Signals s t :=
  signals_of_same (k.mono (by decide)).sameDerived k.sameSignals

theorem signals_refl (s : State) : Signals s s := KeepsAllBut.signals keeps_refl

/-! ### The passing of time -/

theorem tickAlways_sameSignals (s : State) : SameSignals s s.tickAlways := by
  have p := tickAlways_timePasses s
  refine ⟨fun _ => rfl, p.carriers, fun l => ?_, rfl, fun _ => rfl, rfl, fun _ => rfl, rfl, rfl⟩
  rw [p.lamps]
  exact ⟨rfl, fun ⟨h1, h2, h3, h4⟩ => ⟨h1, h2, fun e => (Nat.sub_le ..).trans (h3 e), fun e => (Nat.sub_le ..).trans (h4 e)⟩⟩

/-- A record one centisecond on: its deferral has less left. -/
def Record.onward (r : Record) : Record := { r with deferral := r.deferral.map fun d => { d with left := d.left - 1 } }

/-- The parts that the timers of R181 change. -/
def timed : List Block :=
  [.outputs, .moves, .records, .scanners, .grant, .merge, .check, .mass, .wrap, .label, .printLimit, .mode]

section
variable (h : RunsOn s t) (k : KeepsAllBut timed s t)

include h in
theorem RunsOn.record? (n : Nat) : t.record? n = (s.record? n).map Record.onward := by
  unfold State.record?
  rw [h.records]
  exact List.find?_map ..

include h in
theorem RunsOn.moveAny {f : Move → Bool} (hf : ∀ m n, f { m with left := n } = f m) : t.field.moves.any f = s.field.moves.any f := by
  rw [h.moves, List.any_map]
  congr 1
  funext m
  simp only [Function.comp]
  split
  · exact hf m _
  · rfl

include h in
theorem RunsOn.recordAny {f g : Record → Bool} (hf : ∀ x, f x.onward = g x) : t.track.records.any f = s.track.records.any g := by
  rw [h.records, List.any_map]
  exact congrArg _ (funext hf)

include h k in
theorem RunsOn.releasable (x : Record) : t.releasable x.onward = s.releasable x := by
  obtain ⟨-, -, -, -, hr, hf, -⟩ := k .buffer (by decide)
  have bound : t.boundLane x.onward = s.boundLane x := by
    unfold State.boundLane
    simp only [k.load?]
    rfl
  have lost (p : Place) : t.lostTo p = s.lostTo p := h.moveAny fun _ _ => rfl
  unfold State.releasable
  rw [bound]
  unfold State.releasesTo
  simp only [lost, k.laneStatus, k.place, hr, hf, fun l => (k .lanes (by decide) l).1]
  rfl

include k in
theorem choosePosition_onward (x : Record) : t.choosePosition x.onward = s.choosePosition x := by
  obtain ⟨hr, -⟩ := k .buffer (by decide)
  have bound : t.boundLane x.onward = s.boundLane x := by
    unfold State.boundLane
    simp only [k.load?]
    rfl
  unfold State.choosePosition State.shared State.isOpen
  simp only [bound, k.placeState, hr, show t.buffer.windows = _ from k .windows (by decide)]

include h k in
theorem RunsOn.deadlocked : t.deadlocked.isSome = s.deadlocked.isSome := by
  obtain ⟨-, hx, ht, -⟩ := k .buffer (by decide)
  have held : (t.track.records.all fun x => x.stage != .held || (t.releasable x).isNone)
      = s.track.records.all fun x => x.stage != .held || (s.releasable x).isNone := by
    rw [h.records, List.all_map]
    exact congrArg _ (funext fun x => congrArg (fun l => x.stage != .held || Option.isNone l) (h.releasable k x))
  unfold State.deadlocked
  rw [hx, ht, held, funext h.record?]
  rcases s.buffer.exitPallet with _ | n
  · rfl
  · rcases e : s.record? n with _ | x
    · simp [e]
    · simp only [Option.bind_some, e, Option.map_some, h.releasable k, choosePosition_onward k]
      split <;> rfl

include h k in
theorem RunsOn.requests (i : Infeed) : t.requests i = s.requests i := by
  unfold State.requests State.oldest
  rw [k.place, show t.track.enabled = _ from k .enabled (by decide)]
  rcases (s.place (.infeed i)).occupants with _ | ⟨n, rest⟩
  · rfl
  · simp only [h.record?]
    rcases s.record? n with _ | x <;> rfl

include h k in
theorem RunsOn.grantOver (g : Grant) : GrantOver t g ↔ GrantOver s g := by
  unfold GrantOver
  rw [h.record?, k.input, k.place]
  rcases s.record? g.track with _ | x
  · simp
  · simp [Record.onward]

include h in
theorem RunsOn.printRuns : t.printRuns = s.printRuns := by
  unfold State.printRuns State.palletJob
  rw [h.label]

include h in
theorem RunsOn.drivesLive : t.drivesLive = s.drivesLive := by
  unfold State.drivesLive
  rw [h.mode]

include h k in
theorem RunsOn.zoneDrive (z : Zone) : t.zoneDrive z = s.zoneDrive z := by
  have zone (z : Zone) : (t.zone z).state = (s.zone z).state := (k .zones (by decide) z.idx).1
  have acc (i : Infeed) : t.accumulates i = s.accumulates i := by
    unfold State.accumulates State.working
    rw [h.mode, zone, k.place, k.input]
  unfold State.zoneDrive
  rw [h.drivesLive, h.moveAny fun _ _ => rfl]
  cases z <;> simp only [acc]

include h in
theorem RunsOn.shuttleWaiting (kb : Block.buffer.Same s t) : t.shuttleWaiting = s.shuttleWaiting := by
  unfold State.shuttleWaiting
  rw [kb.2.2.1]
  rcases s.buffer.task with _ | x
  · rfl
  · have := h.moveAny (f := fun m => m.track == x.track && m.source == .shuttle) fun _ _ => rfl
    simp only [List.all_eq_not_any_not, Bool.not_not, this]

include h k in
theorem RunsOn.stationState (st : Station) : t.stationState st = s.stationState st := by
  have hb := k .buffer (by decide)
  cases st with
  | check => unfold State.stationState; rw [h.check]
  | wrapper w => simp only [State.stationState, h.wrapper]
  | label => unfold State.stationState; rw [h.label]
  | shuttle => unfold State.stationState; rw [h.shuttleWaiting hb, hb.2.2.2.1]
  | mergeGate => unfold State.stationState; rw [h.merge]

include h k in
theorem RunsOn.pattern (l : Lamp) : t.pattern l = s.pattern l := by
  have zone (z : Zone) : (t.zone z).state = (s.zone z).state := (k .zones (by decide) z.idx).1
  cases l with
  | lane l => simp only [State.pattern, State.beacon, k.boundLoad, k.laneStatus]
  | stop i =>
    simp only [State.pattern, State.stopLamp, k.place, h.mode, show t.track.enabled = _ from k .enabled (by decide), h.records,
      List.length_map]
  | spur sp => simp only [State.pattern, State.spurBeacon, k.place]
  | fault =>
    simp only [State.pattern, State.faultBeacon, k.place, zone, h.mode, h.stationState k]
    rw [h.recordAny (g := fun r => r.stage == .lost) fun _ => rfl]

include h k in
theorem RunsOn.sameDerived : SameDerived s t where
  mode := by rw [h.mode]
  moves := ⟨_, h.moves, fun m => by split <;> exact ⟨rfl, rfl, rfl⟩⟩
  switch := by rw [h.merge, Option.map_map]; rfl
  zoneDrive := h.zoneDrive k
  pattern := h.pattern k
  stationState := h.stationState k
  laneStatus := k.laneStatus
  deadlocked := h.deadlocked k
  requests := h.requests k
  grantOver := h.grantOver k
  printRuns := h.printRuns

include h k in
theorem RunsOn.sameSignals : SameSignals s t := by
  obtain ⟨gate, car, shuttle, lamps⟩ := h.outputs
  refine ⟨fun z => ?_, ⟨gate, car, shuttle⟩, fun l => ?_, k .reported (by decide), k .laneStates (by decide), k .deadlock (by decide),
    fun i => ?_, ?_, ?_⟩
  · exact congrArg (·.drive) (h.zone z.idx)
  · rw [lamps]; exact ⟨rfl, id⟩
  · rw [h.request, Option.isSome_map]
  · rw [h.merge]
  · rw [h.label, Option.isSome_map]

end

theorem SameSignals.trans (h : SameSignals r s) (k : SameSignals s t) : SameSignals r t := by
  obtain ⟨g1, c1, s1⟩ := h.carriers
  obtain ⟨g2, c2, s2⟩ := k.carriers
  exact ⟨fun z => (k.drive z).trans (h.drive z), ⟨g2.trans g1, c2.trans c1, s2.trans s1⟩,
    fun l => ⟨(k.lamp l).1.trans (h.lamp l).1, (k.lamp l).2 ∘ (h.lamp l).2⟩, k.reported.trans h.reported,
    fun l => (k.lanes l).trans (h.lanes l), k.deadlock.trans h.deadlock, fun i => (k.requests i).trans (h.requests i),
    k.grant.trans h.grant, k.print.trans h.print⟩

/-- One centisecond keeps the signals, and begins none. -/
theorem tick_signals (s : State) : Signals s s.tick := by
  unfold State.tick
  split
  · exact signals_of_same ((tickAlways_keeps s).mono (by decide)).sameDerived (tickAlways_sameSignals s)
  · intro i
    have r := tickRunning_runsOn s.tickAlways
    have k : KeepsAllBut timed s.tickAlways s.tickAlways.tickRunning := tickRunning_keeps _
    have always := ((tickAlways_keeps s).mono (cs := offSignals) (by decide)).sameDerived
    have stand := (signalsInv_iff.mp i).of_same always (tickAlways_sameSignals s)
    exact ⟨signalsInv_iff.mpr (stand.of_same (r.sameDerived k) (r.sameSignals k)),
      ((tickAlways_sameSignals s).trans (r.sameSignals k)).begins⟩

end Sys2Proof.Machine
end

section
/-! SUPPORT. The derived signals at the resets, the requests and the frame octets (R183, R191, R207). -/

namespace Sys2Proof.Machine

open State

variable {bs : List Block} {r s t u : State} {q : Req}

/-! ### The resets (R183) -/

theorem AtRestAsReported.stand (h : AtRestAsReported s) (o : OutputsFollow s) : SignalsStand s where
  outputs := o
  stations st := (h.stations st).2.trans (h.stations st).1.symm
  lanes := h.lanes
  deadlock := by
    unfold State.deadlocked
    rw [h.deadlock, h.exit]
    rfl
  requests i := by
    have e : s.requests i = false := by simp [State.requests, State.oldest, h.places]
    rw [h.requests, tget_replicate, e]
    rfl
  grant g hg := by rw [h.grant] at hg; cases hg
  print := by
    have e : s.printRuns = false := by simp [State.printRuns, h.condition]
    rw [h.print, e]
    rfl

/-- A reset begins no request and no print limit, and the grant it gives up is over, its record deleted. -/
theorem AtRestAsReported.begins (h : AtRestAsReported t) (e : t.track.records = []) : SignalsBegin s t := by
  refine ⟨fun i w _ h2 => ?_, fun g _ => .inr ⟨h.grant, .inl ?_⟩, fun n _ h2 => ?_⟩
  · rw [h.requests, tget_replicate] at h2
    cases h2
  · simp [State.record?, e]
  · rw [h.print] at h2
    cases h2

theorem settleSilently_follow (h : ∀ l : Lamp, LampLit (tget s.field.lamps l.idx)) : OutputsFollow s.settleSilently := by
  unfold State.settleSilently
  exact settleOutputs_follow h

theorem lineReset_outputs (h : ∀ l : Lamp, LampLit (tget s.field.lamps l.idx)) (c : Nat) : OutputsFollow (s.lineReset c) := by
  have k : KeepsAllBut [.places, .queue, .wakeHolds, .mass, .mode, .sent] s.swept (s.sweptEnded c).startWakes := by
    simp [State.sweptEnded, State.sweptPlaces]
  rw [lineReset_eq]
  refine settleSilently_follow fun l => ?_
  rw [(k .outputs (by decide)).2.2.2.1]
  exact h l

theorem lineReset_records (c : Nat) : (s.lineReset c).track.records = [] := lineReset_keeps (s := s) c .records (by decide)

/-- A line reset leaves the signals as they follow (R183). -/
theorem lineReset_signals (s : State) (c : Nat) : Signals s (s.lineReset c) := by
  intro i
  have h := lineReset_atRest (s := s) c
  exact ⟨signalsInv_iff.mpr (h.stand (lineReset_outputs (signalsInv_iff.mp i).outputs.lit c)), h.begins (lineReset_records c)⟩

theorem AtRestAsReported.keeps (h : AtRestAsReported s) (k : KeepsAllBut [.outputs] s t) : AtRestAsReported t := by
  have b := k.wholeBuffer
  have l := k.wholeLabel
  have m := k.wholeMerge
  have r : t.reported = _ := k .reported (by decide)
  refine ⟨by rw [m, h.grant], by rw [m, h.requests], fun p => by rw [k.place, h.places], fun st => ?_, fun l => ?_, by rw [b, h.exit],
    by rw [b, h.deadlock], by rw [l, h.print], by rw [l, h.condition]⟩
  · rw [(k.mono (cs := offSignals) (by decide)).stationState_same, r]
    exact h.stations st
  · rw [k.laneStatus, ← h.lanes]
    exact k .laneStates (by decide) l

theorem lineReset_settle_signals (s : State) (c : Nat) : Signals s (s.lineReset c).settle := by
  intro i
  have h := lineReset_atRest (s := s) c
  have k := settleOutputs_keeps (s.lineReset c)
  have lit := (lineReset_outputs (signalsInv_iff.mp i).outputs.lit c).lit
  rw [h.settle]
  have h' := h.keeps k
  exact ⟨signalsInv_iff.mpr (h'.stand (settleOutputs_follow lit)),
    h'.begins ((show _ = _ from k .records (by decide)).trans (lineReset_records c))⟩

theorem fullReset_atRest (s : State) : AtRestAsReported s.fullReset := by
  have k := fullReset_keeps s
  have reported (st : Station) : tget s.fullReset.reported st.idx = .working := by
    rw [fullReset_eq]; exact settleSilently_reported _ st
  have lane (l : Lane) : (tget s.fullReset.lanes l).status = s.fullReset.laneStatus l := by
    rw [fullReset_eq]; exact settleSilently_laneStatus _ l
  refine ⟨(congrArg _ k.wholeMerge).trans rfl, (congrArg _ k.wholeMerge).trans rfl, fun p => by rw [fullReset_place],
    fun st => ⟨?_, reported st⟩, lane, (congrArg _ k.wholeBuffer).trans rfl, (congrArg _ k.wholeBuffer).trans rfl,
    (congrArg _ k.wholeLabel).trans rfl, (congrArg _ k.wholeLabel).trans rfl⟩
  have check : s.fullReset.check = ⟨.empty, false, none⟩ := k .check (by decide)
  have wrapper (w : Side) : (s.fullReset.wrapper w).status = .idle := by
    rw [k.wrapper]
    exact congrArg WrapperState.status (tget_replicate ..)
  cases st with
  | check => simp [State.stationState, check]
  | wrapper w => simp [State.stationState, wrapper w]
  | label => simp only [State.stationState, k.wholeLabel]; rfl
  | shuttle => simp only [State.stationState, State.shuttleWaiting, k.wholeBuffer]; rfl
  | mergeGate => simp only [State.stationState, k.wholeMerge]; rfl

theorem fullReset_outputs (s : State) : OutputsFollow s.fullReset := by
  have k : KeepsAllBut [.places, .queue, .wakeHolds, .mass, .mode, .sent, .purgeHold] s.cleared
      (s.cleared.resetPlaces.endReset (s.mode.mode == .halted)).purgeWatch := by simp
  rw [fullReset_eq]
  refine settleSilently_follow fun l => ?_
  rw [(k .outputs (by decide)).2.2.2.1]
  exact reset_lamps l.idx

/-- A full reset leaves the signals as they follow (R183). -/
theorem fullReset_signals (s : State) : Signals r s.fullReset := fun _ =>
  have h := fullReset_atRest s
  ⟨signalsInv_iff.mpr (h.stand (fullReset_outputs s)), h.begins (fullReset_keeps s .records (by decide))⟩

/-! ### Requests (R191) -/

/-- The signals of a state that a command starts from are those before it takes the command from the queue or the link. -/
theorem Signals.of_start (k : KeepsAllBut unseen s u) (h : Signals u t) : Signals s t := by
  intro i
  obtain ⟨grant, requests⟩ := k .grant (by decide)
  have print : u.label.print = s.label.print := k .printLimit (by decide)
  obtain ⟨j, h1, h2, h3⟩ := h (k.signals i).1
  exact ⟨j, fun i w e => h1 i w (requests ▸ e), fun g e => h2 g (grant.trans e), fun n e => h3 n (print.trans e)⟩

/-- A message sent last leaves the signals. -/
theorem Signals.send {m : Message} (h : Signals s t) : Signals s (t.send m) := by
  intro i
  have k : KeepsAllBut [.sent] t (t.send m) := (keeps_send (by decide)).mpr keeps_refl
  obtain ⟨j, h1, h2, h3⟩ := h i
  refine ⟨((k.mono (by decide)).signals j).1, h1, fun g e => ?_, fun n e f => (h3 n e f).trans (k.setting _).symm⟩
  rcases h2 g e with h | ⟨h, ho⟩
  · exact .inl h
  · exact .inr ⟨h, ((k.mono (cs := offSignals) (by decide)).grantOver_same g).mpr ho⟩

/-- A request keeps the signals where its operation does. -/
theorem serve_signals {kind : Nat} {how : Manner} {op : Service} (hr : how = .reads → ∀ u, KeepsAllBut unseen u (op u).1)
    (hc : how ≠ .reads → ∀ u, Signals u (op u).1.settle) : Signals s (serve kind how op q s) := by
  have lost : Signals s (s.count .linkErrors) := KeepsAllBut.signals ((keeps_count (by decide) (by decide)).mpr keeps_refl)
  have asked : KeepsAllBut unseen s (s.modLink fun u => { u with answering := true }) := by simp [unseen]
  unfold serve
  split
  · split
    · exact signals_refl s
    · split
      · exact lost
      · split
        · exact signals_refl s
        · rename_i hb
          have hn : how ≠ .reads := by rintro rfl; exact hb rfl
          dsimp only
          split
          · exact hc hn s
          · exact signals_refl s
  · split
    · exact lost
    · dsimp only
      refine .of_start asked (.send ?_)
      split
      · split
        · rename_i hb
          exact hc (by rintro rfl; simp at hb) _
        · split
          · rename_i h1 h2
            refine (hr ?_ _).signals
            by_contra hn
            exact h1 (by simp_all)
          · exact signals_refl _
      · exact signals_refl _

end Sys2Proof.Machine
end

section
/-! SUPPORT. Every command keeps the derived signals and begins them as R75, R79 and R135 say. -/

namespace Sys2Proof.Machine

open State

variable {bs : List Block} {r s t u : State} {q : Req}

namespace Signals

theorem settled (k : KeepsAllBut stirred s u) : Signals s u.settle := (Unsettled.of k).settle

theorem next (k : KeepsAllBut stirred s u) : Leads (Signals s) (.next u.settle) := leads_next (settled k)

theorem stays (s : State) : Leads (Signals s) (.next s) := leads_next (signals_refl s)

/-! ### The expiries and the events -/

theorem execInputChange (i : Input) (b : Bool) (s : State) : Leads (Signals s) (execInputChange i b s) := by
  unfold Machine.execInputChange
  refine leads_ite (fun _ => stays s) fun _ => leads_ite (fun _ => leads_next ?_) fun _ => leads_when (fun _ => ?_) ?_
  · exact KeepsAllBut.signals (by simp [unseen])
  · have k : KeepsAllBut stirred s (s.modField fun u => { u with raw := tset u.raw i.idx b }) := by simp [stirred]
    exact ((Unsettled.of k).filtered).settle
  · exact KeepsAllBut.signals (by simp [unseen])

theorem execTag (c : Scanner) (d : Text) (s : State) : Leads (Signals s) (execTag c d s) := by
  unfold Machine.execTag
  split
  · exact next (by simp [stirred])
  · exact next (by simp [stirred])

theorem execNoRead (c : Scanner) (s : State) : Leads (Signals s) (execNoRead c s) := by
  unfold Machine.execNoRead
  split
  · exact next (by simp [stirred])
  · exact next (by simp [stirred])

theorem execAnswerLimitExpiry (c : Scanner) (s : State) : Leads (Signals s) (execAnswerLimitExpiry c s) := by
  unfold Machine.execAnswerLimitExpiry
  split
  · exact leads_when (fun _ => settled (by simp [stirred])) (signals_refl s)
  · exact leads_when (fun _ => KeepsAllBut.signals (by simp [unseen])) (signals_refl s)

theorem execDeferralDeadlineExpiry (n : Nat) (s : State) : Leads (Signals s) (execDeferralDeadlineExpiry n s) := by
  unfold Machine.execDeferralDeadlineExpiry
  split
  · split
    · exact leads_when (fun _ => settled (by simp [stirred])) (signals_refl s)
    · exact stays s
  · exact stays s

theorem execProfile (n : Nat) (f : Overhang) (s : State) : Leads (Signals s) (execProfile n f s) := by
  unfold Machine.execProfile
  split
  · exact stays s
  · exact leads_when (fun _ => settled (by simp [stirred])) (signals_refl s)

theorem execReading (x : Reading) (s : State) : Leads (Signals s) (execReading x s) := by
  unfold Machine.execReading
  split
  · exact stays s
  · refine leads_ite (fun _ => stays s) fun _ => ?_
    split
    · exact next (by simp [stirred])
    · exact leads_when (fun _ => settled (by simp [stirred])) (signals_refl s)

theorem execSettleDelayEnd (s : State) : Leads (Signals s) (execSettleDelayEnd s) := by
  unfold Machine.execSettleDelayEnd
  split
  · exact leads_when (fun _ => settled (by simp [stirred])) (signals_refl s)
  · exact stays s

theorem execSettleLimitExpiry (s : State) : Leads (Signals s) (execSettleLimitExpiry s) := by
  unfold Machine.execSettleLimitExpiry
  split
  · exact stays s
  · exact leads_when (fun _ => settled (by simp [stirred])) (signals_refl s)

theorem execZeroSettleEnd (s : State) : Leads (Signals s) (execZeroSettleEnd s) := by
  unfold Machine.execZeroSettleEnd
  split
  · exact leads_when (fun _ => settled (by simp [stirred])) (signals_refl s)
  · exact stays s

theorem execZeroLimitExpiry (s : State) : Leads (Signals s) (execZeroLimitExpiry s) := by
  unfold Machine.execZeroLimitExpiry
  split
  · exact leads_when (fun _ => settled (by simp [stirred])) (signals_refl s)
  · exact stays s

theorem execCheckRouteRetry (s : State) : Leads (Signals s) (execCheckRouteRetry s) := by
  unfold Machine.execCheckRouteRetry
  split
  · split
    · have k := (keeps_askOut (bs := stirred) (by decide) ‹_›).mpr keeps_refl
      exact next ((keeps_modCheck (by decide)).mpr k)
    · exact stays s
  · exact stays s

/-- The arbiter grants only where no grant stands (R76), so that its grant replaces none. -/
theorem execMergeChoice (s : State) : Leads (Signals s) (execMergeChoice s) := by
  unfold Machine.execMergeChoice
  refine leads_ite (fun h => ?_) fun _ => stays s
  have free : s.merge.grant = none := by
    unfold State.mayGrant at h
    simp only [Bool.and_eq_true, Option.isNone_iff_eq_none] at h
    tauto
  split
  · exact stays s
  · split
    · exact stays s
    · rename_i i _ _ x _
      have granted : Unsettled s (s.modMerge fun m =>
          { m with grant := some ⟨i, x.number⟩, lastGranted := some i, train := s.trainAfter i }) :=
        ⟨rfl, fun g hg => (nomatch free.symm.trans hg), fun _ h => h, fun h => h⟩
      exact leads_next (granted.keeps ((keeps_pursueGrant (by decide)).mpr keeps_refl)).settle

theorem execGatePark (s : State) : Leads (Signals s) (execGatePark s) := by
  unfold Machine.execGatePark
  refine leads_ite (fun _ => leads_ite (fun _ => ?_) fun _ => ?_) fun _ => stays s
  · dsimp only
    split
    · exact next (by simp [stirred])
    · exact next (by simp [stirred])
  · split
    · exact leads_when (fun _ => settled (by simp [stirred])) (signals_refl s)
    · exact stays s

theorem execGateLimitExpiry (s : State) : Leads (Signals s) (execGateLimitExpiry s) := by
  unfold Machine.execGateLimitExpiry
  split
  · exact leads_when (fun _ => settled (by simp [stirred])) (signals_refl s)
  · exact stays s

theorem execAccept (w : Side) (n : Nat) (s : State) : Leads (Signals s) (execAccept w n s) := by
  unfold Machine.execAccept
  exact leads_ite (fun _ => stays s) fun _ => leads_ite (fun _ => next (by simp [stirred])) fun _ =>
    leads_when (fun _ => settled (by simp [stirred])) (signals_refl s)

theorem execDone (w : Side) (n k f : Nat) (s : State) : Leads (Signals s) (execDone w n k f s) := by
  unfold Machine.execDone
  dsimp only
  refine leads_ite (fun _ => stays s) fun _ => leads_ite (fun _ => next (by simp [stirred])) fun _ => ?_
  split
  · exact leads_ite (fun _ => leads_when (fun _ => settled (by simp [stirred])) (settled (by simp [stirred]))) fun _ =>
      leads_when (fun _ => settled (by simp [stirred])) (signals_refl s)
  · exact stays s

theorem execFault (w : Side) (n : Nat) (c : WrapFault) (s : State) : Leads (Signals s) (execFault w n c s) := by
  unfold Machine.execFault
  dsimp only
  refine leads_ite (fun _ => stays s) fun _ => leads_ite (fun _ => next (by simp [stirred])) fun _ => ?_
  split
  · exact leads_ite (fun _ => next (by simp [stirred])) fun _ => leads_when (fun _ => settled (by simp [stirred])) (signals_refl s)
  · exact stays s

theorem execWrapperAckLimitExpiry (w : Side) (s : State) : Leads (Signals s) (execWrapperAckLimitExpiry w s) := by
  unfold Machine.execWrapperAckLimitExpiry
  dsimp only
  split
  · exact leads_when (fun _ => settled (by simp [stirred])) (signals_refl s)
  · exact stays s

theorem execWrapLimitExpiry (w : Side) (s : State) : Leads (Signals s) (execWrapLimitExpiry w s) := by
  unfold Machine.execWrapLimitExpiry
  dsimp only
  split
  · exact leads_when (fun _ => settled (by simp [stirred])) (signals_refl s)
  · exact stays s

theorem execWrapperChoice (s : State) : Leads (Signals s) (execWrapperChoice s) := by
  unfold Machine.execWrapperChoice
  refine leads_ite (fun _ => ?_) fun _ => stays s
  split
  · split
    · exact next (by simp [stirred])
    · exact stays s
  · exact stays s

theorem execOrderSend (w : Side) (s : State) : Leads (Signals s) (execOrderSend w s) := by
  unfold Machine.execOrderSend
  split
  · exact leads_when (fun _ => settled (by simp [stirred])) (signals_refl s)
  · exact stays s

theorem execLabelOrderMove (s : State) : Leads (Signals s) (execLabelOrderMove s) := by
  unfold Machine.execLabelOrderMove
  split
  · exact stays s
  · refine leads_ite (fun _ => ?_) fun _ => stays s
    split
    · exact next ((keeps_askMove (by decide) ‹_›).mpr keeps_refl)
    · exact stays s

theorem execJobSend (s : State) : Leads (Signals s) (execJobSend s) := by
  unfold Machine.execJobSend
  refine leads_ite (fun _ => ?_) fun _ => stays s
  split
  · exact next (by simp [stirred])
  · exact stays s

theorem execTaken (n : Nat) (s : State) : Leads (Signals s) (execTaken n s) := by
  unfold Machine.execTaken
  refine leads_ite (fun _ => stays s) fun _ => ?_
  split
  · exact next (by simp [stirred])
  · exact leads_when (fun _ => settled (by simp [stirred])) (signals_refl s)

theorem execPrinted (n : Nat) (s : State) : Leads (Signals s) (execPrinted n s) := by
  unfold Machine.execPrinted
  refine leads_ite (fun _ => stays s) fun _ => ?_
  split
  · exact next (by simp [stirred])
  · exact leads_when (fun _ => signals_refl s) (settled (by simp [stirred]))

theorem execApplySend (s : State) : Leads (Signals s) (execApplySend s) := by
  unfold Machine.execApplySend
  split
  · exact leads_when (fun _ => settled (by simp [stirred])) (signals_refl s)
  · exact stays s

theorem execApplied (n : Nat) (s : State) : Leads (Signals s) (execApplied n s) := by
  unfold Machine.execApplied
  refine leads_ite (fun _ => stays s) fun _ => ?_
  split
  · exact leads_when (fun _ => settled (by simp [stirred, LabelController.dropJob])) (settled (by simp [stirred]))
  · exact next (by simp [stirred])

theorem execJobAckLimitExpiry (s : State) : Leads (Signals s) (execJobAckLimitExpiry s) := by
  unfold Machine.execJobAckLimitExpiry
  split
  · exact leads_when (fun _ => settled (by simp [stirred])) (signals_refl s)
  · exact stays s

theorem execPrintLimitExpiry (s : State) : Leads (Signals s) (execPrintLimitExpiry s) := by
  have stopped : Unsettled s (s.modLabel fun u => { u with print := none }) := ⟨rfl, fun _ h => h, fun _ h => h, fun _ => rfl⟩
  unfold Machine.execPrintLimitExpiry
  exact leads_when (fun _ => (stopped.keeps ((keeps_faultLabel (by decide)).mpr keeps_refl)).settle) (signals_refl s)

theorem execLabelRejectMove (s : State) : Leads (Signals s) (execLabelRejectMove s) := by
  unfold Machine.execLabelRejectMove
  split
  · split
    · have k := (keeps_askMove (bs := stirred) (by decide) ‹_›).mpr keeps_refl
      exact next ((keeps_modLabel (.inl (by decide)) (.inr rfl)).mpr k)
    · exact stays s
  · exact stays s

theorem execShuttleChoice (s : State) : Leads (Signals s) (execShuttleChoice s) := by
  unfold Machine.execShuttleChoice
  refine leads_ite (fun _ => ?_) fun _ => stays s
  split
  · exact next (by simp [stirred])
  · exact stays s

theorem execMoveStart (n : Nat) (s : State) : Leads (Signals s) (execMoveStart n s) := by
  unfold Machine.execMoveStart
  split
  · exact leads_when (fun _ => settled (by simp [stirred])) (signals_refl s)
  · exact stays s

/-- A window's edges and rest stand beside the drive of a zone, and the lamps. -/
theorem execSpeedWindowEnd (z : Zone) (s : State) : Leads (Signals s) (execSpeedWindowEnd z s) := by
  have counted (f : ZoneEntry → ZoneEntry) : Unsettled s (s.modZone z f) := ⟨rfl, fun _ h => h, fun _ h => h, fun h => h⟩
  unfold Machine.execSpeedWindowEnd
  dsimp only
  exact leads_when (fun _ => ((counted _).keeps ((keeps_setZone (by decide)).mpr keeps_refl)).settle) (signals_refl s)

/-- An edge is counted beside all that the signals follow from (R34). -/
theorem execEncoderEdge (z : Zone) (s : State) : Leads (Signals s) (execEncoderEdge z s) := by
  have k : KeepsAllBut offSignals s (s.modZone z fun e => { e with edges := e.edges + 1 }) := by simp [offSignals]
  have drive (y : Zone) : ((s.modZone z fun e => { e with edges := e.edges + 1 }).zone y).drive = (s.zone y).drive := by
    rw [modZone_zone]
    split
    · rename_i h; rw [h]
    · rfl
  unfold Machine.execEncoderEdge
  refine leads_when (fun _ => signals_of_same k.sameDerived ?_) (signals_refl s)
  exact ⟨drive, ⟨rfl, rfl, rfl⟩, fun _ => ⟨rfl, id⟩, rfl, fun _ => rfl, rfl, fun _ => rfl, rfl, rfl⟩

/-- A lamp that passes to its other half keeps its pattern, with a half period and what was left of the last before it (R31). -/
theorem execFlashHalfPeriod (l : Lamp) (s : State) : Leads (Signals s) (execFlashHalfPeriod l s) := by
  unfold Machine.execFlashHalfPeriod
  dsimp only
  refine leads_when (fun h => ?_) (signals_refl s)
  simp only [Bool.and_eq_true, Bool.or_eq_true, beq_iff_eq, decide_eq_true_eq] at h
  obtain ⟨flashes, due⟩ := h
  have k (v : Vector LampState 12) : KeepsAllBut offSignals s (s.modField fun u => { u with lamps := v }) := by simp [offSignals]
  refine signals_of_same (k _).sameDerived ⟨fun _ => rfl, ⟨rfl, rfl, rfl⟩, fun x => ?_, rfl, fun _ => rfl, rfl, fun _ => rfl, rfl, rfl⟩
  by_cases hx : x = l
  · subst hx
    dsimp only [modField_field]
    rw [tget_tset_self]
    refine ⟨rfl, fun _ => ⟨fun e => ?_, fun e => ?_, fun e => ?_, fun e => ?_⟩⟩
    · rcases flashes with f | f <;> exact absurd (f.symm.trans e) (by decide)
    · rcases flashes with f | f <;> exact absurd (f.symm.trans e) (by decide)
    · have half : (tget s.field.lamps x.idx).pattern.halfPeriod = 100 := congrArg Pattern.halfPeriod e
      dsimp only
      omega
    · have half : (tget s.field.lamps x.idx).pattern.halfPeriod = 25 := congrArg Pattern.halfPeriod e
      dsimp only
      omega
  · dsimp only [modField_field]
    rw [tget_tset_of_ne _ _ fun e => hx (lamp_idx_injective e).symm]
    exact ⟨rfl, id⟩

theorem execTravelLimitExpiry (n : Nat) (s : State) : Leads (Signals s) (execTravelLimitExpiry n s) := by
  unfold Machine.execTravelLimitExpiry
  split
  · exact leads_when (fun _ => (Unsettled.refl s).loseMove.settle) (signals_refl s)
  · exact stays s

theorem discardFrame (s : State) : Signals s s.discardFrame :=
  KeepsAllBut.signals (by simp [unseen, State.discardFrame, State.receive])

theorem receive (s : State) (x : Receiver) : Signals s (s.receive x) := KeepsAllBut.signals (by simp [unseen, State.receive])

theorem execGapLimitExpiry (s : State) : Leads (Signals s) (execGapLimitExpiry s) := by
  unfold Machine.execGapLimitExpiry
  split
  · exact leads_next (discardFrame s)
  · exact stays s

/-! ### The modes and the resets -/

theorem halt (k : KeepsAllBut stirred s u) : Signals s u.halt.settle := settled ((keeps_halt (by decide)).mpr k)

theorem execEstop (s : State) : Leads (Signals s) (execEstop s) := by
  have k : KeepsAllBut unseen s (s.modField fun u => { u with estop := true }) := by simp [unseen]
  unfold Machine.execEstop
  exact leads_ite (fun _ => stays s) fun _ => leads_when (fun _ => k.signals) (halt (k.mono (by decide)))

theorem execWakeHoldExpiry (i : Infeed) (s : State) : Leads (Signals s) (execWakeHoldExpiry i s) := by
  unfold Machine.execWakeHoldExpiry
  dsimp only
  exact leads_ite (fun _ => leads_when (fun _ => settled (by simp [stirred])) (KeepsAllBut.signals (by simp [unseen]))) fun _ => stays s

theorem execDrainLimitExpiry (s : State) : Leads (Signals s) (execDrainLimitExpiry s) := by
  unfold Machine.execDrainLimitExpiry
  exact leads_when (fun _ => settled (by simp [stirred])) (signals_refl s)

theorem execPurgeHoldExpiry (s : State) : Leads (Signals s) (execPurgeHoldExpiry s) := by
  unfold Machine.execPurgeHoldExpiry
  refine leads_when (fun _ => ?_) (signals_refl s)
  exact (lineReset_signals _ 2).of_start (by simp [unseen])

theorem execResetFull (q : Req) (s : State) : Leads (Signals s) (execResetFull q s) := by
  have lost : Signals s (s.count .linkErrors) := KeepsAllBut.signals ((keeps_count (by decide) (by decide)).mpr keeps_refl)
  unfold Machine.execResetFull
  refine leads_ite (fun _ => stays s) fun _ => leads_ite (fun _ => leads_next lost) fun _ => leads_ite (fun _ => ?_) fun _ =>
    leads_ite (fun _ => leads_next (fullReset_signals _)) fun _ => leads_next (KeepsAllBut.signals (by simp [unseen]))
  split
  · exact leads_next (fullReset_signals s)
  · exact stays s

/-- The return from a halt moves the waits of the requests, and begins none (R181). -/
theorem leaveHalt (s : State) : Signals s s.leaveHalt.settle := by
  have before : KeepsAllBut stirred s (s.modMode fun u => { u with saved := none }) := by simp [stirred]
  have anchored (u : State) : Unsettled u u.anchorTimes :=
    ⟨rfl, fun _ h => h, fun i h => (tget_tmap ..).trans (Option.map_eq_none_iff.mpr h), fun h => h⟩
  have after (u : State) : KeepsAllBut stirred u (((u.sendAll .resume).changeMode s.savedMode .resumed).actAs s.savedMode) := by
    simp [stirred]
  have b := Unsettled.of before
  have h := anchored (s.modMode fun u => { u with saved := none })
  have all : Unsettled s (s.modMode fun u => { u with saved := none }).anchorTimes :=
    ⟨h.lamps.trans b.lamps, fun g e => h.grant g (b.grant g e), fun i e => h.requests i (b.requests i e), h.print ∘ b.print⟩
  exact (all.keeps (after _)).settle

theorem resumeOp (s : State) : Signals s (resumeOp s).1.settle := by
  unfold Machine.resumeOp
  split
  · exact settled keeps_refl
  · split
    · exact settled keeps_refl
    · exact leaveHalt s

theorem resetLineOp (s : State) : Signals s (resetLineOp s).1.settle := by
  unfold Machine.resetLineOp
  dsimp only
  exact lineReset_settle_signals s 1

theorem removePallet (n : Nat) (s : State) : Signals s (removePallet n s).1.settle := by
  unfold Machine.removePallet
  split
  · exact settled keeps_refl
  · split
    · exact settled keeps_refl
    · split
      · exact settled keeps_refl
      · exact ((Unsettled.refl s).deleteRecord.keeps ((keeps_raise (by decide)).mpr keeps_refl)).settle

/-! ### The requests -/

/-- A request that only reads keeps the signals. -/
theorem reads {kind : Nat} {op : Service} (h : ∀ u, KeepsAllBut [] u (op u).1) : Signals s (serve kind .reads op q s) :=
  serve_signals (fun _ u => (h u).mono (by simp)) fun hn => absurd rfl hn

/-- A request that changes the state keeps the signals, where its operation leaves the outputs, the grant and the print limit. -/
theorem changes {kind : Nat} {how : Manner} {op : Service} (hn : how ≠ .reads) (h : ∀ u, KeepsAllBut stirred u (op u).1) :
    Signals s (serve kind how op q s) := serve_signals (fun e => absurd e hn) fun _ u => settled (h u)

end Signals

/-- Every command but a frame octet keeps the derived signals. -/
theorem exec_signals {c : Instr} (hc : ∀ o, c ≠ .linkOctet o) : Leads (Signals s) (exec c s) := by
  have stays := signals_refl s
  cases c with
  | powerOn => exact leads_next (fullReset_signals s)
  | resetPin => exact leads_next (fullReset_signals s)
  | inputChange i b => exact .execInputChange i b s
  | inputFilterExpiry i => exact leads_when (fun _ => (Unsettled.refl s).filtered.settle) stays
  | estop => exact .execEstop s
  | estopClear => exact leads_next (KeepsAllBut.signals (by simp [unseen]))
  | encoderEdge z => exact .execEncoderEdge z s
  | speedWindowEnd z => exact .execSpeedWindowEnd z s
  | travelLimitExpiry n => exact .execTravelLimitExpiry n s
  | purgeHoldExpiry => exact .execPurgeHoldExpiry s
  | wakeHoldExpiry i => exact .execWakeHoldExpiry i s
  | answerLimitExpiry sc => exact .execAnswerLimitExpiry sc s
  | deferralDeadlineExpiry n => exact .execDeferralDeadlineExpiry n s
  | gateLimitExpiry => exact .execGateLimitExpiry s
  | settleDelayEnd => exact .execSettleDelayEnd s
  | settleLimitExpiry => exact .execSettleLimitExpiry s
  | zeroSettleEnd => exact .execZeroSettleEnd s
  | zeroLimitExpiry => exact .execZeroLimitExpiry s
  | wrapperAckLimitExpiry w => exact .execWrapperAckLimitExpiry w s
  | wrapLimitExpiry w => exact .execWrapLimitExpiry w s
  | jobAckLimitExpiry => exact .execJobAckLimitExpiry s
  | purgeAckLimitExpiry => exact leads_when (fun _ => .settled (by simp [stirred])) stays
  | printLimitExpiry => exact .execPrintLimitExpiry s
  | applyLimitExpiry => exact leads_when (fun _ => .settled (by simp [stirred])) stays
  | drainLimitExpiry => exact .execDrainLimitExpiry s
  | gapLimitExpiry => exact .execGapLimitExpiry s
  | linkOctet o => exact absurd rfl (hc o)
  | replySent => exact leads_next (KeepsAllBut.signals (by simp [unseen]))
  | unknownKind q k => exact leads_next (.reads fun _ => keeps_refl)
  | tag sc d => exact .execTag sc d s
  | noRead sc => exact .execNoRead sc s
  | profile n f => exact .execProfile n f s
  | reading x => exact .execReading x s
  | accept w n => exact .execAccept w n s
  | done w n k f => exact .execDone w n k f s
  | fault w n k => exact .execFault w n k s
  | taken n => exact .execTaken n s
  | printed n => exact .execPrinted n s
  | applied n => exact .execApplied n s
  | cancelled => exact leads_when (fun _ => .settled (by simp [stirred])) stays
  | moveStart n => exact .execMoveStart n s
  | mergeChoice => exact .execMergeChoice s
  | gatePark => exact .execGatePark s
  | checkRouteRetry => exact .execCheckRouteRetry s
  | wrapperChoice => exact .execWrapperChoice s
  | orderSend w => exact .execOrderSend w s
  | labelOrderMove => exact .execLabelOrderMove s
  | jobSend => exact .execJobSend s
  | purgeStart => exact leads_when (fun _ => .settled (by simp [stirred])) stays
  | applySend => exact .execApplySend s
  | labelRejectMove => exact .execLabelRejectMove s
  | shuttleChoice => exact .execShuttleChoice s
  | deliveryDecision => exact leads_when (fun _ => .settled (by simp [stirred])) stays
  | drainCompleted => exact leads_when (fun _ => .settled (by simp [stirred])) stays
  | stopCompleted => exact leads_when (fun _ => .settled (by simp [stirred])) stays
  | identify q => exact leads_next (.reads fun _ => keeps_identifyOp.mpr keeps_refl)
  | setIdentity q d => exact leads_next (.changes nofun fun _ => (keeps_setIdentityOp (by decide)).mpr keeps_refl)
  | setSetting q n v => exact leads_next (.changes nofun fun _ => (keeps_setSettingOp (by decide)).mpr keeps_refl)
  | getSetting q n => exact leads_next (.reads fun _ => keeps_getSettingOp.mpr keeps_refl)
  | setTableBands q x => exact leads_next (.changes nofun fun _ => (keeps_setBands (by decide)).mpr keeps_refl)
  | setTableBases q x => exact leads_next (.changes nofun fun _ => (keeps_setBases (by decide)).mpr keeps_refl)
  | setTableRecipes q x => exact leads_next (.changes nofun fun _ => (keeps_setRecipes (by decide)).mpr keeps_refl)
  | setTableWindows q x => exact leads_next (.changes nofun fun _ => (keeps_setWindows (by decide)).mpr keeps_refl)
  | setTableReportMask q x => exact leads_next (.changes nofun fun _ => (keeps_setMask (by decide)).mpr keeps_refl)
  | getTable q n => exact leads_next (.reads fun _ => keeps_getTableOp.mpr keeps_refl)
  | takeReports q => exact leads_next (.changes nofun fun _ => (keeps_takeReportsOp (by decide)).mpr keeps_refl)
  | readCounters q n => exact leads_next (.changes nofun fun _ => (keeps_readCountersOp (by decide)).mpr keeps_refl)
  | articlePut q n m x => exact leads_next (.changes nofun fun _ => (keeps_putArticle (by decide)).mpr keeps_refl)
  | articleDrop q n => exact leads_next (.changes nofun fun _ => (keeps_dropArticle (by decide)).mpr keeps_refl)
  | articleGet q n f => exact leads_next (.reads fun _ => keeps_getArticle.mpr keeps_refl)
  | loadCreate q id n l d => exact leads_next (.changes nofun fun _ => (keeps_createLoad (by decide)).mpr keeps_refl)
  | slotAdd q id p d b rc ls xs => exact leads_next (.changes nofun fun _ => (keeps_addSlot (by decide)).mpr keeps_refl)
  | slotSkip q id p => exact leads_next (.changes nofun fun _ => (keeps_skipSlot (by decide)).mpr keeps_refl)
  | loadBind q id l => exact leads_next (.changes nofun fun _ => (keeps_bindLoad (by decide)).mpr keeps_refl)
  | loadUnbind q id => exact leads_next (.changes nofun fun _ => (keeps_unbindLoad (by decide)).mpr keeps_refl)
  | loadClose q id => exact leads_next (.changes nofun fun _ => (keeps_closeLoad (by decide)).mpr keeps_refl)
  | readLoad q id p f => exact leads_next (.reads fun _ => keeps_readLoadOp.mpr keeps_refl)
  | placeClear q n => exact leads_next (.changes nofun fun _ => (keeps_clearPlaceOp (by decide)).mpr keeps_refl)
  | listPlaces q => exact leads_next (.reads fun _ => keeps_listPlacesOp.mpr keeps_refl)
  | readZones q b => exact leads_next (.changes nofun fun _ => (keeps_readZonesOp (by decide)).mpr keeps_refl)
  | infeedSet q i n => exact leads_next (.changes nofun fun _ => (keeps_setInfeed (by decide)).mpr keeps_refl)
  | readPallet q n => exact leads_next (.reads fun _ => keeps_readPalletOp.mpr keeps_refl)
  | listPallets q a b => exact leads_next (.reads fun _ => keeps_listPalletsOp.mpr keeps_refl)
  | palletRemove q n => exact leads_next (serve_signals nofun fun _ => .removePallet n)
  | stationResume q n => exact leads_next (.changes nofun fun _ => (keeps_resumeStationOp (by decide)).mpr keeps_refl)
  | zeroScale q => exact leads_next (.changes nofun fun _ => (keeps_zeroScaleOp (by decide)).mpr keeps_refl)
  | forceRelease q n => exact leads_next (.changes nofun fun _ => (keeps_forcePallet (by decide)).mpr keeps_refl)
  | laneHalt q l => exact leads_next (.changes nofun fun _ => (keeps_setHalt (by decide)).mpr keeps_refl)
  | laneResume q l => exact leads_next (.changes nofun fun _ => (keeps_setHalt (by decide)).mpr keeps_refl)
  | readLane q l => exact leads_next (.reads fun _ => keeps_readLaneOp.mpr keeps_refl)
  | setModeRun q => exact leads_next (.changes nofun fun _ => (keeps_setRun (by decide)).mpr keeps_refl)
  | setModeDrain q => exact leads_next (.changes nofun fun _ => (keeps_setDrainMode (by decide)).mpr keeps_refl)
  | setModeStop q => exact leads_next (.changes nofun fun _ => (keeps_setStop (by decide)).mpr keeps_refl)
  | resume q => exact leads_next (serve_signals nofun fun _ => .resumeOp)
  | resetFull q => exact .execResetFull q s
  | resetLine q => exact leads_next (serve_signals nofun fun _ => .resetLineOp)
  | resetSettings q => exact leads_next (.changes nofun fun _ => (keeps_resetSettingsOp (by decide)).mpr keeps_refl)
  | flashHalfPeriod l => exact .execFlashHalfPeriod l s
  | strapChange p => exact leads_next (KeepsAllBut.signals (by simp [unseen]))

/-- A frame octet keeps the derived signals: the frame is discarded, waited on, or run as a request (R189, R191). -/
theorem execLinkOctet_signals (o : Octet) (s : State) : Leads (Signals s) (execLinkOctet o s) := by
  have hunting := Signals.receive s .hunting
  have start : KeepsAllBut unseen s (s.receive .hunting) := by simp [unseen, State.receive]
  have run (b : Bool) (k : Nat) (p : List Octet) : Leads (Signals s) (runRequest b k p (s.receive .hunting)) := by
    obtain ⟨c, hc, e⟩ := runRequest_isRequestRun (s := s.receive .hunting) b k p
    rw [e]
    exact fun t ht => (exec_signals hc t ht).of_start start
  unfold execLinkOctet
  split
  · exact leads_when (fun _ => .receive s _) (signals_refl s)
  · unfold State.appendOctet State.acceptFrame
    refine leads_ite (fun _ => leads_next (.discardFrame s)) fun _ => leads_ite (fun _ => ?_) fun _ => leads_next (.receive s _)
    refine leads_ite (fun _ => ?_) fun _ => leads_next (.discardFrame s)
    exact leads_ite (fun _ => leads_next hunting) fun _ => leads_ite (fun _ => run _ _ _) fun _ =>
      leads_ite (fun _ => run _ _ _) fun _ => leads_next hunting

/-- Settles O56: one centisecond leaves all that the signals follow from; a command either settles them, resets the line, or leaves them
with all that they follow from. -/
theorem theOutputsFollowTheState : Obligations.TheOutputsFollowTheState := by
  intro s t i e
  unfold step at e
  split at e
  · exact leads_next (tick_signals s) t e i
  · rename_i c rest _
    have start : KeepsAllBut unseen s ({ s with pending := rest } : State) := fun b _ => by cases b <;> simp_all [Block.Same, unseen]
    by_cases hc : ∀ o, c ≠ .linkOctet o
    · exact (exec_signals hc t e).of_start start i
    · push Not at hc
      obtain ⟨o, rfl⟩ := hc
      exact (execLinkOctet_signals o _ t e).of_start start i

end Sys2Proof.Machine
end

section
/-! Small events and the input filters (R27, R28, R31, R32, R34, R180, R188, R191). -/

namespace Sys2Proof.Machine

open State

variable {bs : List Block} {r s t u : State}

/-! ### The events that change one thing -/

theorem modZone_congr {z : Zone} {f g : ZoneEntry → ZoneEntry} (h : f (s.zone z) = g (s.zone z)) : s.modZone z f = s.modZone z g := by
  have e : tmod s.field.zones z.idx f = tmod s.field.zones z.idx g := congrArg (tset s.field.zones z.idx) h
  unfold State.modZone State.modField
  dsimp only
  rw [e]

theorem modZone_of_fixed {z : Zone} {f : ZoneEntry → ZoneEntry} (h : f (s.zone z) = s.zone z) : s.modZone z f = s := by
  have e : tmod s.field.zones z.idx f = s.field.zones := tmod_of_fixed h
  unfold State.modZone State.modField
  dsimp only
  rw [e]

/-- An encoder edge of a zone that is driven, outside a halt, is counted, and another is not (R34). -/
theorem exec_encoderEdge (z : Zone) (s : State) : ∃ n, exec (.encoderEdge z) s = .next (s.modZone z fun e => { e with edges := n })
    ∧ n = (s.zone z).edges + if (s.zone z).drive ∧ s.mode.mode ≠ .halted then 1 else 0 := by
  have e : exec (.encoderEdge z) s = if (s.zone z).drive && s.mode.mode != .halted
      then .next (s.modZone z fun e => { e with edges := e.edges + 1 }) else .next s := rfl
  refine ⟨_, ?_, rfl⟩
  rw [e]
  by_cases h : (s.zone z).drive = true ∧ s.mode.mode ≠ .halted
  · rw [if_pos (by simpa using h), if_pos h]
    exact congrArg _ (modZone_congr rfl)
  · rw [if_neg (by simpa using h), if_neg h, modZone_of_fixed rfl]

/-- The half period of a flashing lamp that ends in the centisecond now running passes it on, and another lamp is left (R31). -/
theorem exec_flashHalfPeriod {l : Lamp} {b : Pattern} {p : Bool} {k : Nat} (h : tget s.field.lamps l.idx = ⟨b, p, k⟩) :
    exec (.flashHalfPeriod l) s = .next (if (b = .flashSlow ∨ b = .flashFast) ∧ k ≤ 1
      then s.modField fun u => { u with lamps := tset u.lamps l.idx ⟨b, !p, k + b.halfPeriod⟩ } else s) := by
  show execFlashHalfPeriod l s = _
  unfold execFlashHalfPeriod
  rw [h]
  dsimp only
  by_cases c : (b = .flashSlow ∨ b = .flashFast) ∧ k ≤ 1
  · rw [if_pos c, if_pos (by simpa using c)]
  · rw [if_neg c, if_neg (by simpa using c)]

/-- Settles O6: each event is an equation of its own. -/
theorem theSmallEventsChangeOneThing : Obligations.TheSmallEventsChangeOneThing := by
  intro z l p s
  refine ⟨?edge, fun b lit k hl => ⟨fun half hb hk => ?_, fun hb => ?_⟩, rfl, rfl, rfl⟩
  case edge =>
    obtain ⟨n, e, hn⟩ := exec_encoderEdge z s
    have edges : ((s.modZone z fun e => { e with edges := n }).zone z).edges = n := by rw [modZone_zone, if_pos rfl]
    exact ⟨_, e, edges.trans hn, by rw [edges]⟩
  · rw [exec_flashHalfPeriod hl]
    rcases hb with ⟨rfl, rfl⟩ | ⟨rfl, rfl⟩ <;> simp [hk, Pattern.halfPeriod]
  · rw [exec_flashHalfPeriod hl]
    rcases hb with rfl | rfl | hk
    · simp
    · simp
    · rw [if_neg fun h => by omega]

/-! ### The input filters (R27, R32) -/

/-- What taking a new level leaves: the level, its timing ended, and what the blocks make of it (R28). -/
def heard : List Block :=
  [.queue, .loads, .entryTaken, .purgeHold, .wakeHolds, .places, .moves, .records, .nextNumber, .scanners, .merge, .check, .mass, .wrap,
   .label, .printLimit, .buffer, .lanes, .sent, .reported]

/-- The line with a filtered level taken, before it is handed on (R27). -/
def State.heardInput (s : State) (i : Input) (b : Bool) : State :=
  (s.setTiming i none).modField fun u => { u with filtered := tset u.filtered i.idx b }

theorem filtered_eq (i : Input) (b : Bool) : s.filtered i b = (s.heardInput i b).handOn i b := by
  unfold State.filtered State.heardInput; rfl

theorem heardInput_keeps (i : Input) (b : Bool) : KeepsAllBut [.filtered, .timing] s (s.heardInput i b) := by
  simp [State.heardInput]

/-- The inputs in the order of their numbers. -/
def allInputs : List Input :=
  [allInfeeds.map Input.entry, allInfeeds.map Input.head, allInfeeds.map Input.gateAt, [.checkArrival, .checkExit],
    allSides.map Input.staging, allSides.map Input.wrapper, [.labelArrival, .labelExit, .shuttleLoaded],
    allPositions.map Input.position, [.spurEntry .check, .spurEntry .finish, .spurEnd .check, .spurEnd .finish],
    allLanes.map Input.laneEntry, allLanes.map Input.laneEnd, allLanes.map Input.laneDoor, [.op1, .op2, .key]].flatten

theorem mem_allInputs (i : Input) : i ∈ allInputs := by
  cases i with
  | entry i => cases i <;> simp [allInputs, allInfeeds]
  | head i => cases i <;> simp [allInputs, allInfeeds]
  | gateAt i => cases i <;> simp [allInputs, allInfeeds]
  | staging k => cases k <;> simp [allInputs, allSides]
  | wrapper k => cases k <;> simp [allInputs, allSides]
  | position p => simp [allInputs, mem_allPositions]
  | spurEntry sp => cases sp <;> simp [allInputs]
  | spurEnd sp => cases sp <;> simp [allInputs]
  | laneEntry l => simp [allInputs, mem_allLanes]
  | laneEnd l => simp [allInputs, mem_allLanes]
  | laneDoor l => simp [allInputs, mem_allLanes]
  | _ => simp [allInputs]

theorem input_idx_injective : Function.Injective Input.idx := by
  have e : allInputs.map (fun i => i.idx.val) = List.range 59 := rfl
  intro a b h
  exact List.inj_on_of_nodup_map (e ▸ List.nodup_range) (mem_allInputs a) (mem_allInputs b) (congrArg Fin.val h)

theorem heardInput_input (i j : Input) (b : Bool) : (s.heardInput i b).input j = if j = i then b else s.input j := by
  show tget (tset s.field.filtered i.idx b) j.idx = _
  by_cases h : j = i
  · rw [if_pos h, h, tget_tset_self]
  · rw [if_neg h, tget_tset_of_ne _ _ fun e => h (input_idx_injective e).symm]; rfl

theorem heardInput_timing (i j : Input) (b : Bool) :
    tget (s.heardInput i b).field.timing j.idx = if j = i then none else tget s.field.timing j.idx := by
  show tget (tset s.field.timing i.idx none) j.idx = _
  by_cases h : j = i
  · rw [if_pos h, h, tget_tset_self]
  · rw [if_neg h, tget_tset_of_ne _ _ fun e => h (input_idx_injective e).symm]

/-- The expiry of a filter that has run takes the raw level (R27). -/
theorem exec_inputFilterExpiry {i : Input} (h : tget s.field.timing i.idx = some 0) :
    exec (.inputFilterExpiry i) s = .next (s.filtered i (s.rawLevel i)).settle := by
  show execInputFilterExpiry i s = _
  unfold execInputFilterExpiry
  rw [if_pos (by rw [h]; rfl)]

theorem exec_inputFilterExpiry_running {i : Input} (h : tget s.field.timing i.idx ≠ some 0) : exec (.inputFilterExpiry i) s = .next s := by
  show execInputFilterExpiry i s = _
  unfold execInputFilterExpiry
  rw [if_neg (by simpa using h)]

/-- What a level handed on changes of the line, after `settle` (R28). -/
theorem filtered_settle_keeps (i : Input) (b : Bool) : KeepsAllBut (heard ++ derived) (s.heardInput i b) (s.filtered i b).settle := by
  have k : KeepsAllBut heard (s.heardInput i b) (s.filtered i b) := by rw [filtered_eq]; simp [heard]
  exact (k.mono (by decide)).trans ((settle_keeps _).mono (by decide))

/-- The line with a raw level changed (R27). -/
def State.rawTaken (s : State) (i : Input) (b : Bool) : State := s.modField fun u => { u with raw := tset u.raw i.idx b }

/-- A raw change, case by case (R27). -/
theorem exec_inputChange (i : Input) (b : Bool) (s : State) : exec (.inputChange i b) s =
    .next (if s.rawLevel i = b then s
      else if s.input i = b then (s.rawTaken i b).setTiming i none
      else if s.setting .inputFilter = 0 then ((s.rawTaken i b).filtered i b).settle
      else (s.rawTaken i b).setTiming i (some (s.setting .inputFilter))) := by
  have input : (s.rawTaken i b).input i = s.input i := rfl
  have setting : (s.rawTaken i b).setting .inputFilter = s.setting .inputFilter := rfl
  show execInputChange i b s = _
  unfold execInputChange
  change (if s.rawLevel i == b then (.next s : Answer)
    else if (s.rawTaken i b).input i == b then .next ((s.rawTaken i b).setTiming i none)
    else if (s.rawTaken i b).setting .inputFilter == 0 then .next ((s.rawTaken i b).filtered i b).settle
    else .next ((s.rawTaken i b).setTiming i (some ((s.rawTaken i b).setting .inputFilter)))) = _
  rw [input, setting]
  simp only [beq_iff_eq]
  split_ifs <;> rfl

/-- A timing set twice over is that set last. -/
theorem setTiming_setTiming (i : Input) (a b : Option Nat) : (s.setTiming i a).setTiming i b = s.setTiming i b := by
  have e : tset (tset s.field.timing i.idx a) i.idx b = tset s.field.timing i.idx b := table_ext fun j => by
    by_cases h : i.idx = j
    · subst h; simp only [tget_tset_self]
    · simp only [tget_tset_of_ne _ _ h]
  unfold State.setTiming State.modField
  dsimp only
  rw [e]

/-- The purge hold after the combination's inputs have changed (R32). -/
theorem purgeWatch_cases (s : State) :
    (s.purgeActive = true ∧ s.field.purgeHold = none ∧ s.field.purgeSpent = false
      ∧ s.purgeWatch.field.purgeHold = some 400 ∧ s.purgeWatch.field.purgeSpent = false)
    ∨ (s.purgeActive = true ∧ (s.field.purgeHold.isSome = true ∨ s.field.purgeSpent = true)
      ∧ s.purgeWatch.field.purgeHold = s.field.purgeHold ∧ s.purgeWatch.field.purgeSpent = s.field.purgeSpent)
    ∨ (s.purgeActive = false ∧ s.purgeWatch.field.purgeHold = none ∧ s.purgeWatch.field.purgeSpent = false) := by
  unfold State.purgeWatch
  cases ha : s.purgeActive with
  | false => exact .inr (.inr ⟨rfl, rfl, rfl⟩)
  | true =>
    cases hh : s.field.purgeHold <;> cases hs : s.field.purgeSpent <;> simp [hh, hs, Config.purgeHold]

theorem purgeActive_of_combined (h : PurgeCombined s) : s.purgeActive = true := by
  unfold State.purgeActive
  rcases h with ⟨h, h1, h2⟩ | ⟨h, h1, h2, h3⟩ <;> simp [*]

theorem purgeCombined_of_active (hn : s.setting .purgeCombination ≤ 2) (h : s.purgeActive = true) : PurgeCombined s := by
  unfold State.purgeActive at h
  unfold PurgeCombined
  obtain e | e | e : s.setting .purgeCombination = 0 ∨ s.setting .purgeCombination = 1 ∨ s.setting .purgeCombination = 2 := by omega
  · rw [e] at h; cases h
  · rw [e] at h; exact .inl ⟨e, by simpa using h⟩
  · rw [e] at h; exact .inr ⟨e, by simpa [and_assoc] using h⟩

/-- The expiry of the filter of an input of the combination watches the purge hold (R32). -/
theorem exec_purgeInputExpiry {i : Input} (ht : tget s.field.timing i.idx = some 0) (hi : i = .op1 ∨ i = .op2 ∨ i = .key) :
    exec (.inputFilterExpiry i) s = .next (s.heardInput i (s.rawLevel i)).purgeWatch.settle := by
  rw [exec_inputFilterExpiry ht, filtered_eq]
  rcases hi with rfl | rfl | rfl <;> rfl

/-- Settles O4: a raw change by its cases, the expiry of the filter by what a handed-on level may change. -/
theorem inputsAreFiltered : Obligations.InputsAreFiltered := by
  refine ⟨?change, fun i s => ⟨fun h => ⟨_, exec_inputFilterExpiry h, ?_⟩, exec_inputFilterExpiry_running⟩, ?purge⟩
  case change =>
    rintro i b s r rfl
    rw [exec_inputChange]
    refine ⟨fun h => by rw [if_pos h], fun h1 h2 => by rw [if_neg h1, if_pos h2]; rfl, fun h1 h2 n hn => ?_, fun h1 h2 hn => ?_⟩
    · rw [if_neg h1, if_neg h2, if_neg (by omega), hn]; rfl
    · have timing : tget ((s.rawTaken i b).setTiming i (some 0)).field.timing i.idx = some 0 := tget_tset_self ..
      have raw : ((s.rawTaken i b).setTiming i (some 0)).rawLevel i = b := tget_tset_self ..
      rw [if_neg h1, if_neg h2, if_pos hn]
      refine Eq.symm ((exec_inputFilterExpiry timing).trans ?_)
      rw [raw, filtered_eq, filtered_eq]
      unfold State.heardInput
      rw [setTiming_setTiming]
  case purge =>
    intro i s ht hi
    have k0 := heardInput_keeps (s := s) i (s.rawLevel i)
    have e := exec_purgeInputExpiry ht hi
    generalize s.heardInput i (s.rawLevel i) = u at k0 e
    have kw : KeepsAllBut [.purgeHold] u u.purgeWatch := (keeps_purgeWatch (by decide)).mpr keeps_refl
    have ks := settle_keeps u.purgeWatch
    have k : KeepsAllBut (.purgeHold :: derived) u u.purgeWatch.settle := (kw.mono (by decide)).trans (ks.mono (by decide))
    obtain ⟨hold, spent⟩ := ks .purgeHold (by decide)
    obtain ⟨hold0, spent0⟩ := k0 .purgeHold (by decide)
    have active : u.purgeWatch.settle.purgeActive = u.purgeActive := by
      unfold State.purgeActive
      simp only [k.setting, k.input]
    have combination : u.purgeWatch.settle.setting .purgeCombination = s.setting .purgeCombination := by rw [k.setting, k0.setting]
    refine ⟨_, e, fun hc hn hs => ?_, fun hc hs => ?_, fun hn hc => ?_, (k0.mono (by decide)).trans (k.mono (by decide))⟩
    · have ha := active.symm.trans (purgeActive_of_combined hc)
      rcases purgeWatch_cases u with ⟨-, -, -, h1, h2⟩ | ⟨-, h, -⟩ | ⟨h, -⟩
      · exact ⟨hold.trans h1, spent.trans h2⟩
      · rw [hold0, spent0, hn, hs] at h
        simp at h
      · simp [ha] at h
    · have ha := active.symm.trans (purgeActive_of_combined hc)
      rcases purgeWatch_cases u with ⟨-, h1, h2, -⟩ | ⟨-, -, h1, h2⟩ | ⟨h, -⟩
      · rw [← hold0, ← spent0, h1, h2] at hs
        simp at hs
      · exact ⟨(hold.trans h1).trans hold0, (spent.trans h2).trans spent0⟩
      · simp [ha] at h
    · have ha : u.purgeActive = false := by
        by_contra h
        exact hc (purgeCombined_of_active (combination.le.trans hn) (active.trans (by simpa using h)))
      rcases purgeWatch_cases u with ⟨h, -⟩ | ⟨h, -⟩ | ⟨-, h1, h2⟩
      · simp [ha] at h
      · simp [ha] at h
      · exact ⟨hold.trans h1, spent.trans h2⟩
  · have k0 := heardInput_keeps (s := s) i (s.rawLevel i)
    have k := filtered_settle_keeps (s := s) i (s.rawLevel i)
    have door : (∃ l, i = .laneDoor l) → KeepsAllBut (.filtered :: .timing :: derived) s (s.filtered i (s.rawLevel i)).settle := by
      rintro ⟨l, rfl⟩
      have e : s.filtered (.laneDoor l) (s.rawLevel (.laneDoor l)) = s.heardInput (.laneDoor l) (s.rawLevel (.laneDoor l)) := by
        rw [filtered_eq]; rfl
      rw [e]
      exact (k0.mono (by decide)).trans ((settle_keeps _).mono (by decide))
    generalize (s.filtered i (s.rawLevel i)).settle = t at k door ⊢
    have whole : KeepsAllBut ([.filtered, .timing] ++ heard ++ derived) s t := (k0.mono (by decide)).trans (k.mono (by decide))
    have timing : t.field.timing = (s.heardInput i (s.rawLevel i)).field.timing := k .timing (by decide)
    refine ⟨?_, ?_, fun j hj => ⟨?_, ?_⟩, whole .raw (by decide), whole .settings (by decide), whole .articles (by decide),
      whole .bases (by decide), whole .recipes (by decide), whole .bands (by decide), whole .windows (by decide),
      whole .lineTime (by decide), whole .identity (by decide), whole .receiver (by decide), whole .answering (by decide),
      whole .mode (by decide), door⟩
    · rw [k.input, heardInput_input, if_pos rfl]
    · rw [timing, heardInput_timing, if_pos rfl]
    · rw [k.input, heardInput_input, if_neg hj]
    · rw [timing, heardInput_timing, if_neg hj]

end Sys2Proof.Machine
end

section
/-! SET_SETTING and RESET SETTINGS (R32, R33, R110, R150, R173, R187, R194, R204). -/

namespace Sys2Proof.Machine

open State

variable {bs : List Block} {r s t u : State} {q : Req}

/-! ### The value applied (R110, R150, R194) -/

/-- A value that the setting may hold is applied as it is. -/
theorem applied_of_allows {k : Setting} {w : Nat} (h : k.allows w) : k.applied w = w := by
  have range (k : Setting) (h : k.ends.1 ≤ w ∧ w ≤ k.ends.2) : clampTo k.ends.1 k.ends.2 w = w := by
    unfold clampTo
    rw [if_neg (by omega), if_neg (by omega)]
    simp
  cases k with
  | division => rcases h with rfl | rfl | rfl | rfl <;> rfl
  | printerDepth => rcases h with rfl | rfl <;> rfl
  | _ => exact range _ h

theorem applied_below {k : Setting} {v : Int} (h : v < k.ends.1) : k.applied v = k.ends.1 := by
  have range (k : Setting) (h : v < k.ends.1) : clampTo k.ends.1 k.ends.2 v = k.ends.1 := if_pos h
  cases k with
  | division =>
    have : v ≤ 10 := by simp [Setting.ends] at h; omega
    simp [Setting.applied, Setting.ends, this]
  | printerDepth =>
    have : v ≤ 1 := by simp [Setting.ends] at h; omega
    simp [Setting.applied, Setting.ends, this]
  | _ => exact range _ h

theorem applied_above {k : Setting} {v : Int} (h : (k.ends.2 : Int) < v) : k.applied v = k.ends.2 := by
  have range (k : Setting) (hk : k.ends.1 ≤ k.ends.2) (h : (k.ends.2 : Int) < v) : clampTo k.ends.1 k.ends.2 v = k.ends.2 := by
    unfold clampTo
    rw [if_neg (by omega), if_pos h]
  cases k with
  | division =>
    have : 100 < v := by simpa [Setting.ends] using h
    unfold Setting.applied
    dsimp only
    rw [if_neg (by omega), if_neg (by omega), if_neg (by omega)]
    rfl
  | printerDepth =>
    have : 4 < v := by simpa [Setting.ends] using h
    unfold Setting.applied
    dsimp only
    rw [if_neg (by omega)]
    rfl
  | _ => exact range _ (by simp [Setting.ends]) h

/-- DIVISION takes the least allowed value that is not below the one sent (R110). -/
theorem applied_division {v : Int} (h : v ≤ 100) : v ≤ (Setting.division.applied v : Nat)
    ∧ ∀ b, Setting.division.allows b → v ≤ (b : Nat) → Setting.division.applied v ≤ b := by
  unfold Setting.applied Setting.allows
  dsimp only
  split_ifs <;> refine ⟨by omega, fun b hb hv => ?_⟩ <;> rcases hb with rfl | rfl | rfl | rfl <;> omega

/-! ### What a setting restarts (R32, R33) -/

theorem applySetting_setting (k j : Setting) (v : Nat) : (s.applySetting k v).setting j = if j = k then v else s.setting j := by
  have keep (u : State) : KeepsAllBut [.purgeHold, .wakeHolds] u (u.settingTaken k) := (keeps_settingTaken (by decide)).mpr keeps_refl
  unfold State.applySetting
  rw [(keep _).setting]
  show tget (tset s.settings k.idx v) j.idx = _
  by_cases h : j = k
  · rw [if_pos h, h, tget_tset_self]
  · rw [if_neg h, tget_tset_of_ne _ _ fun e => h (setting_idx_injective e).symm]; rfl

theorem applySetting_keeps_wakes {k : Setting} (h : k ≠ .purgeCombination) (v : Nat) :
    KeepsAllBut [.settings, .wakeHolds] s (s.applySetting k v) := by
  unfold State.applySetting State.settingTaken
  split
  · exact absurd rfl h
  · simp
  · simp

theorem applySetting_keeps_purge {k : Setting} (h : k ≠ .autoWake) (v : Nat) :
    KeepsAllBut [.settings, .purgeHold] s (s.applySetting k v) := by
  unfold State.applySetting State.settingTaken
  split
  · simp
  · exact absurd rfl h
  · simp

theorem applySetting_keeps {k : Setting} (h : k ≠ .purgeCombination) (h' : k ≠ .autoWake) (v : Nat) :
    KeepsAllBut [.settings] s (s.applySetting k v) := fun b hb => by
  by_cases hw : b = .wakeHolds
  · exact applySetting_keeps_purge h' v b (by simp_all)
  · exact applySetting_keeps_wakes h v b (by simp_all)

theorem settledSend_keeps (u : State) (m : Message) : KeepsAllBut (.sent :: derived) u (u.settle.send m) := by
  rw [keeps_send (by simp), keeps_settle (by simp [derived])]
  exact keeps_refl

/-- Abandoned holds start anew in STOPPED (R33). -/
theorem applySetting_wakes {m : Message} (v : Nat) : WakesAnew ((s.applySetting .autoWake v).settle.send m) :=
  startWakes_anew (s := State.stopWakes { s with settings := tset s.settings Setting.autoWake.idx v }) rfl (settledSend_keeps _ m)

theorem purgeCombined_congr (k : KeepsAllBut bs s t) (hs : .settings ∉ bs := by decide) (hf : .filtered ∉ bs := by decide) :
    PurgeCombined t ↔ PurgeCombined s := by
  unfold PurgeCombined
  rw [k.setting _ hs, k.input _ hf, k.input _ hf, k.input _ hf]

/-- The purge hold runs afresh where the new combination is active (R32). -/
theorem applySetting_purge {v : Nat} (hv : v ≤ 2) (k : KeepsAllBut (.sent :: derived) (s.applySetting .purgeCombination v) t) :
    t.field.purgeSpent = false ∧ (PurgeCombined t → t.field.purgeHold = some 400) ∧ (¬ PurgeCombined t → t.field.purgeHold = none) := by
  obtain ⟨hold, spent⟩ := k .purgeHold (by decide)
  have value := applySetting_setting (s := s) .purgeCombination .purgeCombination v
  rw [if_pos rfl] at value
  rw [purgeCombined_congr k, hold, spent]
  have e : s.applySetting .purgeCombination v
      = (State.modField { s with settings := tset s.settings Setting.purgeCombination.idx v }
          fun u => { u with purgeHold := none, purgeSpent := false }).purgeWatch := rfl
  rw [e] at value ⊢
  generalize hu : (State.modField { s with settings := tset s.settings Setting.purgeCombination.idx v }
    fun u => { u with purgeHold := none, purgeSpent := false }) = u at value ⊢
  have kw : KeepsAllBut [.purgeHold] u u.purgeWatch := (keeps_purgeWatch (by decide)).mpr keeps_refl
  obtain ⟨h1, h2⟩ := purgeWatch_purgeHold (s := u) (by rw [← hu]; rfl) (by rw [← hu]; rfl)
  rw [kw.setting] at value
  have iff : u.purgeActive = true ↔ PurgeCombined u := ⟨purgeCombined_of_active (value.le.trans hv), purgeActive_of_combined⟩
  rw [purgeCombined_congr kw, h1, h2, ← iff]
  exact ⟨rfl, fun h => if_pos h, fun h => if_neg h⟩

/-! ### The requests -/

/-- SET_SETTING of a number of R209 takes the value and replies with it (R194). -/
theorem exec_setSetting (h : Addressed q s) (k : Setting) (v : Int) :
    exec (.setSetting q (k.idx.val + 1) v) s = .next ((s.asked.applySetting k (k.applied v)).settle.send
        (s.reply 0x03 (if v = k.applied v then .ok else .okClamped) (.value (k.applied v)))) := by
  have op : setSettingOp (k.idx.val + 1) v s.asked
      = (s.asked.applySetting k (k.applied v), if v = k.applied v then .ok else .okClamped, .value (k.applied v)) := by
    unfold setSettingOp
    rw [settingOf_idx]
    simp only [beq_iff_eq, eq_comm (a := v)]
  show Host.Outcome.next _ = _
  rw [serve_taken h op (by split <;> rfl) (by decide)]

theorem exec_setSetting_refused (h : Addressed q s) {n : Nat} (hn : n = 0 ∨ 33 < n) (v : Int) :
    exec (.setSetting q n v) s = .next (s.answers 0x03 .badArgument .nothing) := by
  have none : settingOf n = none := by
    unfold settingOf
    rw [List.find?_eq_none]
    intro k _
    simp only [beq_iff_eq]
    omega
  refine request_refused rfl h (t := s.asked) ?_ rfl
  unfold setSettingOp
  rw [none]
  rfl

theorem settingsReset_keeps : KeepsAllBut [.mask, .bases, .recipes, .bands, .purgeHold, .wakeHolds, .windows, .settings] s s.settingsReset :=
  (keeps_settingsReset (by decide)).mpr keeps_refl

/-- Everything that RESET SETTINGS restores stands at its default in a state, with the purge hold run afresh (R183). -/
structure AtDefaults (s t : State) : Prop where
  settings : t.settings = defaultSettings
  bases : t.plan.bases = defaultBases
  recipes : t.plan.recipes = defaultRecipes
  bands : t.plan.bands = defaultBands
  windows : t.buffer.windows = defaultWindows
  mask : t.link.mask = Vector.replicate 26 true
  wakeHolds : t.field.wakeHolds = Vector.replicate 3 none
  purgeHold : t.field.purgeHold = if s.input .op1 ∧ s.input .op2 ∧ s.input .key then some 400 else none
  purgeSpent : t.field.purgeSpent = false

/-- A settings reset but for the purge hold, which its end watches anew. -/
def State.defaulted (s : State) : State :=
  { s with
    settings := defaultSettings
    plan := { s.plan with bases := defaultBases, recipes := defaultRecipes, bands := defaultBands }
    buffer := { s.buffer with windows := defaultWindows }
    link := { s.link with mask := Vector.replicate 26 true }
    field := { s.field with purgeHold := none, purgeSpent := false, wakeHolds := Vector.replicate 3 none } }

theorem settingsReset_defaults (s : State) : AtDefaults s s.settingsReset := by
  have e : s.settingsReset = s.defaulted.purgeWatch := rfl
  have k : KeepsAllBut [.purgeHold] s.defaulted s.defaulted.purgeWatch := (keeps_purgeWatch (by decide)).mpr keeps_refl
  have active : s.defaulted.purgeActive = (s.input .op1 && s.input .op2 && s.input .key) := rfl
  obtain ⟨hold, spent⟩ := purgeWatch_purgeHold (s := s.defaulted) rfl rfl
  rw [e]
  refine ⟨k .settings (by decide), k .bases (by decide), k .recipes (by decide), k .bands (by decide), k .windows (by decide),
    k .mask (by decide), k .wakeHolds (by decide), ?_, spent⟩
  rw [hold, active]
  simp [and_assoc]

/-- Settles O48: the value applied, what it restarts, and the settings reset. -/
theorem settingsAreSetAndReset : Obligations.SettingsAreSetAndReset := by
  refine ⟨fun q n v s h => ⟨?set, exec_setSetting_refused h (v := v)⟩, fun q s h => ⟨fun hm => ?reset, fun hm => ?refuse⟩⟩
  case set =>
    rintro k rfl
    have kept (bs : List Block) (kb : KeepsAllBut bs s.asked (s.asked.applySetting k (k.applied v))) := requestKeeps_settle
      (m := s.reply 0x03 (if v = k.applied v then .ok else .okClamped) (.value (k.applied v))) kb
    have set (j : Setting) := applySetting_setting (s := s.asked) k j (k.applied v)
    have ks : KeepsAllBut [.purgeHold, .wakeHolds, .settings] s.asked (s.asked.applySetting k (k.applied v)) :=
      (keeps_applySetting (by decide)).mpr keeps_refl
    refine ⟨_, k.applied v, exec_setSetting h k v, allows_applied k v, ?_, fun j hj => ?_, fun w hw ha => ?_, applied_below, applied_above,
      ?_, ?_, replied_settle (ks .sent (by decide)) (ks .answering (by decide)), fun h1 h2 => kept _ (applySetting_keeps h1 h2 _),
      fun h1 => kept _ (applySetting_keeps_wakes h1 _), fun h1 => kept _ (applySetting_keeps_purge h1 _), ?_, ?_⟩
    · rw [(settledSend_keeps _ _).setting, set, if_pos rfl]
    · rw [(settledSend_keeps _ _).setting, set, if_neg hj]; rfl
    · rw [hw, applied_of_allows ha]
    · rintro rfl hv; exact applied_division hv
    · rintro rfl; rfl
    · rintro rfl; exact applySetting_wakes _
    · rintro rfl
      have bound : Setting.purgeCombination.applied v ≤ 2 := (allows_applied .purgeCombination v).2
      exact applySetting_purge bound (settledSend_keeps _ _)
  case refuse => exact request_refused rfl h (t := s.asked) (if_pos (by simpa using hm)) rfl
  case reset =>
    have op : resetSettingsOp s.asked = (s.asked.settingsReset, .ok, .nothing) := if_neg (by simpa using hm)
    obtain ⟨e, hr, hk⟩ := request_changed (c := .resetSettings q) (kind := 0x42) rfl h op rfl settingsReset_keeps
    have k := settledSend_keeps s.asked.settingsReset (s.reply 0x42 .ok .nothing)
    have d := settingsReset_defaults s.asked
    obtain ⟨hold, spent⟩ := k .purgeHold (by decide)
    refine ⟨_, e, (k .settings (by decide)).trans d.settings, (k .bases (by decide)).trans d.bases, (k .recipes (by decide)).trans d.recipes,
      (k .bands (by decide)).trans d.bands, fun l => ?_, (k .mask (by decide)).trans d.mask, (k .wakeHolds (by decide)).trans d.wakeHolds,
      hold.trans d.purgeHold, spent.trans d.purgeSpent, hr, hk.mono (by decide)⟩
    have windows : _ = _ := k .windows (by decide)
    rw [windows, d.windows]
    exact congrArg Window.size (tget_replicate ..)

end Sys2Proof.Machine
end

section
/-! The end of a speed window (R34, R35, R41). -/

namespace Sys2Proof.Machine

open State

variable {bs : List Block} {r s t u : State} {z : Zone} {st : ZoneState} {g : Nat} {v : Option Int}

/-! ### A zone takes a state (R35) -/

/-- A move in flight of a zone that passes to DEGRADED, its remaining time doubled once (R41). -/
def Move.slowed (z : Zone) (m : Move) : Move :=
  if m.zone = z ∧ m.state = .inFlight ∧ m.doubled = false then { m with left := 2 * m.left, doubled := true } else m

theorem doubleMoves_moves (z : Zone) : (s.doubleMoves z).field.moves = s.field.moves.map (Move.slowed z) := by
  show s.field.moves.map _ = _
  refine List.map_congr_left fun m _ => ?_
  simp [Move.slowed, and_assoc]

theorem doubleMoves_keeps (z : Zone) : KeepsAllBut [.moves] s (s.doubleMoves z) := by simp [State.doubleMoves]

/-- The state, good run and latch a zone takes (R35). -/
def ZoneEntry.taking (e : ZoneEntry) (st : ZoneState) (g : Nat) : ZoneEntry :=
  { e with state := st, goodRun := g, latch := e.latch || (st != e.state && st != .normal) }

theorem setZone_zone (y : Zone) : (s.setZone z st g v).zone y = if y = z then (s.zone z).taking st g else s.zone y := by
  have k (u : State) : KeepsAllBut [.moves] u (if (s.zone z).state == .normal && st == .degraded then u.doubleMoves z else u) := by
    split
    · exact doubleMoves_keeps z
    · exact keeps_refl
  have q (u : State) (n : Note) : KeepsAllBut [.moves, .queue] u
      ((if (s.zone z).state == .normal && st == .degraded then u.doubleMoves z else u).raise .speed n) :=
    (keeps_raise (by decide)).mpr ((k u).mono (by decide))
  unfold State.setZone
  dsimp only
  split
  · exact modZone_zone ..
  · rw [(q _ _).zone]
    exact modZone_zone ..

theorem setZone_moves : (s.setZone z st g v).field.moves
    = if (s.zone z).state = .normal ∧ st = .degraded then s.field.moves.map (Move.slowed z) else s.field.moves := by
  have raised (u : State) (n : Note) : (u.raise .speed n).field.moves = u.field.moves := raise_keeps u .speed n .moves (by decide)
  unfold State.setZone
  dsimp only
  split
  · rename_i h
    have same : st = (s.zone z).state := by simpa using h
    rw [if_neg fun ⟨h1, h2⟩ => by rw [← same, h2] at h1; cases h1]
    rfl
  · rw [raised]
    by_cases c : (s.zone z).state = .normal ∧ st = .degraded
    · rw [if_pos (by simpa using c), if_pos c, doubleMoves_moves]
      rfl
    · rw [if_neg (by simpa using c), if_neg c]
      rfl

/-- A report raised by an operation that has left the queue until then. -/
theorem Queues.raised {k : ReportKind} {n : Note} (h : KeepsAllBut bs s u) (hq : .queue ∉ bs := by decide) (hm : .mask ∉ bs := by decide)
    (ht : .lineTime ∉ bs := by decide) : Queues s (u.raise k n) [s.report k n] := by
  have time : u.lineTime = s.lineTime := h .lineTime ht
  have same : u.report k n = s.report k n := by unfold State.report; rw [time]
  rw [← same]
  exact (Queues.of_keeps h hq hm).trans (.raise k n)

/-- A zone that changes its state raises SPEED (R35). -/
theorem setZone_queues (h : st ≠ (s.zone z).state) :
    Queues s (s.setZone z st g v) [⟨.speed, s.lineTime, none, none, none, 256 * z.number + st.number, v⟩] := by
  have k (u : State) : KeepsAllBut [.moves, .zones] u (if (s.zone z).state == .normal && st == .degraded then u.doubleMoves z else u) := by
    split
    · exact (doubleMoves_keeps z).mono (by decide)
    · exact keeps_refl
  have m (f : ZoneEntry → ZoneEntry) (hf : ∀ e, (f e).drive = e.drive ∧ (f e).edges = e.edges ∧ (f e).windowLeft = e.windowLeft) :
      KeepsAllBut [.moves, .zones] s (s.modZone z f) := (keeps_modZone (.inl (by decide)) (.inr hf)).mpr keeps_refl
  unfold State.setZone
  dsimp only
  rw [if_neg (by simpa using h)]
  refine Queues.raised (KeepsAllBut.trans ?_ (k _))
  exact m _ fun _ => ⟨rfl, rfl, rfl⟩

/-- The next window of a zone, the count of the last kept (R34). -/
def State.windowTaken (s : State) (z : Zone) : State :=
  s.modZone z fun e => { e with edges := 0, windowLeft := Config.speedWindow, last := some e.edges }

theorem windowTaken_zone (z y : Zone) : (s.windowTaken z).zone y
    = if y = z then { s.zone z with edges := 0, windowLeft := Config.speedWindow, last := some (s.zone z).edges } else s.zone y :=
  modZone_zone ..

/-- The outcome of a window, in the words of the table of R35. -/
theorem afterWindow_table (before : ZoneState) (good count expected band : Nat) :
    afterWindow before good (windowClass count expected band) =
      if count = 0 then (.stalled, 0)
      else match before, decide (100 * ((count : Int) - expected).natAbs ≤ band * expected) with
        | .normal, true => (.normal, good)
        | .degraded, true => if good = 2 then (.normal, 0) else (.degraded, good + 1)
        | .stalled, true => (.degraded, 1)
        | _, false => (.degraded, 0) := by
  unfold windowClass
  by_cases h0 : count = 0
  · cases before <;> simp [h0, afterWindow]
  · by_cases hb : 100 * ((count : Int) - expected).natAbs ≤ band * expected
    · cases before <;> simp [h0, hb, afterWindow]
    · cases before <;> simp [h0, hb, afterWindow]

/-- Settles O7: the table of R35 is that of the model, and the zone takes its outcome. -/
theorem speedWindowsDriveTheZoneState : Obligations.SpeedWindowsDriveTheZoneState := by
  rintro z s e rfl hd hw hm
  rcases out : afterWindow (s.zone z).state (s.zone z).goodRun (windowClass (s.zone z).edges (s.expected z) (s.setting .speedBand))
    with ⟨st, good⟩
  have run : exec (.speedWindowEnd z) s = .next ((s.windowTaken z).setZone z st good (some (s.zone z).edges)).settle := by
    show execSpeedWindowEnd z s = _
    unfold execSpeedWindowEnd
    dsimp only
    rw [if_pos (by simp [hd, hw, hm]), out]
    rfl
  have before : ((s.windowTaken z).zone z).state = (s.zone z).state := by rw [windowTaken_zone, if_pos rfl]
  have zone (y : Zone) : ((s.windowTaken z).setZone z st good (some (s.zone z).edges)).zone y
      = if y = z then { s.zone z with state := st, goodRun := good, latch := (s.zone z).latch || (st != (s.zone z).state && st != .normal)
                                      edges := 0, windowLeft := Config.speedWindow, last := some (s.zone z).edges }
        else s.zone y := by
    rw [setZone_zone, windowTaken_zone, windowTaken_zone, if_pos rfl]
    split <;> rfl
  have keep : KeepsAllBut [.zones, .moves, .queue, .outputs] s ((s.windowTaken z).setZone z st good (some (s.zone z).edges)) := by
    simp [State.windowTaken]
  have moves := setZone_moves (s := s.windowTaken z) (z := z) (st := st) (g := good) (v := some (s.zone z).edges)
  rw [before] at moves
  have reports (h : st ≠ (s.zone z).state) := setZone_queues (s := s.windowTaken z) (g := good) (v := some (s.zone z).edges) (before ▸ h)
  generalize (s.windowTaken z).setZone z st good (some (s.zone z).edges) = u at run zone keep moves reports
  have settled (y : Zone) : (u.settle.zone y).state = (u.zone y).state ∧ (u.settle.zone y).goodRun = (u.zone y).goodRun
      ∧ (u.settle.zone y).latch = (u.zone y).latch ∧ (u.settle.zone y).last = (u.zone y).last :=
    settle_keeps u .zones (by decide) y.idx
  obtain ⟨e1, e2, e3, e4⟩ := settled z
  rw [zone, if_pos rfl] at e1 e2 e3 e4
  refine ⟨u.settle, _, run, rfl, e4, ?_, ?_, ?_, fun y hy => ?_, fun ho hne => ?_, ?_⟩
  · rw [e1, e2]
    exact out.symm.trans (afterWindow_table ..)
  · rw [e3, e1]
    simp [bne, Bool.beq_eq_decide_eq]
  · rw [e1, settle_field_moves, moves]
    rfl
  · obtain ⟨h1, h2, h3, h4⟩ := settled y
    rw [zone, if_neg hy] at h1 h2 h3 h4
    exact ⟨h1, h2, h3, h4⟩
  · rw [e1] at hne ⊢
    have taken : KeepsAllBut [.zones, .outputs] s (s.windowTaken z) := by simp [State.windowTaken]
    have q := (Queues.of_keeps taken).trans (reports hne)
    exact q.reported (List.mem_append_right _ (List.mem_singleton_self _)) rfl ⟨rfl, rfl⟩ ho
  · exact (keep.mono (by decide)).trans ((settle_keeps u).mono (by decide))

end Sys2Proof.Machine
end

section
/-! SUPPORT. Quiet and worked off in the words of R176 and R177, and what the changes of mode leave (R33, R174, R177, R178). -/

namespace Sys2Proof.Machine

open State

variable {bs : List Block} {r s t u : State} {p : Report → Prop} {k : ReportKind}

/-! ### Quiet and worked off (R176, R177) -/

theorem busy_eq_false (w : WrapperState) : w.busy = false ↔
    w.status ≠ .running ∧ (w.status = .ordered → ∀ o, w.order = some o → o.sent = false) := by
  unfold WrapperState.busy
  rcases w.order with _ | o
  · simp
  · cases w.status <;> simp

theorem mem_allSides (w : Side) : w ∈ allSides := by cases w <;> decide

theorem quiet_iff : s.quiet = true ↔ Quiet s := by
  unfold State.quiet Quiet
  simp only [Bool.and_eq_true, List.all_eq_true, bne_iff_ne, ne_eq, Option.isNone_iff_eq_none, Bool.not_eq_true', busy_eq_false,
    mem_allSides, forall_const, and_assoc]

theorem drained_iff {x : Record} : x.drained s = true ↔ AtRest s x := by
  unfold Record.drained AtRest
  simp only [Bool.or_eq_true, beq_iff_eq, List.contains_eq_mem, decide_eq_true_eq, or_assoc]
  refine or_congr_right ⟨?_, fun ⟨sp, h⟩ => ?_⟩
  · rintro (h | h)
    · exact ⟨_, h⟩
    · exact ⟨_, h⟩
  · cases sp
    · exact .inl h
    · exact .inr h

theorem drainTest_iff : s.drainTest = true ↔ WorkedOff s := by
  unfold State.drainTest WorkedOff State.undrained State.moveWaiting
  simp only [Bool.and_eq_true, beq_iff_eq, List.length_eq_zero_iff, List.filter_eq_nil_iff, Bool.not_eq_true', Bool.not_eq_false,
    drained_iff, quiet_iff, List.any_eq_false, and_assoc]

/-- The parts that quiet and worked off do not follow from. -/
def offRest : List Block :=
  [.lineTime, .queue, .counters, .address, .straps, .receiver, .answering, .identity, .mask, .articles, .bases, .recipes, .bands, .loads,
   .raw, .filtered, .timing, .estop, .entryTaken, .diverter, .purgeHold, .wakeHolds, .zones, .outputs, .nextNumber, .enabled, .scanners,
   .grant, .printLimit, .buffer, .deadlock, .windows, .lanes, .laneStates, .mode, .settings, .reported, .sent, .freeDraws, .pending]

theorem KeepsAllBut.quiet_same (h : KeepsAllBut offRest s t) : Quiet t ↔ Quiet s := by
  obtain ⟨-, -, -, switch, -⟩ := h .merge (by decide)
  obtain ⟨-, condition, -, jobs, -, purge, -⟩ := h .label (by decide)
  unfold Quiet
  rw [show t.field.moves = _ from h .moves (by decide), switch, show t.check = _ from h .check (by decide),
    show t.mass = _ from h .mass (by decide), condition, jobs, purge]
  simp only [h.wrapper]

theorem KeepsAllBut.workedOff_same (h : KeepsAllBut offRest s t) : WorkedOff t ↔ WorkedOff s := by
  unfold WorkedOff AtRest
  rw [h.quiet_same, show t.field.moves = _ from h .moves (by decide), show t.track.records = _ from h .records (by decide)]
  simp only [h.place]

/-! ### Reports that stay queued (R197) -/

theorem Reported.grows {q : Report → Prop} (h : Reported s k p) (g : Grows q s t) : Reported t k p := by
  obtain ⟨x, hx, hk⟩ := h
  obtain ⟨rest, e, -⟩ := g
  exact ⟨x, by rw [e]; simp [hx], hk⟩

theorem Reported.settle (h : Reported s k p) : Reported s.settle k p := h.grows (settle_grows s)

/-- A report that an operation queues stands in the queue after it. -/
theorem Queues.stands {new : List Report} {x : Report} (h : Queues s t new) (hx : x ∈ new) (hk : x.kind = k) (hp : p x) (ho : QueueOpen s)
    (hn : new.length ≤ 32 := by simp) : Reported t k p := by
  have := ho.2
  exact ⟨x, by rw [h.reports ho.1 (by omega)]; simp [hx], hk, hp⟩

/-- The reports of the start of watching follow those queued before (R29, R55). -/
theorem createRecord_grows (i : Infeed) : Grows (fun _ => True) s (s.createRecord i) := by
  unfold State.createRecord
  dsimp only
  have k1 (a : TrackTable → TrackTable) (b : PlaceEntry → PlaceEntry) (p : Place)  (c : Bool) :
      Grows (fun _ => True) s (((s.modTrack a).setTaken i c).modPlace p b) :=
    .of_keeps (bs := [.records, .nextNumber, .enabled, .scanners, .places, .entryTaken]) (by simp)
  exact ((k1 ..).trans (.raise trivial)).trans (.of_keeps (bs := [.scanners, .sent]) ((keeps_askRead (by decide)).mpr keeps_refl))

theorem watch_grows (i : Infeed) : Grows (fun _ => True) s (s.watch i) := by
  unfold State.watch State.arrive
  split
  · split
    · split
      · exact .raise trivial
      · exact createRecord_grows i
    · exact .refl s
  · exact .refl s

theorem watchAll_grows (s : State) : Grows (fun _ => True) s s.watchAll := .foldl (fun _ i => watch_grows i) allInfeeds s

theorem pursueGrant_grows (s : State) : Grows (fun _ => True) s s.pursueGrant :=
  .of_keeps (bs := [.places, .moves, .records, .merge, .check]) ((keeps_pursueGrant (by decide)).mpr keeps_refl)

/-! ### The changes of mode (R33, R174, R177, R178) -/

/-- MODE_CHANGE of a mode and a cause (R174). -/
def modeReport (at' : LineTime) (m : LineMode) (c : ModeCause) : Report := ⟨.modeChange, at', none, none, none, m.number, some c.number⟩

theorem setDrain_keeps (d : Option Nat) : KeepsAllBut [.mode] s (s.setDrain d) := by simp [State.setDrain]

theorem setDrain_changeMode_queues (d : Option Nat) (m : LineMode) (c : ModeCause) :
    Queues s ((s.setDrain d).changeMode m c) [modeReport s.lineTime m c] :=
  (Queues.of_keeps (setDrain_keeps d)).trans (changeMode_queues m c)

theorem changeMode_grows (m : LineMode) (c : ModeCause) : Grows (fun _ => True) s (s.changeMode m c) := by
  have raised (u : State) (n : Note) : Grows (fun _ => True) u ((u.modMode fun x => { x with mode := m }).raise .modeChange n) :=
    (Grows.of_keeps (bs := [.mode]) (by simp)).trans (.raise trivial)
  unfold State.changeMode
  split
  · exact raised s _
  · exact (Grows.of_keeps (bs := [.wakeHolds]) ((keeps_stopWakes (by decide)).mpr keeps_refl)).trans (raised _ _)

theorem startWakes_keeps (s : State) : KeepsAllBut [.wakeHolds] s s.startWakes := (keeps_startWakes (by decide)).mpr keeps_refl

theorem enterStopped_keeps (c : ModeCause) : KeepsAllBut [.mode, .wakeHolds, .queue] s (s.enterStopped c) := by simp

theorem enterStopped_queues (c : ModeCause) : Queues s (s.enterStopped c) [modeReport s.lineTime .stopped c] :=
  (setDrain_changeMode_queues none .stopped c).trans (.of_keeps (startWakes_keeps _))

theorem enterStopped_grows (c : ModeCause) : Grows (fun _ => True) s (s.enterStopped c) :=
  ((Grows.of_keeps (setDrain_keeps none)).trans (changeMode_grows .stopped c)).trans (.of_keeps (startWakes_keeps _))

/-- On entering STOPPED a wake hold starts where its conditions hold, and another stays (R33). -/
theorem enterStopped_hold (c : ModeCause) (i : Infeed) : tget (s.enterStopped c).field.wakeHolds i.idx =
    if s.setting .autoWake = 1 ∧ tget s.track.enabled i.idx = true ∧ s.input (.entry i) = true
    then some (s.setting .wakeHold) else tget s.field.wakeHolds i.idx := by
  have h : KeepsAllBut [.mode, .wakeHolds, .queue] s ((s.setDrain none).changeMode .stopped c) := by simp
  have mode : ((s.setDrain none).changeMode .stopped c).mode.mode = .stopped := by simp
  have holds : ((s.setDrain none).changeMode .stopped c).field.wakeHolds = s.field.wakeHolds :=
    (changeMode_wakeHolds .stopped c).trans (if_pos rfl)
  unfold State.enterStopped
  rw [startWakes_hold, mode, h.setting, h.setting, h.input, show _ = s.track.enabled from h .enabled (by decide), holds]
  simp

/-- The holds that stand where they started on entering STOPPED. -/
theorem enterStopped_wakeStarts (c : ModeCause) (k : KeepsAllBut bs (s.enterStopped c) t) (i : Infeed) (hw : .wakeHolds ∉ bs := by decide)
    (hs : .settings ∉ bs := by decide) (he : .enabled ∉ bs := by decide) (hi : .filtered ∉ bs := by decide) :
    WakeStarts t i (tget s.field.wakeHolds i.idx) := by
  have h := enterStopped_keeps (s := s) c
  unfold WakeStarts
  rw [show t.field.wakeHolds = _ from k .wakeHolds hw, show t.track.enabled = _ from k .enabled he, k.setting _ hs, k.setting _ hs,
    k.input _ hi, enterStopped_hold, h.setting, h.setting, h.input, show (s.enterStopped c).track.enabled = _ from h .enabled (by decide)]

/-- Holds abandoned before the line enters STOPPED start anew there (R33). -/
theorem enterStopped_anew (c : ModeCause) (hn : s.field.wakeHolds = Vector.replicate 3 none) (k : KeepsAllBut bs (s.enterStopped c) t)
    (hm : .mode ∉ bs := by decide) (hw : .wakeHolds ∉ bs := by decide) (hs : .settings ∉ bs := by decide) (he : .enabled ∉ bs := by decide)
    (hi : .filtered ∉ bs := by decide) : WakesAnew t := by
  intro i
  have h := enterStopped_wakeStarts c k i hw hs he hi
  rw [hn, tget_replicate] at h
  have mode : t.mode.mode = .stopped := by rw [show t.mode = _ from k .mode hm, enterStopped_mode]
  exact ⟨fun _ => h, fun hne => absurd mode hne⟩

/-- With the holds abandoned outside STOPPED, none stands (R33). -/
theorem wakesAnew_of_none (h : t.field.wakeHolds = Vector.replicate 3 none) (hm : t.mode.mode ≠ .stopped) : WakesAnew t := fun i =>
  ⟨fun e => absurd e hm, fun _ => by rw [h, tget_replicate]⟩

theorem enterRun_keeps (c : ModeCause) :
    KeepsAllBut [.queue, .entryTaken, .wakeHolds, .places, .moves, .records, .nextNumber, .scanners, .merge, .check, .mode, .sent] s
      (s.enterRun c) := (keeps_enterRun (by decide)).mpr keeps_refl

theorem enterRun_wakeHolds (c : ModeCause) : (s.enterRun c).field.wakeHolds = Vector.replicate 3 none := by
  have h (u : State) : KeepsAllBut [.queue, .entryTaken, .places, .moves, .records, .nextNumber, .scanners, .merge, .check, .sent] u
      u.watchAll.pursueGrant := by simp
  exact (h _ .wakeHolds (by decide)).trans ((changeMode_wakeHolds .run c).trans (if_neg (by decide)))

theorem enterRun_reported (c : ModeCause) (ho : QueueOpen s) :
    Reported (s.enterRun c) .modeChange fun x => x.detail = 1 ∧ x.value = some (c.number : Int) :=
  ((setDrain_changeMode_queues none .run c).stands (List.mem_singleton_self _) rfl ⟨rfl, rfl⟩ ho).grows
    ((watchAll_grows _).trans (pursueGrant_grows _))

end Sys2Proof.Machine
end

section
/-! SET_MODE, and the ends of drains, stops and wake holds (R33, R174, R175, R177 to R179, R185). -/

namespace Sys2Proof.Machine

open State

variable {bs : List Block} {r s t u : State} {q : Req}

/-! ### SET_MODE (R185) -/

theorem setRun_taken (hm : s.mode.mode = .stopped ∨ s.mode.mode = .drain) (hi : s.link.identity.isSome = true) :
    setRun s = (s.enterRun .setMode, .ok, .mode .run) := by
  have h1 : (s.mode.mode != .stopped && s.mode.mode != .drain) = false := by rcases hm with h | h <;> simp [h]
  have h2 : s.link.identity.isNone = false := by simpa using hi
  unfold setRun
  rw [h1, h2]
  simp

/-- SET_MODE RUN of a line with its identity makes it run (R33, R175, R185). -/
theorem setModeRun_runs (h : Addressed q s) (hm : s.mode.mode = .stopped ∨ s.mode.mode = .drain) (hi : s.link.identity.isSome = true) :
    ∃ t, exec (.setModeRun q) s = .next t ∧ t.mode = { s.mode with mode := .run, drain := none }
      ∧ t.link.answering = true ∧ t.sent.getLast? = some (.reply s.link.address 0xC0 .ok (.mode .run))
      ∧ (QueueOpen s → Reported t .modeChange fun x => x.detail = 1 ∧ x.value = some 1)
      ∧ WakesAnew t
      ∧ RequestKeeps [.mode, .wakeHolds, .entryTaken, .places, .moves, .records, .nextNumber, .scanners, .merge, .check] s t := by
  have keep := enterRun_keeps (s := s.asked) .setMode
  have k := settledSend_keeps (s.asked.enterRun .setMode) (s.reply 0x40 .ok (.mode .run))
  have run : exec (.setModeRun q) s = .next ((s.asked.enterRun .setMode).settle.send (s.reply 0x40 .ok (.mode .run))) := by
    show Host.Outcome.next _ = _
    rw [serve_taken h (setRun_taken (s := s.asked) hm hi) rfl (by decide)]
  have mode : ((s.asked.enterRun .setMode).settle.send (s.reply 0x40 .ok (.mode .run))).mode = ⟨.run, s.mode.saved, none⟩ := by
    rw [show _ = _ from k .mode (by decide), enterRun_mode]
    rfl
  refine ⟨_, run, mode, ?_, ?_, fun ho => ?_, ?_, ?_⟩
  · exact (k .answering (by decide)).trans (keep .answering (by decide))
  · simp [State.send, State.reply]
  · exact (enterRun_reported (s := s.asked) .setMode ho).settle.send _
  · exact wakesAnew_of_none ((k .wakeHolds (by decide)).trans (enterRun_wakeHolds .setMode)) (by rw [mode]; simp)
  · exact (requestKeeps_settle keep).mono (by decide)

theorem setDrainMode_taken (hm : s.mode.mode = .run) : setDrainMode s
    = ((((s.setDrain (some (s.setting .drainLimit))).changeMode .drain .setMode).pursueGrant.testDrain), .ok,
      .mode (((s.setDrain (some (s.setting .drainLimit))).changeMode .drain .setMode).pursueGrant.testDrain).mode.mode) := by
  unfold setDrainMode
  rw [if_neg (by simp [hm])]

/-- The drain test at the entry into DRAIN leaves the line there, or stopped where it passes (R177). -/
theorem testDrain_cases (s : State) : (¬ WorkedOff s ∧ s.testDrain = s) ∨ (WorkedOff s ∧ s.testDrain = s.enterStopped .drained) := by
  unfold State.testDrain
  by_cases h : s.drainTest = true
  · exact .inr ⟨drainTest_iff.mp h, if_pos h⟩
  · exact .inl ⟨mt drainTest_iff.mpr h, if_neg h⟩

theorem testStop_cases (s : State) : (¬ Quiet s ∧ s.testStop = s) ∨ (Quiet s ∧ s.testStop = s.enterStopped .stopped) := by
  unfold State.testStop
  by_cases h : s.quiet = true
  · exact .inr ⟨quiet_iff.mp h, if_pos h⟩
  · exact .inl ⟨mt quiet_iff.mpr h, if_neg h⟩

theorem testDrain_keeps (s : State) : KeepsAllBut [.mode, .wakeHolds, .queue] s s.testDrain := by
  rcases testDrain_cases s with ⟨-, e⟩ | ⟨-, e⟩ <;> rw [e]
  · exact keeps_refl
  · exact enterStopped_keeps _

theorem testStop_keeps (s : State) : KeepsAllBut [.mode, .wakeHolds, .queue] s s.testStop := by
  rcases testStop_cases s with ⟨-, e⟩ | ⟨-, e⟩ <;> rw [e]
  · exact keeps_refl
  · exact enterStopped_keeps _

theorem testDrain_grows (s : State) : Grows (fun _ => True) s s.testDrain := by
  rcases testDrain_cases s with ⟨-, e⟩ | ⟨-, e⟩ <;> rw [e]
  · exact .refl s
  · exact enterStopped_grows _

theorem testStop_grows (s : State) : Grows (fun _ => True) s s.testStop := by
  rcases testStop_cases s with ⟨-, e⟩ | ⟨-, e⟩ <;> rw [e]
  · exact .refl s
  · exact enterStopped_grows _

/-- Holds abandoned before the drain test stand anew after it. -/
theorem testDrain_anew (hn : s.field.wakeHolds = Vector.replicate 3 none) (hm : s.mode.mode ≠ .stopped)
    (k : KeepsAllBut (.sent :: derived) s.testDrain t) : WakesAnew t := by
  rcases testDrain_cases s with ⟨-, e⟩ | ⟨-, e⟩ <;> rw [e] at k
  · exact wakesAnew_of_none ((k .wakeHolds (by decide)).trans hn) (by rw [show t.mode = _ from k .mode (by decide)]; exact hm)
  · exact enterStopped_anew .drained hn k

theorem testStop_anew (hn : s.field.wakeHolds = Vector.replicate 3 none) (hm : s.mode.mode ≠ .stopped)
    (k : KeepsAllBut (.sent :: derived) s.testStop t) : WakesAnew t := by
  rcases testStop_cases s with ⟨-, e⟩ | ⟨-, e⟩ <;> rw [e] at k
  · exact wakesAnew_of_none ((k .wakeHolds (by decide)).trans hn) (by rw [show t.mode = _ from k .mode (by decide)]; exact hm)
  · exact enterStopped_anew .stopped hn k

/-- The line at its entry into DRAIN, the waiting grant taken up and the test not yet made (R177). -/
def State.draining (s : State) : State :=
  ((s.setDrain (some (s.setting .drainLimit))).changeMode .drain .setMode).pursueGrant

theorem draining_keeps (s : State) : KeepsAllBut [.mode, .wakeHolds, .queue, .places, .moves, .records, .merge, .check] s s.draining := by
  simp [State.draining]

theorem draining_mode (s : State) : s.draining.mode = ⟨.drain, s.mode.saved, some (s.setting .drainLimit)⟩ := by simp [State.draining]

theorem draining_wakeHolds (s : State) : s.draining.field.wakeHolds = Vector.replicate 3 none := by
  have k (u : State) : KeepsAllBut [.places, .moves, .records, .merge, .check] u u.pursueGrant := (keeps_pursueGrant (by decide)).mpr keeps_refl
  exact (k _ .wakeHolds (by decide)).trans ((changeMode_wakeHolds .drain .setMode).trans (if_neg (by decide)))

/-- SET_MODE DRAIN of a running line drains it, or stops it at once where it is worked off (R177, R185). -/
theorem setModeDrain_drains (h : Addressed q s) (hm : s.mode.mode = .run) :
    ∃ t, exec (.setModeDrain q) s = .next t
      ∧ ((¬ WorkedOff t ∧ t.mode = { s.mode with mode := .drain, drain := some (s.setting .drainLimit) })
          ∨ (WorkedOff t ∧ t.mode = { s.mode with mode := .stopped, drain := none }))
      ∧ Replied s t 0x40 .ok (.mode t.mode.mode)
      ∧ (QueueOpen s → Reported t .modeChange fun x => x.detail = 2 ∧ x.value = some 1)
      ∧ WakesAnew t
      ∧ RequestKeeps [.mode, .wakeHolds, .places, .moves, .records, .merge, .check] s t := by
  have op : setDrainMode s.asked = (s.asked.draining.testDrain, .ok, .mode s.asked.draining.testDrain.mode.mode) := setDrainMode_taken hm
  have keep : KeepsAllBut [.mode, .wakeHolds, .queue, .places, .moves, .records, .merge, .check] s.asked s.asked.draining.testDrain :=
    (draining_keeps _).trans ((testDrain_keeps _).mono (by decide))
  obtain ⟨run, replied, kept⟩ := request_changed (c := .setModeDrain q) rfl h op rfl keep
  have k := settledSend_keeps s.asked.draining.testDrain (s.reply 0x40 .ok (.mode s.asked.draining.testDrain.mode.mode))
  have mode := k .mode (by decide)
  have rest := ((testDrain_keeps s.asked.draining).mono (cs := offRest) (by decide)).trans (k.mono (by decide))
  have entered := draining_mode s.asked
  refine ⟨_, run, ?_, ?_, fun ho => ?_, ?_, kept.mono (by decide)⟩
  · rw [rest.workedOff_same, show _ = _ from mode]
    rcases testDrain_cases s.asked.draining with ⟨hw, e⟩ | ⟨hw, e⟩ <;> rw [e]
    · exact .inl ⟨hw, entered⟩
    · exact .inr ⟨hw, by rw [enterStopped_mode, entered]; rfl⟩
  · rw [show _ = _ from mode]
    exact replied
  · have queued := (setDrain_changeMode_queues (s := s.asked) (some (s.setting .drainLimit)) .drain .setMode).stands
      (p := fun x => x.detail = 2 ∧ x.value = some 1) (List.mem_singleton_self _) rfl ⟨rfl, rfl⟩ ho
    exact ((queued.grows (pursueGrant_grows _)).grows (testDrain_grows _)).settle.send _
  · exact testDrain_anew (draining_wakeHolds _) (by rw [entered]; simp) k

/-- The line at its entry into STOPPING, the test not yet made (R178). -/
def State.stopping (s : State) : State := (s.setDrain none).changeMode .stopping .setMode

theorem stopping_keeps (s : State) : KeepsAllBut [.mode, .wakeHolds, .queue] s s.stopping := by simp [State.stopping]

theorem stopping_mode (s : State) : s.stopping.mode = ⟨.stopping, s.mode.saved, none⟩ := by simp [State.stopping]

theorem stopping_wakeHolds (s : State) : s.stopping.field.wakeHolds = Vector.replicate 3 none :=
  (changeMode_wakeHolds .stopping .setMode).trans (if_neg (by decide))

theorem setStop_taken (hm : s.mode.mode = .run ∨ s.mode.mode = .drain) :
    setStop s = (s.stopping.testStop, .ok, .mode s.stopping.testStop.mode.mode) := by
  have working : s.working = true := working_iff.mpr hm
  unfold setStop
  rw [working]
  rfl

/-- SET_MODE STOP of a line at work stops it, at once where it is quiet (R178, R185). -/
theorem setModeStop_stops (h : Addressed q s) (hm : s.mode.mode = .run ∨ s.mode.mode = .drain) :
    ∃ t, exec (.setModeStop q) s = .next t
      ∧ ((¬ Quiet s ∧ t.mode = { s.mode with mode := .stopping, drain := none })
          ∨ (Quiet s ∧ t.mode = { s.mode with mode := .stopped, drain := none }))
      ∧ Replied s t 0x40 .ok (.mode t.mode.mode)
      ∧ (QueueOpen s → Reported t .modeChange fun x => x.detail = 3 ∧ x.value = some 1)
      ∧ (QueueOpen s → Quiet s → Reported t .modeChange fun x => x.detail = 0 ∧ x.value = some 5)
      ∧ WakesAnew t
      ∧ RequestKeeps [.mode, .wakeHolds] s t := by
  have op : setStop s.asked = (s.asked.stopping.testStop, .ok, .mode s.asked.stopping.testStop.mode.mode) := setStop_taken hm
  have keep : KeepsAllBut [.mode, .wakeHolds, .queue] s.asked s.asked.stopping.testStop :=
    (stopping_keeps _).trans ((testStop_keeps _).mono (by decide))
  obtain ⟨run, replied, kept⟩ := request_changed (c := .setModeStop q) rfl h op rfl keep
  have k := settledSend_keeps s.asked.stopping.testStop (s.reply 0x40 .ok (.mode s.asked.stopping.testStop.mode.mode))
  have mode := k .mode (by decide)
  have quiet : Quiet s.asked.stopping ↔ Quiet s := ((stopping_keeps s.asked).mono (cs := offRest) (by decide)).quiet_same
  have entered := stopping_mode s.asked
  have queued : Queues s.asked s.asked.stopping [modeReport s.lineTime .stopping .setMode] := setDrain_changeMode_queues none .stopping .setMode
  refine ⟨_, run, ?_, ?_, fun ho => ?_, fun ho hq => ?_, ?_, kept.mono (by decide)⟩
  · rw [show _ = _ from mode, ← quiet]
    rcases testStop_cases s.asked.stopping with ⟨hw, e⟩ | ⟨hw, e⟩ <;> rw [e]
    · exact .inl ⟨hw, entered⟩
    · exact .inr ⟨hw, by rw [enterStopped_mode, entered]; rfl⟩
  · rw [show _ = _ from mode]
    exact replied
  · have first := queued.stands (p := fun x => x.detail = 3 ∧ x.value = some 1) (List.mem_singleton_self _) rfl ⟨rfl, rfl⟩ ho
    exact (first.grows (testStop_grows _)).settle.send _
  · have e : s.asked.stopping.testStop = s.asked.stopping.enterStopped .stopped := by
      rcases testStop_cases s.asked.stopping with ⟨hw, -⟩ | ⟨-, e⟩
      · exact absurd (quiet.mpr hq) hw
      · exact e
    have queues := queued.trans (enterStopped_queues .stopped)
    rw [← e] at queues
    exact queues.requestReported (List.mem_append_right _ (List.mem_singleton_self _)) rfl ⟨rfl, rfl⟩ ho
  · exact testStop_anew (stopping_wakeHolds _) (by rw [entered]; simp) k

/-- Settles O42: the three requests of SET_MODE, each taken in the modes of R185 and refused in the others. -/
theorem setModeRunsDrainsAndStops : Obligations.SetModeRunsDrainsAndStops := by
  intro q s h
  refine ⟨setModeRun_runs h, fun hm hi => ?_, fun h1 h2 => ?_, setModeDrain_drains h, fun hm => ?_, setModeStop_stops h, fun h1 h2 => ?_⟩
  · have h1 : (s.asked.mode.mode != .stopped && s.asked.mode.mode != .drain) = false := by rcases hm with h | h <;> simp [h]
    refine request_refused rfl h (t := s.asked) ?_ rfl
    unfold setRun
    rw [h1]
    simp [refuse, hi]
  · exact request_refused rfl h (t := s.asked) (if_pos (by simp [h1, h2])) rfl
  · exact request_refused rfl h (t := s.asked) (if_pos (by simpa using hm)) rfl
  · have idle : s.asked.working = false := Bool.eq_false_iff.mpr fun e => (working_iff.mp e).elim h1 h2
    refine request_refused rfl h (t := s.asked) ?_ rfl
    unfold setStop
    rw [idle]
    rfl

/-! ### The ends of drains and stops (R177, R178) -/

/-- The line enters STOPPED by the end of a drain or of a stop. -/
theorem enterStopped_ends (cause : ModeCause) : (s.enterStopped cause).settle.mode = { s.mode with mode := .stopped, drain := none }
    ∧ (QueueOpen s → Reported (s.enterStopped cause).settle .modeChange fun x => x.detail = 0 ∧ x.value = some (cause.number : Int))
    ∧ (∀ j : Infeed, WakeStarts (s.enterStopped cause).settle j (tget s.field.wakeHolds j.idx))
    ∧ KeepsAllBut ([.mode, .wakeHolds] ++ derived) s (s.enterStopped cause).settle := by
  have k := settle_keeps (s.enterStopped cause)
  refine ⟨by rw [settle_mode, enterStopped_mode], fun ho => ?_, fun j => enterStopped_wakeStarts cause k j, ?_⟩
  · exact ((enterStopped_queues cause).stands (List.mem_singleton_self _) rfl ⟨rfl, rfl⟩ ho).settle
  · exact ((enterStopped_keeps cause).mono (by decide)).trans (k.mono (by decide))

theorem exec_drainCompleted (s : State) : (s.mode.mode = .drain ∧ WorkedOff s → exec .drainCompleted s = .next (s.enterStopped .drained).settle)
    ∧ (¬ (s.mode.mode = .drain ∧ WorkedOff s) → exec .drainCompleted s = .next s) := by
  have c : (s.mode.mode == .drain && s.drainTest) = true ↔ s.mode.mode = .drain ∧ WorkedOff s := by simp [drainTest_iff]
  exact ⟨fun h => if_pos (c.mpr h), fun h => if_neg (mt c.mp h)⟩

theorem exec_stopCompleted (s : State) : (s.mode.mode = .stopping ∧ Quiet s → exec .stopCompleted s = .next (s.enterStopped .stopped).settle)
    ∧ (¬ (s.mode.mode = .stopping ∧ Quiet s) → exec .stopCompleted s = .next s) := by
  have c : (s.mode.mode == .stopping && s.quiet) = true ↔ s.mode.mode = .stopping ∧ Quiet s := by simp [quiet_iff]
  exact ⟨fun h => if_pos (c.mpr h), fun h => if_neg (mt c.mp h)⟩

/-! ### The drain limit (R177) -/

theorem exec_drainLimitExpiry (h1 : s.mode.mode = .drain) (h2 : s.mode.drain = some 0) : exec .drainLimitExpiry s = .next s.failDrain.settle :=
  if_pos (by simp [h1, h2])

theorem exec_drainLimitExpiry_idle (h : s.mode.mode ≠ .drain ∨ s.mode.drain ≠ some 0) : exec .drainLimitExpiry s = .next s := by
  refine if_neg fun c => ?_
  rw [Bool.and_eq_true, beq_iff_eq, beq_iff_eq] at c
  exact h.elim (· c.1) (· c.2)

/-- The line back in RUN with DRAIN_FAILED raised, the start of watching not yet made. -/
def State.drainLost (s : State) : State :=
  ((s.drainDetail.1.setDrain none).changeMode .run .drainExpired).raise .drainFailed
    { detail := s.drainDetail.2, value := some s.drainDetail.1.undrained }

theorem failDrain_eq (s : State) : s.failDrain = s.drainLost.watchAll.pursueGrant := rfl

theorem drainDetail_keeps (s : State) : KeepsAllBut [.freeDraws] s s.drainDetail.1 := (keeps_drainDetail (by decide)).mpr keeps_refl

theorem drainLost_keeps (s : State) : KeepsAllBut [.mode, .wakeHolds, .queue, .freeDraws] s s.drainLost := by
  simp [State.drainLost]

theorem failDrain_keeps (s : State) : KeepsAllBut [.queue, .entryTaken, .wakeHolds, .places, .moves, .records, .nextNumber, .scanners, .merge,
    .check, .mode, .sent, .freeDraws] s s.failDrain := (keeps_failDrain (by decide)).mpr keeps_refl

/-- The records neither HELD nor in a reject spur (R177). -/
def State.unrested (s : State) : List Record := s.track.records.filter fun r => !r.drained s

theorem mem_unrested {x : Record} : x ∈ s.unrested ↔ x ∈ s.track.records ∧ ¬ AtRest s x := by
  rw [← drained_iff]
  simp [State.unrested]

theorem drainDetail_undrained (s : State) : s.drainDetail.1.undrained = s.unrested.length := by
  have k := drainDetail_keeps s
  unfold State.undrained State.unrested Record.drained
  simp only [k.place, show s.drainDetail.1.track.records = _ from k .records (by decide)]

theorem drainDetail_detail (s : State) : (s.unrested ≠ [] → s.drainDetail.2 = 1)
    ∧ (s.unrested = [] → (∃ m ∈ s.field.moves, m.state = .waiting) ∨ ¬ Quiet s → s.drainDetail.2 = 2) := by
  have empty : (s.undrained != 0) = true ↔ s.unrested ≠ [] := by simp [State.undrained, State.unrested]
  have held : (s.moveWaiting || !s.quiet) = true ↔ (∃ m ∈ s.field.moves, m.state = .waiting) ∨ ¬ Quiet s := by
    rw [← quiet_iff]
    simp [State.moveWaiting]
  unfold State.drainDetail
  refine ⟨fun h => by rw [if_pos (empty.mpr h)], fun h1 h2 => ?_⟩
  rw [if_neg (by rw [empty]; exact not_not.mpr h1), if_pos (held.mpr h2)]

/-- The reports of a drain that fails: the line back in RUN, and DRAIN_FAILED (R177). -/
theorem drainLost_queues (s : State) : Queues s s.drainLost [modeReport s.lineTime .run .drainExpired,
    ⟨.drainFailed, s.lineTime, none, none, none, s.drainDetail.2, some s.unrested.length⟩] := by
  have k := drainDetail_keeps s
  have q := (Queues.of_keeps k).trans (setDrain_changeMode_queues none .run .drainExpired)
  have kc : KeepsAllBut [.mode, .wakeHolds, .queue] s.drainDetail.1 ((s.drainDetail.1.setDrain none).changeMode .run .drainExpired) := by simp
  have time : ((s.drainDetail.1.setDrain none).changeMode .run .drainExpired).lineTime = s.lineTime :=
    (kc .lineTime (by decide)).trans (k .lineTime (by decide))
  have all := q.trans (.raise .drainFailed { detail := s.drainDetail.2, value := some s.drainDetail.1.undrained })
  unfold State.report at all
  rw [time, show s.drainDetail.1.lineTime = _ from k .lineTime (by decide), drainDetail_undrained] at all
  unfold State.drainLost
  rw [drainDetail_undrained]
  exact all

theorem drainLost_wakeHolds (s : State) : s.drainLost.field.wakeHolds = Vector.replicate 3 none := by
  have raised (u : State) (n : Note) : (u.raise .drainFailed n).field.wakeHolds = u.field.wakeHolds := raise_keeps _ _ _ .wakeHolds (by decide)
  unfold State.drainLost
  rw [raised, changeMode_wakeHolds, if_neg (by decide)]

theorem failDrain_wakeHolds (s : State) : s.failDrain.field.wakeHolds = Vector.replicate 3 none := by
  have h (u : State) : KeepsAllBut [.queue, .entryTaken, .places, .moves, .records, .nextNumber, .scanners, .merge, .check, .sent] u
      u.watchAll.pursueGrant := by simp
  have e : s.drainLost.watchAll.pursueGrant.field.wakeHolds = s.drainLost.field.wakeHolds := h _ .wakeHolds (by decide)
  rw [failDrain_eq, e, drainLost_wakeHolds]

/-! ### Wake holds that run out (R33, R179) -/

theorem exec_wakeHoldExpiry {i : Infeed} (h1 : tget s.field.wakeHolds i.idx = some 0) (h2 : s.mode.mode = .stopped) :
    exec (.wakeHoldExpiry i) s
      = .next (if s.link.identity.isSome then (s.stopWakes.enterRun .autoWake).settle else s.stopWakes) := by
  show execWakeHoldExpiry i s = _
  unfold execWakeHoldExpiry
  rw [if_pos (by simp [h1, h2])]
  show (if s.link.identity.isSome then _ else _) = _
  split <;> rfl

theorem exec_wakeHoldExpiry_idle {i : Infeed} (h : tget s.field.wakeHolds i.idx ≠ some 0 ∨ s.mode.mode ≠ .stopped) :
    exec (.wakeHoldExpiry i) s = .next s := by
  refine if_neg fun c => ?_
  rw [Bool.and_eq_true, beq_iff_eq, beq_iff_eq] at c
  exact h.elim (· c.1) (· c.2)

theorem stopWakes_keeps (s : State) : KeepsAllBut [.wakeHolds] s s.stopWakes := (keeps_stopWakes (by decide)).mpr keeps_refl

/-- Settles O43: the ends of a drain and of a stop, the failure of a drain, and the hold that starts the line. -/
theorem drainsStopsAndWakesEnd : Obligations.DrainsStopsAndWakesEnd := by
  intro s i
  refine ⟨?ends, fun h => (exec_drainCompleted s).2 fun ⟨h1, h2⟩ => h.elim (· h1) (· h2),
    fun h => (exec_stopCompleted s).2 fun ⟨h1, h2⟩ => h.elim (· h1) (· h2), fun h1 h2 => ?failed,
    exec_drainLimitExpiry_idle, fun h1 h2 => ?wake, exec_wakeHoldExpiry_idle⟩
  case ends =>
    rintro c cause (⟨rfl, rfl, h⟩ | ⟨rfl, rfl, h⟩)
    · exact ⟨_, (exec_drainCompleted s).1 h, enterStopped_ends .drained⟩
    · exact ⟨_, (exec_stopCompleted s).1 h, enterStopped_ends .stopped⟩
  case failed =>
    have k := settle_keeps s.failDrain
    have mode : s.failDrain.settle.mode = ⟨.run, s.mode.saved, none⟩ := by rw [settle_mode, failDrain_mode]
    have reported {x : Report} {kind : ReportKind} {p : Report → Prop} (hx : x ∈ [modeReport s.lineTime .run .drainExpired,
        ⟨.drainFailed, s.lineTime, none, none, none, s.drainDetail.2, some s.unrested.length⟩]) (hk : x.kind = kind) (hp : p x)
        (ho : QueueOpen s) : Reported s.failDrain.settle kind p := by
      rw [failDrain_eq]
      exact (((drainLost_queues s).stands hx hk hp ho).grows ((watchAll_grows _).trans (pursueGrant_grows _))).settle
    obtain ⟨some1, none2⟩ := drainDetail_detail s
    refine ⟨_, s.unrested, exec_drainLimitExpiry h1 h2, mode, fun ho => reported (.head _) rfl ⟨rfl, rfl⟩ ho, fun _ => mem_unrested,
      List.filter_sublist, fun ho => reported (.tail _ (.head _)) rfl ⟨rfl, some1, none2⟩ ho,
      wakesAnew_of_none ((k .wakeHolds (by decide)).trans (failDrain_wakeHolds s)) (by rw [mode]; simp),
      ((failDrain_keeps s).mono (by decide)).trans (k.mono (by decide))⟩
  case wake =>
    have run := exec_wakeHoldExpiry h1 h2
    rcases e : s.link.identity with _ | d
    · rw [e, Option.isSome_none, if_neg (by simp)] at run
      exact ⟨_, run, rfl, nofun, fun _ => stopWakes_keeps s⟩
    · rw [e, Option.isSome_some, if_pos rfl] at run
      have k := settle_keeps (s.stopWakes.enterRun .autoWake)
      refine ⟨_, run, (k .wakeHolds (by decide)).trans (enterRun_wakeHolds .autoWake), fun _ => ⟨?_, fun ho => ?_, ?_⟩, nofun⟩
      · rw [settle_mode, enterRun_mode]
        rfl
      · exact (enterRun_reported (s := s.stopWakes) .autoWake ho).settle
      · exact ((stopWakes_keeps s).mono (by decide)).trans (((enterRun_keeps .autoWake).mono (by decide)).trans (k.mono (by decide)))

end Sys2Proof.Machine
end

section
/-! ESTOP and RESUME (R180 to R182, R186). The statement lets RESUME send no message at an entry scanner but READ without a face, and that
fails of a state in which an idle entry scanner has a read for a face waiting: the arrival handed on there sends that read first (R58). The
model asks for such a read at the label scanner alone; the statement ranges over every state. -/

namespace Sys2Proof.Machine

open State

/-- HALTED with RUN saved, infeed A covered with its mark clear, and a read of face A waiting at its idle entry scanner. -/
def strayFaceRead : State :=
  (Tests.waiting.modMode fun m => { m with mode := .halted, saved := some .run }).modScanner (.entry .a)
    fun _ => ⟨none, [⟨1, .verify .a⟩], none⟩

/-- The messages sent by the end of a step. -/
def sentBy : Answer → List Message
  | .next t => t.sent
  | _ => []

set_option maxRecDepth 100000 in
/-- RESUME there sends READ with the face (R29, R58). -/
theorem strayFaceRead_sent : .read (.entry .a) (some .a) ∈ sentBy (exec (.resume Tests.me) strayFaceRead) := by decide

/-- What is sent before RESUME and its own messages are no READ with the face. -/
theorem strayFaceRead_silent : .read (.entry .a) (some .a) ∉ strayFaceRead.sent := by decide

/-- Refutes O44: RESUME in `strayFaceRead` sends a READ with a face. -/
theorem not_estopHaltsAndResumeRestores : ¬ Obligations.EstopHaltsAndResumeRestores := by
  intro h
  have resumes := ((h Tests.me strayFaceRead).2.2.2 (by decide)).2.2 .run rfl rfl rfl (by decide)
  obtain ⟨t, run, -, -, -, -, ⟨reads, sent, plain, -⟩, -⟩ := resumes
  have stray := strayFaceRead_sent
  rw [run] at stray
  have among : .read (.entry .a) (some .a) ∈ reads := by
    simpa [sentBy, sent, strayFaceRead_silent] using stray
  obtain ⟨i, e⟩ := plain _ among
  simp at e

end Sys2Proof.Machine
end

section
/-! SUPPORT. A waiting grant taken up: what the move asked of CHECK changes (R39, R78). -/

namespace Sys2Proof.Machine

open State

variable {bs : List Block} {r s t u : State} {n : Nat} {p : Place} {dest : Place} {x : Record} {z : Zone} {g : Grant}

/-- A move entered is asked, and CHECK expecting its pallet is INCOMING. -/
theorem askMove_some (h : s.askMove n dest = some t) : ∃ x z, s.record? n = some x ∧
    (t = s.moveAsked n x.location dest z ∨ t = (s.moveAsked n x.location dest z).modCheck fun c => { c with condition := .incoming }) := by
  unfold State.askMove at h
  split at h
  · cases h
  · rename_i x hx
    split at h
    · cases h
    · rename_i z hz
      split at h
      · refine ⟨x, z, hx, ?_⟩
        dsimp only at h
        split at h <;> cases h
        · exact .inr rfl
        · exact .inl rfl
      · cases h

/-- A move to CHECK with room for it is entered. -/
theorem askMove_check (hx : s.record? n = some x) (hz : moveZone x.location .check = some z) (hr : s.hasRoom .check = true)
    (hm : s.move? n = none) : ∃ t, s.askMove n .check = some t ∧ t.move? n = some ⟨n, x.location, .check, z, .waiting, 0, 0, false⟩
      ∧ t.place .check = { s.place .check with incoming := (s.place .check).incoming ++ [n] } := by
  have move := (moveAsked_move? (src := x.location) (dest := .check) (z := z) hm n).trans (if_pos rfl)
  have place := (moveAsked_place (s := s) (n := n) (src := x.location) (dest := .check) (z := z) (p := .check)).trans (if_pos rfl)
  have e : s.askMove n .check = some (if s.check.condition == .empty
      then (s.moveAsked n x.location .check z).modCheck fun c => { c with condition := .incoming }
      else s.moveAsked n x.location .check z) := by
    simp only [State.askMove, hx, hz, hr, hm, Option.isNone_none, Bool.and_self, if_true, beq_self_eq_true, Bool.true_and]
    rfl
  refine ⟨_, e, ?_⟩
  split
  · exact ⟨move, place⟩
  · exact ⟨move, place⟩

/-- What taking up a grant leaves of the places and the records: CHECK may expect the granted pallet. -/
structure GrantTaken (s t : State) : Prop where
  others : ∀ p, p ≠ .check → t.place p = s.place p
  check : ∃ l, t.place .check = { s.place .check with incoming := l }
  record : ∀ k, t.record? k = s.record? k ∨ t.record? k = (s.record? k).map fun r => { r with movingTo := some .check }

theorem GrantTaken.of_keeps (k : KeepsAllBut bs s t) (hp : .places ∉ bs := by decide) (hr : .records ∉ bs := by decide) :
    GrantTaken s t :=
  ⟨fun p _ => k.place p hp, ⟨_, (k.place .check hp).trans rfl⟩, fun n => .inl (k.record? n hr)⟩

theorem GrantTaken.of_asked (k : KeepsAllBut bs s u) (h : u.askMove n .check = some t) (hp : .places ∉ bs := by decide)
    (hr : .records ∉ bs := by decide) : GrantTaken s t := by
  obtain ⟨x, z, -, e⟩ := askMove_some h
  have asked : GrantTaken s (u.moveAsked n x.location .check z) := by
    refine ⟨fun p h => ?_, ⟨(s.place .check).incoming ++ [n], ?_⟩, fun j => ?_⟩
    · rw [moveAsked_place, if_neg h, k.place p hp]
    · rw [moveAsked_place, if_pos rfl, k.place .check hp]
    · rw [moveAsked_record?]
      split
      · rename_i e
        subst e
        exact .inr (by rw [k.record? j hr])
      · exact .inl (k.record? j hr)
  obtain ⟨others, check, record⟩ := asked
  rcases e with rfl | rfl
  · exact ⟨others, check, record⟩
  · exact ⟨others, check, record⟩

theorem askGranted_taken (k : KeepsAllBut bs s u) (hp : .places ∉ bs := by decide) (hr : .records ∉ bs := by decide) :
    GrantTaken s u.askGranted := by
  unfold State.askGranted
  rcases u.merge.grant with _ | g
  · exact .of_keeps k hp hr
  · dsimp only
    rcases e : u.askMove g.track .check with _ | t
    · exact .of_keeps k hp hr
    · exact .of_asked k e hp hr

theorem pursueGrant_taken (s : State) : GrantTaken s s.pursueGrant := by
  have same : GrantTaken s s := .of_keeps (bs := []) keeps_refl
  unfold State.pursueGrant
  split
  · exact same
  · split
    · exact same
    · split
      · exact askGranted_taken (bs := []) keeps_refl
      · split
        · rename_i g _ _ _ _
          unfold State.commandSwitch
          have k (f : MergeArbiter → MergeArbiter) : KeepsAllBut [.merge, .grant] s (s.modMerge f) := by simp
          split
          · dsimp only
            split
            · exact askGranted_taken (k _)
            · exact .of_keeps (k _)
          · exact .of_keeps (k _)
        · exact same

theorem pursueGrant_keeps (s : State) : KeepsAllBut [.places, .moves, .records, .merge, .check] s s.pursueGrant :=
  (keeps_pursueGrant (by decide)).mpr keeps_refl

theorem pursueGrant_of_none (h : s.merge.grant = none) : s.pursueGrant = s := by
  unfold State.pursueGrant
  rw [h]

/-- A grant with the gate at its infeed, and its pallet there without a move, asks for the move to CHECK (R78). -/
theorem pursueGrant_asks (hg : s.merge.grant = some g) (hgate : s.merge.gate = some g.infeed) (hs : s.merge.switch = none)
    (hf : s.merge.fault = false) (hx : s.record? g.track = some x) (hl : x.location = .infeed g.infeed) (hm : s.move? g.track = none)
    (hr : s.hasRoom .check = true) :
    s.pursueGrant.move? g.track = some ⟨g.track, .infeed g.infeed, .check, .infeed g.infeed, .waiting, 0, 0, false⟩
      ∧ s.pursueGrant.place .check = { s.place .check with incoming := (s.place .check).incoming ++ [g.track] } := by
  obtain ⟨t, e, move, place⟩ := askMove_check (z := .infeed g.infeed) hx (by rw [hl]; rfl) hr hm
  have asked : s.pursueGrant = t := by
    unfold State.pursueGrant State.askGranted
    rw [hg]
    dsimp only
    simp [hs, hf, hm, hx, hl, hgate, e]
  rw [asked, ← hl]
  exact ⟨move, place⟩

end Sys2Proof.Machine
end

section
/-! PLACE_CLEAR and READ_ZONES (R48, R50, R78). -/

namespace Sys2Proof.Machine

open State

variable {bs : List Block} {r s t u : State} {q : Req} {n : Nat} {p : Place} {z y : Zone} {release : Bool}

/-! ### A place returned to use (R48) -/

/-- The place empty, the grant not yet taken up. -/
def State.placeFreed (s : State) (p : Place) : State := (s.modPlace p fun _ => ⟨false, false, [], []⟩).emptyLane p

theorem placeFreed_keeps (s : State) (p : Place) : KeepsAllBut [.places, .lanes] s (s.placeFreed p) := by
  cases p <;> simp [State.placeFreed, State.emptyLane]

theorem placeFreed_place (k : Place) : (s.placeFreed p).place k = if k = p then ⟨false, false, [], []⟩ else s.place k := by
  have e (u : State) : (u.emptyLane p).place k = u.place k := by cases p <;> rfl
  exact (e _).trans (modPlace_place p _ k)

theorem placeFreed_count (l : Lane) : (tget (s.placeFreed p).lanes l).count = if p = .lane l then 0 else (tget s.lanes l).count := by
  cases p with
  | lane j =>
    show (tget (tmod s.lanes j _) l).count = _
    rw [tget_tmod]
    by_cases h : j = l
    · subst h; simp
    · rw [if_neg h, if_neg fun e => h (Place.lane.inj e)]
  | _ => rfl

theorem placeFreed_occupancy : (s.placeFreed p).occupancy p = 0 := by
  cases p with
  | lane l => exact (placeFreed_count l).trans (if_pos rfl)
  | _ => simp only [State.occupancy, placeFreed_place, if_true, List.length_nil]

theorem clearPlace_eq (s : State) (p : Place) : s.clearPlace p = if p = .check then (s.placeFreed p).pursueGrant else s.placeFreed p := by
  unfold State.clearPlace
  simp only [beq_iff_eq]
  rfl

/-- Where no grant waits, clearing a place empties it. -/
theorem clearPlace_of_idle (h : p ≠ .check ∨ s.merge.grant = none) : s.clearPlace p = s.placeFreed p := by
  rw [clearPlace_eq]
  split
  · rename_i hp
    refine pursueGrant_of_none ?_
    rw [((placeFreed_keeps s p) .grant (by decide)).1]
    exact h.resolve_left fun hn => hn hp
  · rfl

theorem clearPlace_keeps (s : State) (p : Place) : KeepsAllBut [.places, .lanes, .moves, .records, .check, .merge] s (s.clearPlace p) := by
  rw [clearPlace_eq]
  split
  · exact ((placeFreed_keeps s p).mono (by decide)).trans ((pursueGrant_keeps _).mono (by decide))
  · exact (placeFreed_keeps s p).mono (by decide)

theorem clearPlace_place (s : State) (p : Place) : ((s.clearPlace p).place p).unknown = false ∧ ((s.clearPlace p).place p).clearing = false
    ∧ ((s.clearPlace p).place p).occupants = [] ∧ ∀ k, k ≠ p → (s.clearPlace p).place k = s.place k := by
  have self : (s.placeFreed p).place p = ⟨false, false, [], []⟩ := (placeFreed_place p).trans (if_pos rfl)
  have other (k : Place) (h : k ≠ p) : (s.placeFreed p).place k = s.place k := (placeFreed_place k).trans (if_neg h)
  rw [clearPlace_eq]
  split
  · rename_i hp
    obtain ⟨others, ⟨l, check⟩, -⟩ := pursueGrant_taken (s.placeFreed p)
    subst hp
    rw [check, self]
    exact ⟨rfl, rfl, rfl, fun k h => (others k h).trans (other k h)⟩
  · rw [self]
    exact ⟨rfl, rfl, rfl, other⟩

theorem clearPlace_count (l : Lane) : (tget (s.clearPlace p).lanes l).count = if p = .lane l then 0 else (tget s.lanes l).count := by
  rw [clearPlace_eq, ← placeFreed_count]
  split
  · exact (pursueGrant_keeps _ .lanes (by decide) l).1
  · rfl

theorem placeFreed_free : (s.placeFreed p).placeState p = .free := by
  rw [placeState_free_iff, placeFreed_occupancy, placeFreed_place, if_pos rfl]
  simp

/-- The grant kept from CHECK asks its move once CHECK is cleared (R78). -/
theorem clearPlace_asks {g : Grant} {x : Record} (hg : s.merge.grant = some g) (hgate : s.merge.gate = some g.infeed) (hs : s.merge.switch = none)
    (hf : s.merge.fault = false) (hx : s.record? g.track = some x) (hl : x.location = .infeed g.infeed) (hm : s.move? g.track = none) :
    (s.clearPlace .check).move? g.track = some ⟨g.track, .infeed g.infeed, .check, .infeed g.infeed, .waiting, 0, 0, false⟩
      ∧ (s.clearPlace .check).place .check = ⟨false, false, [], [g.track]⟩ := by
  have room : (s.placeFreed .check).hasRoom .check = true := by
    unfold State.hasRoom
    rw [placeFreed_occupancy, placeFreed_place, if_pos rfl]
    decide
  obtain ⟨move, place⟩ := pursueGrant_asks (s := s.placeFreed .check) hg hgate hs hf hx hl hm room
  rw [clearPlace_eq, if_pos rfl]
  rw [placeFreed_place, if_pos rfl] at place
  exact ⟨move, place⟩

/-! ### PLACE_CLEAR (R48) -/

theorem placeOf_none (h : n = 0 ∨ 34 < n) : placeOf n = none := by
  refine List.find?_eq_none.mpr fun p hp => ?_
  have hn : p.number ∈ List.range' 1 34 := allPlaces_numbers ▸ List.mem_map_of_mem hp
  rw [List.mem_range'_1] at hn
  simp only [beq_iff_eq]
  omega

theorem clearPlaceOp_known (hp : placeOf n = some p) (h : (s.place p).unknown = false) :
    clearPlaceOp n s = (s, .ok, .place (s.placeState p)) := by
  unfold clearPlaceOp
  rw [hp]
  dsimp only
  rw [if_pos (by simp [h])]

theorem clearPlaceOp_covered (hp : placeOf n = some p) (h : (s.place p).unknown = true) (hc : s.covered p = true) :
    clearPlaceOp n s = refuse s .stillCovered := by
  unfold clearPlaceOp
  rw [hp]
  dsimp only
  rw [if_neg (by simp [h]), if_pos hc]

theorem clearPlaceOp_named (hp : placeOf n = some p) (h : (s.place p).unknown = true) (hc : s.covered p = false) (hn : s.named p = true) :
    clearPlaceOp n s = refuse s .inUse := by
  unfold clearPlaceOp
  rw [hp]
  dsimp only
  rw [if_neg (by simp [h]), if_neg (by simp [hc]), if_pos hn]

theorem clearPlaceOp_cleared (hp : placeOf n = some p) (h : (s.place p).unknown = true) (hc : s.covered p = false) (hn : s.named p = false) :
    clearPlaceOp n s = (s.clearPlace p, .ok, .place ((s.clearPlace p).placeState p)) := by
  unfold clearPlaceOp
  rw [hp]
  dsimp only
  rw [if_neg (by simp [h]), if_neg (by simp [hc]), if_neg (by simp [hn])]

/-! ### READ_ZONES (R50) -/

/-- A zone after READ_ZONES. -/
def ZoneEntry.read (release : Bool) (e : ZoneEntry) : ZoneEntry :=
  match e.state with
  | .normal => { e with latch := false }
  | .degraded => e
  | .stalled => if release then e.taking .degraded 0 else e

theorem readZone_normal (h : (s.zone z).state = .normal) : s.readZone release z = s.modZone z fun e => { e with latch := false } := by
  have after : ((s.modZone z fun e => { e with latch := false }).zone z).state = .normal := by rw [modZone_zone, if_pos rfl, h]
  simp [State.readZone, h, after]

theorem readZone_faulty (h : (s.zone z).state ≠ .normal) :
    s.readZone release z = if release = true ∧ (s.zone z).state = .stalled then s.setZone z .degraded 0 none else s := by
  have c : ((s.zone z).state == .normal) = false := by simpa using h
  simp [State.readZone, c]

theorem readZone_zone (y : Zone) : (s.readZone release z).zone y = if y = z then (s.zone z).read release else s.zone y := by
  cases h : (s.zone z).state with
  | normal => rw [readZone_normal h, modZone_zone, ZoneEntry.read, h]
  | degraded =>
    rw [readZone_faulty (by simp [h]), h, ZoneEntry.read, h, if_neg (by simp)]
    split
    · rename_i e; rw [e]
    · rfl
  | stalled =>
    rw [readZone_faulty (by simp [h]), h, ZoneEntry.read, h]
    cases release
    · rw [if_neg (by simp)]
      split
      · rename_i e; rw [e]; rfl
      · rfl
    · rw [if_pos ⟨rfl, rfl⟩, setZone_zone]
      rfl

/-- Every zone is read (R50). -/
def State.zonesRead (s : State) (release : Bool) : State := allZones.foldl (State.readZone release) s

theorem zonesRead_zone (z : Zone) : (s.zonesRead release).zone z = (s.zone z).read release := by
  suffices ∀ (l : List Zone) (s : State), l.Nodup → (l.foldl (State.readZone release) s).zone z
      = if z ∈ l then (s.zone z).read release else s.zone z from
    (this allZones s (by decide)).trans (if_pos (mem_allZones z))
  intro l
  induction l with
  | nil => intro s _; simp
  | cons y l ih =>
    intro s hl
    obtain ⟨hy, hl⟩ := List.nodup_cons.mp hl
    rw [List.foldl_cons, ih _ hl, readZone_zone]
    by_cases e : z = y
    · subst e; simp [hy]
    · simp [e]

theorem readZone_keeps (s : State) (z : Zone) : KeepsAllBut [.zones, .queue] s (s.readZone release z) := by
  have zone (u : State) (f : ZoneEntry → ZoneEntry) (hf : ∀ e, (f e).drive = e.drive ∧ (f e).edges = e.edges ∧ (f e).windowLeft = e.windowLeft) :
      KeepsAllBut [.zones, .queue] u (u.modZone z f) := (keeps_modZone (.inl (by decide)) (.inr hf)).mpr keeps_refl
  by_cases h : (s.zone z).state = .normal
  · rw [readZone_normal h]
    exact zone s _ fun _ => ⟨rfl, rfl, rfl⟩
  · rw [readZone_faulty h]
    split
    · unfold State.setZone
      dsimp only
      rw [if_neg (c := ((s.zone z).state == .normal && _) = true) (by simp [h])]
      split
      · exact zone s _ fun _ => ⟨rfl, rfl, rfl⟩
      · exact (keeps_raise (by decide)).mpr (zone s _ fun _ => ⟨rfl, rfl, rfl⟩)
    · exact keeps_refl

theorem zonesRead_keeps (s : State) : KeepsAllBut [.zones, .queue] s (s.zonesRead release) := by
  unfold State.zonesRead
  induction allZones generalizing s with
  | nil => exact keeps_refl
  | cons z l ih => exact (readZone_keeps s z).trans (ih _)

/-- The report of a zone that READ_ZONES releases, without a value (R50). -/
def releaseReport (at' : LineTime) (z : Zone) : Report := ⟨.speed, at', none, none, none, 256 * z.number + ZoneState.degraded.number, none⟩

/-- The reports of one zone read. -/
def State.releaseReports (s : State) (release : Bool) (z : Zone) : List Report :=
  if release = true ∧ (s.zone z).state = .stalled then [releaseReport s.lineTime z] else []

theorem readZone_queues (s : State) (z : Zone) : Queues s (s.readZone release z) (s.releaseReports release z) := by
  have k (f : ZoneEntry → ZoneEntry) (hf : ∀ e, (f e).drive = e.drive ∧ (f e).edges = e.edges ∧ (f e).windowLeft = e.windowLeft) :
      KeepsAllBut [.zones] s (s.modZone z f) := (keeps_modZone (.inl (by decide)) (.inr hf)).mpr keeps_refl
  unfold State.releaseReports
  by_cases h : (s.zone z).state = .normal
  · rw [readZone_normal h, if_neg (by simp [h])]
    exact .of_keeps (k _ fun _ => ⟨rfl, rfl, rfl⟩)
  · rw [readZone_faulty h]
    split
    · rename_i c
      exact setZone_queues (by simp [c.2])
    · exact .refl s

theorem zonesRead_queues (s : State) : Queues s (s.zonesRead release) (allZones.flatMap (s.releaseReports release)) := by
  suffices ∀ (l : List Zone) (s : State), l.Nodup → Queues s (l.foldl (State.readZone release) s) (l.flatMap (s.releaseReports release)) from
    this allZones s (by decide)
  intro l
  induction l with
  | nil => intro s _; exact .refl s
  | cons z l ih =>
    intro s hl
    obtain ⟨hz, hl⟩ := List.nodup_cons.mp hl
    have same (y : Zone) (hy : y ∈ l) : (s.readZone release z).releaseReports release y = s.releaseReports release y := by
      have ne : y ≠ z := fun e => hz (e ▸ hy)
      unfold State.releaseReports
      rw [readZone_zone, if_neg ne, show (s.readZone release z).lineTime = _ from readZone_keeps s z .lineTime (by decide)]
    rw [List.flatMap_cons, ← List.flatMap_congr same]
    exact (readZone_queues s z).trans (ih _ hl)

theorem releaseReports_length (s : State) : (allZones.flatMap (s.releaseReports release)).length ≤ 32 := by
  have one (z : Zone) : (s.releaseReports release z).length ≤ 1 := by
    unfold State.releaseReports
    split <;> simp
  have h (l : List Zone) : (l.flatMap (s.releaseReports release)).length ≤ l.length := by
    induction l with
    | nil => simp
    | cons z l ih =>
      rw [List.flatMap_cons, List.length_append, List.length_cons]
      have := one z
      omega
  exact (h allZones).trans (by decide)

/-- READ_ZONES answers with the rows as they stood, and reads every zone (R50). -/
theorem readZones_reads (h : Addressed q s) :
    ∃ t, exec (.readZones q release) s = .next t
      ∧ Replied s t 0x22 .ok (.zones ([.infeed .a, .infeed .b, .infeed .c, .centre, .buffer, .lanes].map (zoneRowOf s)))
      ∧ (∀ z, (s.zone z).state = .normal → (t.zone z).state = .normal ∧ (t.zone z).latch = false ∧ (t.zone z).goodRun = (s.zone z).goodRun)
      ∧ (∀ z, (s.zone z).state = .degraded → (t.zone z).state = .degraded ∧ (t.zone z).latch = (s.zone z).latch
          ∧ (t.zone z).goodRun = (s.zone z).goodRun)
      ∧ (∀ z, (s.zone z).state = .stalled →
          ((t.zone z).state, (t.zone z).goodRun, (t.zone z).latch)
            = (if release then (.degraded, 0, true) else (.stalled, (s.zone z).goodRun, (s.zone z).latch))
          ∧ (release = true → QueueOpen s → Reported t .speed fun x => x.detail = 256 * z.number + ZoneState.degraded.number
              ∧ x.value = none))
      ∧ (∀ z, (t.zone z).last = (s.zone z).last)
      ∧ RequestKeeps [.zones] s t := by
  have keep := zonesRead_keeps (release := release) s.asked
  have run : exec (.readZones q release) s
      = .next ((s.asked.zonesRead release).settle.send (s.reply 0x22 .ok (.zones (allZones.map s.asked.zoneRow)))) := by
    show Host.Outcome.next _ = _
    rw [serve_taken h (s' := s.asked.zonesRead release) rfl rfl (by decide)]
  have k := settledSend_keeps (s.asked.zonesRead release) (s.reply 0x22 .ok (.zones (allZones.map s.asked.zoneRow)))
  have read (z : Zone) : (s.asked.zonesRead release).zone z = (s.zone z).read release := zonesRead_zone z
  refine ⟨_, run, replied_settle (keep .sent (by decide)) (keep .answering (by decide)), fun z hz => ?_, fun z hz => ?_,
    fun z hz => ⟨?_, fun hr ho => ?_⟩, fun z => ?_, (requestKeeps_settle keep).mono (by decide)⟩
  case refine_4 =>
    have here : releaseReport s.lineTime z ∈ allZones.flatMap (s.asked.releaseReports release) :=
      List.mem_flatMap.mpr ⟨z, mem_allZones z, by
        rw [State.releaseReports, if_pos ⟨hr, hz⟩]
        exact List.mem_singleton_self _⟩
    exact (zonesRead_queues s.asked).requestReported here rfl ⟨rfl, rfl⟩ ho (releaseReports_length _)
  all_goals
    obtain ⟨state, run, latch, last⟩ := k .zones (by decide) z.idx
    change (State.zone _ z).state = (State.zone _ z).state at state
    change (State.zone _ z).goodRun = (State.zone _ z).goodRun at run
    change (State.zone _ z).latch = (State.zone _ z).latch at latch
    change (State.zone _ z).last = (State.zone _ z).last at last
    rw [read] at state run latch last
  · simp [state, run, latch, ZoneEntry.read, hz]
  · simp [state, run, latch, ZoneEntry.read, hz]
  · cases release <;> simp [state, run, latch, ZoneEntry.read, ZoneEntry.taking, hz]
  · rw [last]
    unfold ZoneEntry.read
    split
    · rfl
    · rfl
    · split <;> rfl

/-- Settles O12: PLACE_CLEAR by the state of its place, and READ_ZONES zone by zone. -/
theorem placesAreClearedAndZonesRead : Obligations.PlacesAreClearedAndZonesRead := by
  refine ⟨fun q n p s h hp => ⟨fun hu => ?_, fun hu hc => ?_, fun hu hc hn => ?_, fun hu hc hn => ?_⟩, fun q n s h hn => ?_,
    fun q release s h => readZones_reads h⟩
  · obtain ⟨run, replied, kept⟩ := request_changed (c := .placeClear q n) (bs := []) rfl h (clearPlaceOp_known (s := s.asked) hp hu) rfl keeps_refl
    exact ⟨_, run, replied, kept⟩
  · exact request_refused rfl h (t := s.asked) (clearPlaceOp_covered hp hu hc) rfl
  · exact request_refused rfl h (t := s.asked) (clearPlaceOp_named hp hu hc hn) rfl
  · have keep := clearPlace_keeps s.asked p
    obtain ⟨run, replied, kept⟩ := request_changed (c := .placeClear q n) rfl h (clearPlaceOp_cleared (s := s.asked) hp hu hc hn) rfl keep
    have k := settledSend_keeps (s.asked.clearPlace p) (s.reply 0x20 .ok (.place ((s.asked.clearPlace p).placeState p)))
    obtain ⟨unknown, clearing, occupants, others⟩ := clearPlace_place s.asked p
    have count (l : Lane) := (k .lanes (by decide) l).1.trans (clearPlace_count (s := s.asked) (p := p) l)
    refine ⟨_, run, ?_, ?_, ?_, fun l hl => ?_, fun l hl => ?_, fun j hj => ?_, ?_, fun idle => ⟨?_, ?_, ?_⟩, fun g r hk hg hgate hs hf hx hl hm => ?_, kept⟩
    · rw [k.place]; exact unknown
    · rw [k.place]; exact clearing
    · rw [k.place]; exact occupants
    · exact (count l).trans (if_pos hl)
    · exact (count l).trans (if_neg hl)
    · rw [k.place]; exact others j hj
    · rw [k.placeState]; exact replied
    · rw [k.placeState, clearPlace_of_idle (s := s.asked) idle]; exact placeFreed_free
    · rw [k.place, clearPlace_of_idle (s := s.asked) idle, placeFreed_place, if_pos rfl]
    · rw [clearPlace_of_idle (s := s.asked) idle]
      exact requestKeeps_settle (placeFreed_keeps s.asked p)
    · subst hk
      obtain ⟨move, place⟩ := clearPlace_asks (s := s.asked) hg hgate hs hf hx hl hm
      rw [k.place]
      exact ⟨(k.move? _).trans move, place⟩
  · exact request_refused rfl h (t := s.asked) (by unfold clearPlaceOp; rw [placeOf_none hn]; rfl) rfl

end Sys2Proof.Machine
end

section
/-! SUPPORT. Arrivals: the number a record takes, the record created, and the read asked of it (R52, R55 to R58). -/

namespace Sys2Proof.Machine

open State

variable {bs : List Block} {r s t u : State} {i j : Infeed} {n m : Nat} {sc : Scanner} {rd : Read}

/-! ### The next track number (R52) -/

/-- The number `k` places upward from `n`, 255 being followed by 1. -/
def upward (n k : Nat) : Nat := (n - 1 + k) % 255 + 1

theorem nextNumber_range (n : Nat) : 1 ≤ nextNumber n ∧ nextNumber n ≤ 255 := by
  unfold nextNumber
  split <;> omega

theorem nextNumber_upward (h1 : 1 ≤ n) (h2 : n ≤ 255) (k : Nat) : upward (nextNumber n) k = upward n (k + 1) := by
  unfold upward nextNumber
  split <;> omega

theorem upward_zero (h1 : 1 ≤ n) (h2 : n ≤ 255) : upward n 0 = n := by
  unfold upward
  omega

/-- The number found is the first upward that no record holds, unless the numbers tried are all held. -/
theorem freeNumber_upward (fuel : Nat) (h1 : 1 ≤ n) (h2 : n ≤ 255) : ∃ k, k ≤ fuel ∧ s.freeNumber fuel n = upward n k
    ∧ (∀ j, j < k → (s.record? (upward n j)).isSome = true) ∧ (k < fuel → s.record? (upward n k) = none) := by
  induction fuel generalizing n with
  | zero => exact ⟨0, le_rfl, (upward_zero h1 h2).symm, by simp, by simp⟩
  | succ fuel ih =>
    by_cases free : (s.record? n).isNone = true
    · refine ⟨0, by simp, ?_, by simp, fun _ => ?_⟩
      · rw [upward_zero h1 h2, State.freeNumber, if_pos free]
      · rw [upward_zero h1 h2]
        exact Option.isNone_iff_eq_none.mp free
    · obtain ⟨low, high⟩ := nextNumber_range n
      obtain ⟨k, hk, found, held, after⟩ := ih low high
      refine ⟨k + 1, by omega, ?_, fun j hj => ?_, fun hlt => ?_⟩
      · rw [State.freeNumber, if_neg free, found, nextNumber_upward h1 h2]
      · cases j with
        | zero => rw [upward_zero h1 h2]; simpa [Option.isSome_iff_ne_none] using free
        | succ j => rw [← nextNumber_upward h1 h2]; exact held j (by omega)
      · rw [← nextNumber_upward h1 h2]
        exact after (by omega)

theorem record?_held (h : (s.record? n).isSome = true) : n ∈ s.track.records.map (·.number) := by
  obtain ⟨x, hx⟩ := Option.isSome_iff_exists.mp h
  exact record?_number hx ▸ List.mem_map_of_mem (record?_mem hx)

/-- So many numbers upward can be held only by so many records. -/
theorem held_le_records {k : Nat} (hk : k ≤ 255) (h : ∀ j, j < k → (s.record? (upward n j)).isSome = true) : k ≤ s.track.records.length := by
  have nodup : ((List.range k).map (upward n)).Nodup := by
    refine List.Nodup.map_on (fun a ha b hb e => ?_) List.nodup_range
    rw [List.mem_range] at ha hb
    unfold upward at e
    omega
  have sub : (List.range k).map (upward n) ⊆ s.track.records.map (·.number) := by
    intro x hx
    obtain ⟨j, hj, rfl⟩ := List.mem_map.mp hx
    exact record?_held (h j (List.mem_range.mp hj))
  simpa using (nodup.subperm sub).length_le

/-- A table with room finds the next free number (R52). -/
theorem freeNumber_next (h : s.track.records.length < 255) (h1 : 1 ≤ s.track.nextNumber) (h2 : s.track.nextNumber ≤ 255) :
    NextFree s (s.freeNumber 255 s.track.nextNumber) ∧ 1 ≤ s.freeNumber 255 s.track.nextNumber
      ∧ s.freeNumber 255 s.track.nextNumber ≤ 255 := by
  obtain ⟨k, hk, found, held, free⟩ := freeNumber_upward (s := s) 255 h1 h2
  have lt : k < 255 := (held_le_records hk held).trans_lt h
  have range : 1 ≤ upward s.track.nextNumber k ∧ upward s.track.nextNumber k ≤ 255 := by
    unfold upward
    omega
  rw [found]
  exact ⟨⟨free lt, k, lt, rfl, held⟩, range⟩

/-! ### A read asked (R58) -/

/-- A read waits last at its scanner. -/
theorem queueRead_scanner (c : Scanner) : (s.modScanner sc fun e => { e with waiting := e.waiting ++ [rd] }).scanner c
    = if c = sc then { s.scanner sc with waiting := (s.scanner sc).waiting ++ [rd] } else s.scanner c :=
  modScanner_scanner sc _ c

/-- An idle scanner sends a read asked of it at once. -/
theorem askRead_idle (h : s.scanner sc = ⟨none, [], none⟩) :
    (s.askRead sc rd).scanner sc = ⟨some (rd, s.setting .ackLimit), [], none⟩ ∧ (s.askRead sc rd).sent = s.sent ++ [readMessage sc rd] := by
  have e : (s.modScanner sc fun e => { e with waiting := e.waiting ++ [rd] }).scanner sc = ⟨none, [rd], none⟩ := by
    rw [queueRead_scanner, if_pos rfl, h]
    rfl
  exact ⟨(sendRead_scanner e sc).trans (if_pos rfl), sendRead_sent e⟩

/-- A read asked of a scanner with a read outstanding, or whose answer to an ended read may still come, waits. -/
theorem askRead_busy (h : (s.scanner sc).outstanding.isSome = true ∨ (s.scanner sc).ended.isSome = true) :
    s.askRead sc rd = s.modScanner sc fun e => { e with waiting := e.waiting ++ [rd] } := by
  have e : ((s.modScanner sc fun e => { e with waiting := e.waiting ++ [rd] }).scanner sc).outstanding = (s.scanner sc).outstanding
      ∧ ((s.modScanner sc fun e => { e with waiting := e.waiting ++ [rd] }).scanner sc).ended = (s.scanner sc).ended := by
    rw [queueRead_scanner, if_pos rfl]
    exact ⟨rfl, rfl⟩
  unfold State.askRead State.sendRead
  rw [e.1, e.2]
  rcases h with h | h <;> obtain ⟨x, hx⟩ := Option.isSome_iff_exists.mp h <;> rw [hx]
  cases (s.scanner sc).outstanding <;> rfl

/-- A read asked is outstanding or waiting. -/
theorem askRead_pending (s : State) (sc : Scanner) (rd : Read) : ((s.askRead sc rd).scanner sc).outstanding.map (·.1) = some rd
    ∨ rd ∈ ((s.askRead sc rd).scanner sc).waiting := by
  by_cases busy : (s.scanner sc).outstanding.isSome = true ∨ (s.scanner sc).ended.isSome = true
  · rw [askRead_busy busy, queueRead_scanner, if_pos rfl]
    exact .inr (List.mem_append_right _ (List.mem_singleton_self _))
  · have idle : s.scanner sc = ⟨none, (s.scanner sc).waiting, none⟩ := by
      simp only [not_or, Bool.not_eq_true] at busy
      rcases e : s.scanner sc with ⟨o, w, d⟩
      simp_all
    have e : (s.modScanner sc fun e => { e with waiting := e.waiting ++ [rd] }).scanner sc = ⟨none, (s.scanner sc).waiting ++ [rd], none⟩ := by
      rw [queueRead_scanner, if_pos rfl, idle]
    have after := (sendRead_scanner e sc).trans (if_pos rfl)
    unfold State.askRead
    rw [after]
    cases (s.scanner sc).waiting with
    | nil => exact .inl rfl
    | cons x w => exact .inr (List.mem_append_right _ (List.mem_singleton_self _))

theorem askRead_other {c : Scanner} (h : c ≠ sc) : (s.askRead sc rd).scanner c = s.scanner c := by
  unfold State.askRead State.sendRead
  split
  · exact (modScanner_scanner sc _ c).trans ((if_neg h).trans ((queueRead_scanner c).trans (if_neg h)))
  · exact (queueRead_scanner c).trans (if_neg h)

/-! ### The record created (R57) -/

/-- The report of an arrival (R57). -/
def State.arrivalReport (s : State) (i : Infeed) (n : Nat) : Report :=
  ⟨.arrival, s.lineTime, some n, none, none, i.number, some (((s.place (.infeed i)).occupants.length + 1 : Nat) : Int)⟩

/-- What an arrival taken makes of the line: the record under the number, its place, its mark, its report and its read. -/
structure ArrivalTaken (s t : State) (i : Infeed) (n : Nat) : Prop where
  next : t.track.nextNumber = nextNumber n
  records : t.track.records = s.track.records ++ [newRecord n i s.lineTime]
  place : t.place (.infeed i) = { s.place (.infeed i) with occupants := (s.place (.infeed i)).occupants ++ [n] }
  places : ∀ p, p ≠ .infeed i → t.place p = s.place p
  taken : t.field.entryTaken = tset s.field.entryTaken i.idx true
  pending : (t.scanner (.entry i)).outstanding.map (·.1) = some ⟨n, .entry⟩ ∨ ⟨n, .entry⟩ ∈ (t.scanner (.entry i)).waiting
  idle : s.scanner (.entry i) = ⟨none, [], none⟩ → t.scanner (.entry i) = ⟨some (⟨n, .entry⟩, s.setting .ackLimit), [], none⟩
    ∧ t.sent = s.sent ++ [.read (.entry i) none]
  busy : (s.scanner (.entry i)).outstanding.isSome = true ∨ (s.scanner (.entry i)).ended.isSome = true →
    t.scanner (.entry i) = { s.scanner (.entry i) with waiting := (s.scanner (.entry i)).waiting ++ [⟨n, .entry⟩] } ∧ t.sent = s.sent
  scanners : ∀ sc, sc ≠ .entry i → t.scanner sc = s.scanner sc
  sends : ∃ new, t.sent = s.sent ++ new
  queues : Queues s t [s.arrivalReport i n]
  keeps : KeepsAllBut [.records, .nextNumber, .entryTaken, .places, .scanners, .sent, .queue] s t

/-- The record stands in the table and at its infeed, and its arrival is not yet reported. -/
def State.arrived (s : State) (i : Infeed) (n : Nat) : State :=
  ((s.modTrack fun t => { t with records := t.records ++ [newRecord n i s.lineTime], nextNumber := nextNumber n }).setTaken i true).modPlace
    (.infeed i) fun e => { e with occupants := e.occupants ++ [n] }

theorem arrived_place (p : Place) : (s.arrived i n).place p
    = if p = .infeed i then { s.place (.infeed i) with occupants := (s.place (.infeed i)).occupants ++ [n] } else s.place p :=
  modPlace_place (.infeed i) _ p

theorem arrived_keeps (s : State) (i : Infeed) (n : Nat) : KeepsAllBut [.records, .nextNumber, .entryTaken, .places] s (s.arrived i n) := by
  unfold State.arrived
  rw [keeps_modPlace (by decide), keeps_setTaken (by decide)]
  simp

theorem createRecord_eq (s : State) (i : Infeed) : s.createRecord i
    = ((s.arrived i (s.freeNumber 255 s.track.nextNumber)).raise .arrival
        { track := some (s.freeNumber 255 s.track.nextNumber), detail := i.number,
          value := some ((s.arrived i (s.freeNumber 255 s.track.nextNumber)).place (.infeed i)).occupants.length }).askRead (.entry i)
        ⟨s.freeNumber 255 s.track.nextNumber, .entry⟩ := rfl

theorem createRecord_taken (s : State) (i : Infeed) : ArrivalTaken s (s.createRecord i) i (s.freeNumber 255 s.track.nextNumber) := by
  rw [createRecord_eq]
  generalize s.freeNumber 255 s.track.nextNumber = n
  have first := arrived_keeps s i n
  have raised := raise_keeps (s.arrived i n) .arrival
    { track := some n, detail := i.number, value := some ((s.arrived i n).place (.infeed i)).occupants.length }
  have queues := Queues.raised (k := .arrival)
    (n := { track := some n, detail := i.number, value := some ((s.arrived i n).place (.infeed i)).occupants.length }) first
  have value : ((s.arrived i n).place (.infeed i)).occupants.length = (s.place (.infeed i)).occupants.length + 1 := by
    rw [arrived_place, if_pos rfl, List.length_append, List.length_singleton]
  rw [show s.report .arrival { track := some n, detail := i.number, value := some ((s.arrived i n).place (.infeed i)).occupants.length }
    = s.arrivalReport i n by unfold State.arrivalReport; rw [value]; rfl] at queues
  generalize (s.arrived i n).raise .arrival
    { track := some n, detail := i.number, value := some ((s.arrived i n).place (.infeed i)).occupants.length } = v at raised queues ⊢
  have asked : KeepsAllBut [.scanners, .sent] v (v.askRead (.entry i) ⟨n, .entry⟩) := by simp
  have scanner (sc : Scanner) : v.scanner sc = s.scanner sc := (raised.mono (cs := [.queue]) (by decide)).scanner sc |>.trans (first.scanner sc)
  have setting : v.setting .ackLimit = s.setting .ackLimit := raised.setting .ackLimit |>.trans (first.setting .ackLimit)
  have sent : v.sent = s.sent := (raised .sent (by decide)).trans (first .sent (by decide))
  refine ⟨?_, ?_, ?_, fun p hp => ?_, ?_, askRead_pending v _ _, fun h => ?_, fun h => ?_, fun sc hsc => ?_, ?_, ?_, ?_⟩
  · exact (asked .nextNumber (by decide)).trans (raised .nextNumber (by decide))
  · exact (asked .records (by decide)).trans (raised .records (by decide))
  · rw [asked.place, raised.place, arrived_place, if_pos rfl]
  · rw [asked.place, raised.place, arrived_place, if_neg hp]
  · exact (asked .entryTaken (by decide)).trans (raised .entryTaken (by decide))
  · obtain ⟨e1, e2⟩ := askRead_idle (rd := ⟨n, .entry⟩) ((scanner _).trans h)
    rw [e1, e2, setting, sent]
    exact ⟨rfl, rfl⟩
  · rw [← scanner] at h ⊢
    rw [askRead_busy h, queueRead_scanner, if_pos rfl]
    exact ⟨rfl, sent⟩
  · rw [askRead_other hsc, scanner]
  · have e : ∃ new, (v.askRead (.entry i) ⟨n, .entry⟩).sent = v.sent ++ new := by
      unfold State.askRead State.sendRead
      split
      · exact ⟨_, rfl⟩
      · exact ⟨[], (List.append_nil _).symm⟩
    rwa [sent] at e
  · exact queues.trans (.of_keeps asked)
  · exact (first.mono (by decide)).trans ((raised.mono (by decide)).trans (asked.mono (by decide)))

end Sys2Proof.Machine
end

section
/-! A covering of an infeed entry (R29, R33, R55 to R57). -/

namespace Sys2Proof.Machine

open State

variable {bs : List Block} {r s t u v : State} {i j : Infeed} {n c : Nat}

/-! ### Taken or refused (R56) -/

theorem refusal_iff : s.refusal i = some c ↔ RefusedFor s i s.mode.mode c := by
  unfold State.refusal RefusedFor Config.recordCapacity
  dsimp only
  generalize s.track.records.length = k
  generalize (s.place (.infeed i)).occupants.length = o
  generalize (s.place (.infeed i)).unknown = v
  cases tget s.track.enabled i.idx with
  | false => simp [@eq_comm Nat c]
  | true =>
    by_cases hd : s.mode.mode = .drain
    · simp [hd, @eq_comm Nat c]
    · cases v with
      | true => simp [hd, @eq_comm Nat c]
      | false =>
        by_cases h4 : 3 ≤ o
        · simp [hd, h4, @eq_comm Nat c]
        · by_cases h5 : 32 ≤ k
          · simp [hd, h4, h5, Nat.lt_of_not_le h4, @eq_comm Nat c]
          · simp [hd, h4, h5]

theorem arrive_refused (hw : s.working = true) (h : RefusedFor s i s.mode.mode c) :
    s.arrive i = s.raise .infeedRefused { detail := i.number, value := some c } := by
  unfold State.arrive
  rw [if_pos hw, refusal_iff.mpr h]

theorem arrive_created (hw : s.working = true) (h : ∀ c, ¬ RefusedFor s i s.mode.mode c) : s.arrive i = s.createRecord i := by
  have none : s.refusal i = none := Option.eq_none_iff_forall_ne_some.mpr fun c e => h c (refusal_iff.mp e)
  unfold State.arrive
  rw [if_pos hw, none]

theorem arrive_idle (hw : s.working = false) : s.arrive i = s := by
  unfold State.arrive
  rw [hw]
  rfl

/-- In RUN the infeed that R56 leaves room at refuses nothing. -/
theorem not_refused_of_room (hm : s.mode.mode = .run) (he : tget s.track.enabled i.idx = true) (hu : (s.place (.infeed i)).unknown = false)
    (ho : (s.place (.infeed i)).occupants.length < 3) (hr : s.track.records.length < 32) (c : Nat) : ¬ RefusedFor s i s.mode.mode c := by
  unfold RefusedFor
  simp only [hm, he, hu]
  simp
  omega

theorem startWake_of_mode (h : s.mode.mode ≠ .stopped) : s.startWake i = s := by
  unfold State.startWake
  rw [if_neg (by simp [h])]

/-! ### The entry sensor (R29, R33, R55) -/

theorem exec_entryExpiry (ht : tget s.field.timing (Input.entry i).idx = some 0) : exec (.inputFilterExpiry (.entry i)) s
    = .next (if s.rawLevel (.entry i) = true then ((s.heardInput (.entry i) true).arrive i).startWake i
      else ((s.heardInput (.entry i) false).setTaken i false).stopWake i).settle := by
  rw [exec_inputFilterExpiry ht, filtered_eq]
  cases s.rawLevel (.entry i) <;> rfl

/-- The read asked of an arrival, in a state before it and one after it that have the scanner as it was (R58). -/
theorem ArrivalTaken.entryReadAsked (h : ArrivalTaken u v i n) (before : u.scanner (.entry i) = s.scanner (.entry i))
    (limit : u.setting .ackLimit = s.setting .ackLimit) (after : t.scanner (.entry i) = v.scanner (.entry i))
    (sends : ∃ new, t.sent = v.sent ++ new) : EntryReadAsked s t i n := by
  obtain ⟨new, sends⟩ := sends
  unfold EntryReadAsked
  dsimp only
  rw [← before, after, sends]
  refine ⟨fun e => ?_, fun e => (h.busy e).1⟩
  obtain ⟨e1, e2⟩ := h.idle e
  rw [e1, e2, limit]
  exact ⟨rfl, by simp⟩

theorem ArrivalTaken.arrivalReported (h : ArrivalTaken u v i n) (k : KeepsAllBut [.filtered, .timing] s u) :
    ArrivalReported s v.settle i n := by
  intro ho
  refine h.queues.reported (List.mem_singleton_self _) rfl ⟨rfl, rfl, rfl, rfl, ?_⟩ (k.queueOpen ho)
  rw [State.arrivalReport, k.place]

/-- Settles O5: the entry sensor covered, taken, refused or not handed on, and the entry sensor clear. -/
theorem anArrivalCreatesOneRecord : Obligations.AnArrivalCreatesOneRecord := by
  intro i s ht
  have run := exec_entryExpiry ht
  have k := heardInput_keeps (s := s) (.entry i) true
  have mode : (s.heardInput (.entry i) true).mode.mode = s.mode.mode := rfl
  refine ⟨fun hb hm he hu ho hr h1 h2 => ?taken, fun hb hm c hc => ?refused, fun hb h1 h2 => ?idle, fun hb => ?clear⟩
  case taken =>
    have created := createRecord_taken (s.heardInput (.entry i) true) i
    obtain ⟨free, low, high⟩ := freeNumber_next (s := s.heardInput (.entry i) true) (hr.trans (by decide)) h1 h2
    have arrive : (s.heardInput (.entry i) true).arrive i = (s.heardInput (.entry i) true).createRecord i :=
      arrive_created (working_iff.mpr (.inl hm)) (not_refused_of_room hm he hu ho hr)
    have stays : ((s.heardInput (.entry i) true).createRecord i).mode.mode ≠ .stopped := by
      rw [show ((s.heardInput (.entry i) true).createRecord i).mode = _ from created.keeps .mode (by decide), mode, hm]
      decide
    rw [if_pos hb, arrive, startWake_of_mode stays] at run
    generalize (s.heardInput (.entry i) true).createRecord i = v at run created
    have w := settle_keeps v
    have time : (s.heardInput (.entry i) true).lineTime = s.lineTime := rfl
    have sent : v.settle.sent = v.sent := w .sent (by decide)
    have next : v.settle.track.nextNumber = _ := (w .nextNumber (by decide)).trans created.next
    have records : v.settle.track.records = _ := (w .records (by decide)).trans created.records
    have taken : v.settle.field.entryTaken = _ := (w .entryTaken (by decide)).trans created.taken
    refine ⟨v.settle, _, run, free, low, high, ?_, ?_, ?_, fun p hp => ?_, ?_, created.arrivalReported k, ?_,
      created.entryReadAsked (k.scanner _) (k.setting _) (w.scanner _) ⟨[], by rw [sent, List.append_nil]⟩, fun sc hsc => ?_, fun e => ?_,
      fun e => ?_, ?_⟩
    · rw [next, nextNumber]
      split <;> split <;> omega
    · rw [records, time]
      rfl
    · rw [w.place, created.place, k.place]
    · rw [w.place, created.places p hp, k.place]
    · rw [taken, tget_tset_self]
    · rw [w.scanner]; exact created.pending
    · rw [w.scanner, created.scanners sc hsc, k.scanner]
    · exact sent.trans (created.idle e).2
    · exact sent.trans (created.busy e).2
    · exact (k.mono (by decide)).trans ((created.keeps.mono (by decide)).trans (w.mono (by decide)))
  case refused =>
    have arrive := arrive_refused (s := s.heardInput (.entry i) true) (working_iff.mpr hm) hc
    have raised := raise_keeps (s.heardInput (.entry i) true) .infeedRefused { detail := i.number, value := some c }
    have stays : ((s.heardInput (.entry i) true).raise .infeedRefused { detail := i.number, value := some c }).mode.mode ≠ .stopped := by
      rw [show State.mode _ = _ from raised .mode (by decide), mode]
      rcases hm with h | h <;> rw [h] <;> decide
    rw [if_pos hb, arrive, startWake_of_mode stays] at run
    refine ⟨_, run, fun ho => ?_, (k.mono (by decide)).trans ((raised.mono (by decide)).trans ((settle_keeps _).mono (by decide)))⟩
    exact (Queues.raised k).reported (List.mem_singleton_self _) rfl ⟨rfl, rfl⟩ ho
  case idle =>
    have idle : (s.heardInput (.entry i) true).working = false := Bool.eq_false_iff.mpr fun e => (working_iff.mp e).elim h1 h2
    rw [if_pos hb, arrive_idle idle] at run
    have started : KeepsAllBut [.wakeHolds] (s.heardInput (.entry i) true) ((s.heardInput (.entry i) true).startWake i) :=
      (keeps_startWake (by decide)).mpr keeps_refl
    have w := settle_keeps ((s.heardInput (.entry i) true).startWake i)
    have hold (j : Infeed) := (congrArg (tget · j.idx) (w .wakeHolds (by decide))).trans (startWake_hold (s := s.heardInput (.entry i) true) i j)
    have covered : (s.heardInput (.entry i) true).input (.entry i) = true := by rw [heardInput_input, if_pos rfl]
    refine ⟨_, run, fun hm => ⟨?_, ?_⟩, fun hm => ?_, fun j hj => (hold j).trans (if_neg fun c => hj c.1), ?_⟩
    · have enabled : ((s.heardInput (.entry i) true).startWake i).settle.track.enabled = (s.heardInput (.entry i) true).track.enabled :=
        (w .enabled (by decide)).trans (started .enabled (by decide))
      have holds : (s.heardInput (.entry i) true).field.wakeHolds = s.field.wakeHolds := rfl
      unfold WakeStarts
      rw [hold, w.setting, w.setting, w.input, started.setting, started.setting, started.input, enabled]
      simp [mode, hm, holds]
    · rw [w.input, started.input, covered]
    · rw [startWake_of_mode (s := s.heardInput (.entry i) true) hm]
      exact settle_keeps _ .wakeHolds (by decide)
    · exact (k.mono (by decide)).trans ((started.mono (by decide)).trans (w.mono (by decide)))
  case clear =>
    have kc := heardInput_keeps (s := s) (.entry i) false
    have cleared : KeepsAllBut [.entryTaken, .wakeHolds] (s.heardInput (.entry i) false)
        (((s.heardInput (.entry i) false).setTaken i false).stopWake i) := by simp
    have w := settle_keeps (((s.heardInput (.entry i) false).setTaken i false).stopWake i)
    rw [if_neg (by simp [hb])] at run
    refine ⟨_, run, ?_, ?_, (kc.mono (by decide)).trans ((cleared.mono (by decide)).trans (w.mono (by decide)))⟩
    · exact (congrArg (tget · i.idx) (w .entryTaken (by decide))).trans (tget_tset_self ..)
    · exact (congrArg (tget · i.idx) (w .wakeHolds (by decide))).trans (tget_tset_self ..)

end Sys2Proof.Machine
end

section
/-! SUPPORT. The start of watching: what an arrival at one infeed leaves of another, and the arrivals handed on (R29, R55 to R58, R66). -/

namespace Sys2Proof.Machine

open State

variable {bs : List Block} {r s t u v : State} {i j : Infeed} {n c k : Nat} {m : LineMode}

/-! ### Room in the report queue (R197) -/

/-- The queue takes so many reports more. -/
def RoomFor (k : Nat) (s : State) : Prop := s.link.mask = Vector.replicate 26 true ∧ s.link.reports.length + k ≤ 64

theorem QueueOpen.room (h : QueueOpen s) : RoomFor 32 s := ⟨h.1, by have := h.2; omega⟩

theorem RoomFor.queues {new : List Report} (h : RoomFor (new.length + k) s) (q : Queues s t new) : RoomFor k t := by
  obtain ⟨mask, room⟩ := h
  refine ⟨q.mask.trans mask, ?_⟩
  rw [q.reports mask (by omega), List.length_append]
  omega

theorem RoomFor.mono (h : RoomFor n s) (hk : k ≤ n) : RoomFor k s := ⟨h.1, by have := h.2; omega⟩

/-- A report that an operation queues where there is room stands in the queue after it. -/
theorem RoomFor.stands {new : List Report} {x : Report} {p : Report → Prop} {kind : ReportKind} (h : RoomFor new.length s) (q : Queues s t new)
    (hx : x ∈ new) (hk : x.kind = kind) (hp : p x) : Reported t kind p :=
  ⟨x, by rw [q.reports h.1 h.2]; exact List.mem_append_right _ hx, hk, hp⟩

/-! ### What stands at an infeed -/

/-- What the start of watching at an infeed goes by is the same in a later state. -/
structure Beside (i : Infeed) (s t : State) : Prop where
  place : t.place (.infeed i) = s.place (.infeed i)
  taken : tget t.field.entryTaken i.idx = tget s.field.entryTaken i.idx
  scanner : t.scanner (.entry i) = s.scanner (.entry i)
  input : t.input (.entry i) = s.input (.entry i)
  enabled : tget t.track.enabled i.idx = tget s.track.enabled i.idx
  limit : t.setting .ackLimit = s.setting .ackLimit
  time : t.lineTime = s.lineTime
  sends : ∃ new, t.sent = s.sent ++ new
  held : ∀ k, (s.record? k).isSome = true → (t.record? k).isSome = true

/-- The records are kept but for the place they are to move to. -/
def Retains (s t : State) : Prop := ∀ k x, s.record? k = some x → ∃ p, t.record? k = some { x with movingTo := p }

theorem Retains.trans (h : Retains s t) (k : Retains t u) : Retains s u := by
  intro n x hx
  obtain ⟨p, hp⟩ := h n x hx
  obtain ⟨q, hq⟩ := k n _ hp
  exact ⟨q, hq⟩

theorem Retains.of_same (h : ∀ k x, s.record? k = some x → t.record? k = some x) : Retains s t := fun k x hx => ⟨x.movingTo, h k x hx⟩

theorem Retains.held (h : Retains s t) (hk : (s.record? k).isSome = true) : (t.record? k).isSome = true := by
  obtain ⟨x, hx⟩ := Option.isSome_iff_exists.mp hk
  obtain ⟨p, hp⟩ := h k x hx
  rw [hp]
  rfl

namespace Beside

theorem refl (i : Infeed) (s : State) : Beside i s s :=
  ⟨rfl, rfl, rfl, rfl, rfl, rfl, rfl, ⟨[], (List.append_nil _).symm⟩, fun _ => id⟩

theorem trans (h : Beside i s t) (k : Beside i t u) : Beside i s u := by
  obtain ⟨a, ha⟩ := h.sends
  obtain ⟨b, hb⟩ := k.sends
  exact ⟨k.place.trans h.place, k.taken.trans h.taken, k.scanner.trans h.scanner, k.input.trans h.input, k.enabled.trans h.enabled,
    k.limit.trans h.limit, k.time.trans h.time, ⟨a ++ b, by rw [hb, ha, List.append_assoc]⟩, fun n hn => k.held n (h.held n hn)⟩

/-- The blocks that the start of watching goes by, but for the messages sent. -/
def blocks : List Block := [.places, .entryTaken, .scanners, .filtered, .enabled, .settings, .lineTime, .records]

theorem of_keeps (h : KeepsAllBut bs s t) (i : Infeed) (hs : ∃ new, t.sent = s.sent ++ new) (hb : ∀ b ∈ blocks, b ∉ bs := by decide) :
    Beside i s t :=
  ⟨h.place _ (hb _ (by decide)), congrArg (tget · i.idx) (h .entryTaken (hb _ (by decide))), h.scanner _ (hb _ (by decide)),
    h.input _ (hb _ (by decide)), congrArg (tget · i.idx) (h .enabled (hb _ (by decide))), h.setting _ (hb _ (by decide)),
    h .lineTime (hb _ (by decide)), hs, fun n hn => by rw [h.record? n (hb _ (by decide))]; exact hn⟩

theorem of_silent (h : KeepsAllBut bs s t) (i : Infeed) (hs : .sent ∉ bs := by decide) (hb : ∀ b ∈ blocks, b ∉ bs := by decide) :
    Beside i s t :=
  of_keeps h i ⟨[], (h .sent hs).trans (List.append_nil _).symm⟩ hb

end Beside

/-- The records kept by what leaves them. -/
theorem Retains.of_keeps (h : KeepsAllBut bs s t) (hr : .records ∉ bs := by decide) : Retains s t :=
  .of_same fun k x hx => by rw [h.record? k hr, hx]

theorem ArrivalTaken.record? (h : ArrivalTaken u v i n) (free : u.record? n = none) (k : Nat) :
    v.record? k = if k = n then some (newRecord n i u.lineTime) else u.record? k := by
  unfold State.record?
  rw [h.records, List.find?_append]
  split
  · rename_i e
    rw [e, show u.track.records.find? (fun x => x.number == n) = none from free]
    simp [newRecord]
  · rename_i e
    simp [newRecord, Ne.symm e]

theorem ArrivalTaken.record?_held (h : ArrivalTaken u v i n) {x : Record} (hx : u.record? k = some x) : v.record? k = some x := by
  unfold State.record? at hx ⊢
  rw [h.records, List.find?_append, hx]
  rfl

/-- An arrival at another infeed leaves what stands at one. -/
theorem ArrivalTaken.beside (h : ArrivalTaken u v j n) (hij : i ≠ j) : Beside i u v := by
  refine ⟨h.places _ fun e => hij (Place.infeed.inj e), ?taken, h.scanners _ fun e => hij (Scanner.entry.inj e), h.keeps.input _,
    congrArg (tget · i.idx) (h.keeps .enabled (by decide)), h.keeps.setting _, h.keeps .lineTime (by decide), h.sends, fun k hk => ?held⟩
  case held =>
    obtain ⟨x, hx⟩ := Option.isSome_iff_exists.mp hk
    rw [h.record?_held hx]
    rfl
  case taken => rw [h.taken, tget_tset_of_ne _ _ fun e => hij (infeed_idx_injective e).symm]

/-! ### One infeed watched (R29) -/

theorem watch_of_covered (h1 : s.input (.entry i) = true) (h2 : tget s.field.entryTaken i.idx = false) : s.watch i = s.arrive i := by
  unfold State.watch
  rw [if_pos (by simp [h1, h2])]

theorem watch_of_clear (h : s.input (.entry i) = false ∨ tget s.field.entryTaken i.idx = true) : s.watch i = s := by
  unfold State.watch
  rw [if_neg (by rcases h with h | h <;> simp [h])]

/-- Watching an infeed takes an arrival, refuses one, or does nothing. -/
theorem watch_cases (s : State) (i : Infeed) : s.watch i = s ∨ s.watch i = s.createRecord i
    ∨ ∃ c : Nat, s.watch i = s.raise .infeedRefused { detail := i.number, value := some c } := by
  unfold State.watch State.arrive
  split
  · split
    · split
      · exact .inr (.inr ⟨_, rfl⟩)
      · exact .inr (.inl rfl)
    · exact .inl rfl
  · exact .inl rfl

theorem watch_beside (s : State) (hij : i ≠ j) : Beside i s (s.watch j) := by
  rcases watch_cases s j with e | e | ⟨c, e⟩ <;> rw [e]
  · exact .refl i s
  · exact (createRecord_taken s j).beside hij
  · have raised := raise_keeps s .infeedRefused { detail := j.number, value := some (c : Int) }
    exact .of_silent raised i

theorem watch_record?_held {x : Record} (i : Infeed) (hx : s.record? k = some x) : (s.watch i).record? k = some x := by
  rcases watch_cases s i with e | e | ⟨c, e⟩ <;> rw [e]
  · exact hx
  · exact (createRecord_taken s i).record?_held hx
  · have raised := raise_keeps s .infeedRefused { detail := i.number, value := some (c : Int) }
    rw [raised.record?, hx]

theorem watch_retains (s : State) (i : Infeed) : Retains s (s.watch i) := .of_same fun _ _ => watch_record?_held i

theorem watch_of_idle (hw : s.working = false) (i : Infeed) : s.watch i = s := by
  unfold State.watch
  split
  · exact arrive_idle hw
  · rfl

theorem watch_queues (s : State) (i : Infeed) : ∃ new, new.length ≤ 1 ∧ Queues s (s.watch i) new := by
  rcases watch_cases s i with e | e | ⟨c, e⟩ <;> rw [e]
  · exact ⟨[], by simp, .refl s⟩
  · exact ⟨_, by simp, (createRecord_taken s i).queues⟩
  · exact ⟨_, by simp, .raise ..⟩

theorem watch_room (h : RoomFor (k + 1) s) (i : Infeed) : RoomFor k (s.watch i) := by
  obtain ⟨new, hn, q⟩ := watch_queues s i
  exact (h.mono (by omega)).queues q

/-- The table before another arrival has room and a counter in range. -/
def TableOpen (k : Nat) (s : State) : Prop := s.track.records.length ≤ k ∧ 1 ≤ s.track.nextNumber ∧ s.track.nextNumber ≤ 255

theorem watch_open (h : TableOpen k s) (i : Infeed) : TableOpen (k + 1) (s.watch i) := by
  obtain ⟨hl, h1, h2⟩ := h
  rcases watch_cases s i with e | e | ⟨c, e⟩ <;> rw [e]
  · exact ⟨by omega, h1, h2⟩
  · have taken := createRecord_taken s i
    obtain ⟨low, high⟩ := nextNumber_range (s.freeNumber 255 s.track.nextNumber)
    refine ⟨?_, taken.next ▸ low, taken.next ▸ high⟩
    rw [taken.records, List.length_append, List.length_singleton]
    omega
  · have raised := raise_keeps s .infeedRefused { detail := i.number, value := some (c : Int) }
    unfold TableOpen
    rw [show _ = s.track.records from raised .records (by decide), show _ = s.track.nextNumber from raised .nextNumber (by decide)]
    exact ⟨by omega, h1, h2⟩

theorem watch_mode (s : State) (i : Infeed) : (s.watch i).mode = s.mode := by
  rcases watch_cases s i with e | e | ⟨c, e⟩ <;> rw [e]
  · exact (createRecord_taken s i).keeps .mode (by decide)
  · exact raise_keeps _ _ _ .mode (by decide)

/-- Where neither state's table is full, an arrival is refused in both or in neither. -/
theorem Beside.refusedFor (h : Beside i s u) (hs : s.track.records.length < 32) (hu : u.track.records.length < 32) (m : LineMode) (c : Nat) :
    RefusedFor u i m c ↔ RefusedFor s i m c := by
  have full : ¬ 32 ≤ s.track.records.length ∧ ¬ 32 ≤ u.track.records.length := by omega
  unfold RefusedFor
  simp only [h.place, h.enabled, full.1, full.2]

/-- The arrival handed on at an infeed, in a state before it and one after it that have the infeed as it was (R29, R55 to R58). -/
theorem watched_of (b : Beside i s u) (hs : s.track.records.length < 32) (hm : u.mode.mode = m) (hw : m = .run ∨ m = .drain) (ho : TableOpen 31 u)
    (hq : QueueOpen s → RoomFor 1 u) (a : Beside i (u.watch i) t) (ret : Retains (u.watch i) t) (g : Grows (fun _ => True) (u.watch i) t) :
    Watched s t i m := by
  obtain ⟨hl, h1, h2⟩ := ho
  have working : u.working = true := working_iff.mpr (hm ▸ hw)
  have refused (c : Nat) := b.refusedFor hs (by omega) m c
  refine ⟨fun hi hk => ?_, fun hi => ?_⟩
  · have watch : u.watch i = u.arrive i := watch_of_covered (b.input.trans hi) (b.taken.trans hk)
    rw [watch] at a ret g
    refine ⟨fun none => ?_, fun c hc => ?_⟩
    · rw [arrive_created working fun c => hm ▸ mt (refused c).mp (none c)] at a ret g
      have taken := createRecord_taken u i
      obtain ⟨⟨free, -⟩, low, high⟩ := freeNumber_next (s := u) (by omega) h1 h2
      generalize u.freeNumber 255 u.track.nextNumber = n at taken free low high
      obtain ⟨p, hp⟩ := ret n _ ((taken.record? free n).trans (if_pos rfl))
      refine ⟨n, _, fun hq' => ?_, taken.entryReadAsked b.scanner b.limit a.scanner a.sends, ?_, low, high, hp, ?_, ?_, ?_, ?_⟩
      · refine (RoomFor.stands (new := [u.arrivalReport i n]) (hq hq') (p := fun x => x.track = some n ∧ x.load = .none ∧ x.position = .none ∧ x.detail = i.number
          ∧ x.value = some (((s.place (.infeed i)).occupants.length + 1 : Nat) : Int)) taken.queues (List.mem_singleton_self _) rfl
          ⟨rfl, rfl, rfl, rfl, ?_⟩).grows g
        rw [State.arrivalReport, b.place]
      · refine Option.not_isSome_iff_eq_none.mp fun held => ?_
        have still := b.held n held
        rw [free] at still
        cases still
      · rw [b.time]
      · rw [a.place, taken.place, b.place]
      · rw [a.taken, taken.taken, tget_tset_self]
      · rw [a.scanner]; exact taken.pending
    · rw [arrive_refused working (hm ▸ (refused c).mpr hc)] at a g
      have raised := raise_keeps u .infeedRefused { detail := i.number, value := some (c : Int) }
      have all := b.trans ((Beside.of_silent raised i).trans a)
      refine ⟨⟨all.place, all.taken⟩, fun hq' => ?_⟩
      exact (RoomFor.stands (new := [_]) (hq hq') (.raise ..) (List.mem_singleton_self _) rfl ⟨rfl, rfl⟩).grows g
  · rw [watch_of_clear (by rw [b.input, b.taken]; exact hi)] at a
    have all := b.trans a
    exact ⟨all.place, all.taken⟩

/-! ### Every infeed watched (R29), and the line in RUN -/

theorem watchAll_eq (s : State) : s.watchAll = ((s.watch .a).watch .b).watch .c := rfl

theorem watchAll_watched (b : ∀ i, Beside i s u) (hs : s.track.records.length ≤ 29) (hm : u.mode.mode = .run) (ho : TableOpen 29 u)
    (hq : QueueOpen s → RoomFor 3 u) (a : ∀ i, Beside i u.watchAll t) (ret : Retains u.watchAll t) (g : Grows (fun _ => True) u.watchAll t)
    (i : Infeed) : Watched s t i .run := by
  have full : s.track.records.length < 32 := by omega
  have open' {k : Nat} {w : State} (h : TableOpen k w) (hk : k ≤ 31) : TableOpen 31 w := ⟨h.1.trans hk, h.2⟩
  have hb : (u.watch .a).mode.mode = .run := by rw [watch_mode, hm]
  have hc : ((u.watch .a).watch .b).mode.mode = .run := by rw [watch_mode, hb]
  rw [watchAll_eq] at a ret g
  have c3 := watch_beside ((u.watch .a).watch .b) (i := .b) (j := .c) (by decide)
  have r3 := watch_retains ((u.watch .a).watch .b) .c
  have g3 : Grows _ ((u.watch .a).watch .b) _ := watch_grows .c
  cases i with
  | a =>
    have c2 := watch_beside (u.watch .a) (i := .a) (j := .b) (by decide)
    have c3 := watch_beside ((u.watch .a).watch .b) (i := .a) (j := .c) (by decide)
    exact watched_of (b .a) full hm (.inl rfl) (open' ho (by decide)) (fun h => (hq h).mono (by decide)) (c2.trans (c3.trans (a .a)))
      ((watch_retains _ _).trans (r3.trans ret)) ((watch_grows _).trans (g3.trans g))
  | b =>
    have c1 := watch_beside u (i := .b) (j := .a) (by decide)
    exact watched_of ((b .b).trans c1) full hb (.inl rfl) (open' (watch_open ho _) (by decide))
      (fun h => (watch_room (k := 2) (hq h) _).mono (by decide)) (c3.trans (a .b)) (r3.trans ret) (g3.trans g)
  | c =>
    have c1 := watch_beside u (i := .c) (j := .a) (by decide)
    have c2 := watch_beside (u.watch .a) (i := .c) (j := .b) (by decide)
    exact watched_of ((b .c).trans (c1.trans c2)) full hc (.inl rfl) (open' (watch_open (watch_open ho _) _) (by decide))
      (fun h => watch_room (k := 1) (watch_room (k := 2) (hq h) _) _) (a .c) ret g

theorem watchAll_retains (s : State) : Retains s s.watchAll :=
  (watch_retains s .a).trans ((watch_retains _ .b).trans (watch_retains _ .c))

theorem watchAll_keeps (s : State) : KeepsAllBut [.queue, .entryTaken, .places, .records, .nextNumber, .scanners, .sent] s s.watchAll :=
  (keeps_watchAll (by decide)).mpr keeps_refl

theorem pursueGrant_beside (s : State) (i : Infeed) : Beside i s s.pursueGrant := by
  have k := pursueGrant_keeps s
  have taken := pursueGrant_taken s
  refine ⟨taken.others _ (by simp), congrArg (tget · i.idx) (k .entryTaken (by decide)), k.scanner _, k.input _,
    congrArg (tget · i.idx) (k .enabled (by decide)), k.setting _, k .lineTime (by decide), ⟨[], (k .sent (by decide)).trans (List.append_nil _).symm⟩,
    fun n hn => ?_⟩
  rcases taken.record n with e | e <;> rw [e]
  · exact hn
  · rwa [Option.isSome_map]

theorem pursueGrant_retains (s : State) : Retains s s.pursueGrant := by
  intro k x hx
  rcases (pursueGrant_taken s).record k with e | e <;> rw [e, hx]
  · exact ⟨x.movingTo, rfl⟩
  · exact ⟨_, rfl⟩

/-- The line in RUN, every arrival that the start of watching hands on taken or refused. -/
def RunsWatched (s t : State) : Prop := t.mode.mode = .run ∧ (∀ i, Watched s t i .run)
  ∧ (∀ k r, s.record? k = some r → (t.record? k).isSome = true) ∧ t.track.enabled = s.track.enabled

/-- The line brought to RUN watches every infeed and takes up its grant (R29, R81). -/
theorem entered_watched (b : ∀ i, Beside i s u) (he : u.track.enabled = s.track.enabled) (hs : s.track.records.length ≤ 29)
    (hm : u.mode.mode = .run) (ho : TableOpen 29 u) (hq : QueueOpen s → RoomFor 3 u) (k : KeepsAllBut (.sent :: derived) u.watchAll.pursueGrant t)
    (sends : ∃ new, t.sent = u.watchAll.pursueGrant.sent ++ new) (g : Grows (fun _ => True) u.watchAll.pursueGrant t) : RunsWatched s t := by
  have kw := watchAll_keeps u
  have kp := pursueGrant_keeps u.watchAll
  have after := (pursueGrant_retains u.watchAll).trans (.of_keeps k)
  refine ⟨?_, watchAll_watched b hs hm ho hq (fun i => (pursueGrant_beside _ i).trans (.of_keeps k i sends)) after
    ((pursueGrant_grows _).trans g), fun n x hx => ?_, ?_⟩
  · rw [show t.mode = _ from k .mode (by decide), pursueGrant_mode, watchAll_mode, hm]
  · exact ((watchAll_retains u).trans after).held ((b .a).held n (by rw [hx]; rfl))
  · rw [show t.track.enabled = _ from k .enabled (by decide), show _ = u.watchAll.track.enabled from kp .enabled (by decide),
      show _ = u.track.enabled from kw .enabled (by decide), he]

end Sys2Proof.Machine
end

section
/-! INFEED_SET and the start of watching (R29, R33, R66, R69). -/

namespace Sys2Proof.Machine

open State

variable {bs : List Block} {r s t u v : State} {i j : Infeed} {n c k : Nat} {q : Req}

/-! ### The line brought to RUN -/

/-- A line brought to RUN by what leaves the infeeds, at the end of the step. -/
theorem ran_watched (k : KeepsAllBut [.answering, .mode, .wakeHolds, .queue, .freeDraws] s u) (hs : TableOpen 29 s) (hm : u.mode.mode = .run)
    (hq : QueueOpen s → RoomFor 3 u) (kt : KeepsAllBut (.sent :: derived) u.watchAll.pursueGrant t)
    (sends : ∃ new, t.sent = u.watchAll.pursueGrant.sent ++ new) (g : Grows (fun _ => True) u.watchAll.pursueGrant t) : RunsWatched s t := by
  have ho : TableOpen 29 u := by
    unfold TableOpen
    rwa [show u.track.records = _ from k .records (by decide), show u.track.nextNumber = _ from k .nextNumber (by decide)]
  exact entered_watched (fun i => .of_silent k i) (k .enabled (by decide)) hs.1 hm ho hq kt sends g

theorem settle_anyGrows (s : State) : Grows (fun _ => True) s s.settle := (settle_grows s).mono fun _ _ => trivial

theorem answered_sends (w : State) (m : Message) : ∃ new, (w.settle.send m).sent = w.sent ++ new := by
  have e : w.settle.sent = w.sent := settle_keeps w .sent (by decide)
  exact ⟨[m], (congrArg (· ++ [m]) e)⟩

theorem answered_grows (w : State) (m : Message) : Grows (fun _ => True) w (w.settle.send m) := by
  obtain ⟨rest, e, h⟩ := settle_anyGrows w
  exact ⟨rest, by rw [send_link]; exact e, h⟩

theorem settled_sends (w : State) : ∃ new, w.settle.sent = w.sent ++ new :=
  ⟨[], (settle_keeps w .sent (by decide)).trans (List.append_nil _).symm⟩

theorem QueueOpen.roomAfter {new : List Report} (h : QueueOpen s) (q : Queues s u new) (hn : new.length ≤ 29) : RoomFor 3 u :=
  RoomFor.queues (h.room.mono (by omega)) q

theorem asked_keeps (s : State) : KeepsAllBut [.answering] s s.asked := by simp [State.asked]

/-- SET_MODE RUN watches the infeeds. -/
theorem setModeRun_watches (h : Addressed q s) (hm : s.mode.mode = .stopped ∨ s.mode.mode = .drain) (hi : s.link.identity.isSome = true)
    (hs : TableOpen 29 s) : ∃ t, exec (.setModeRun q) s = .next t ∧ RunsWatched s t := by
  have run : exec (.setModeRun q) s = .next ((s.asked.enterRun .setMode).settle.send (s.reply 0x40 .ok (.mode .run))) := by
    show Host.Outcome.next _ = _
    rw [serve_taken h (setRun_taken (s := s.asked) hm hi) rfl (by decide)]
  have k : KeepsAllBut [.answering, .mode, .wakeHolds, .queue, .freeDraws] s ((s.asked.setDrain none).changeMode .run .setMode) := by
    simp [State.asked]
  have queues := (Queues.of_keeps (asked_keeps s)).trans (setDrain_changeMode_queues none .run .setMode)
  exact ⟨_, run, ran_watched k hs (by simp) (fun ho => ho.roomAfter queues (by simp)) (settledSend_keeps _ _) (answered_sends _ _)
    (answered_grows _ _)⟩

/-- A drain that fails watches the infeeds. -/
theorem drainLimit_watches (hm : s.mode.mode = .drain) (hd : s.mode.drain = some 0) (hs : TableOpen 29 s) :
    ∃ t, exec .drainLimitExpiry s = .next t ∧ RunsWatched s t := by
  have mode : s.drainLost.mode.mode = .run := by
    unfold State.drainLost
    rw [show State.mode (State.raise _ _ _) = _ from raise_keeps _ _ _ .mode (by decide)]
    simp
  exact ⟨_, exec_drainLimitExpiry hm hd, ran_watched ((drainLost_keeps s).mono (by decide)) hs mode
    (fun ho => ho.roomAfter (drainLost_queues s) (by simp)) ((settle_keeps _).mono (by decide)) (settled_sends _) (settle_anyGrows _)⟩

/-- A wake hold that starts the line watches the infeeds. -/
theorem wakeHold_watches (hw : tget s.field.wakeHolds i.idx = some 0) (hm : s.mode.mode = .stopped) (hi : s.link.identity.isSome = true)
    (hs : TableOpen 29 s) : ∃ t, exec (.wakeHoldExpiry i) s = .next t ∧ RunsWatched s t := by
  have run := exec_wakeHoldExpiry hw hm
  rw [if_pos hi] at run
  have k : KeepsAllBut [.answering, .mode, .wakeHolds, .queue, .freeDraws] s ((s.stopWakes.setDrain none).changeMode .run .autoWake) := by simp
  have queues := (Queues.of_keeps (stopWakes_keeps s)).trans (setDrain_changeMode_queues none .run .autoWake)
  exact ⟨_, run, ran_watched k hs (by simp) (fun ho => ho.roomAfter queues (by simp)) ((settle_keeps _).mono (by decide)) (settled_sends _)
    (settle_anyGrows _)⟩

/-! ### RESUME of a line that was in RUN (R181, R182) -/

/-- The line back in the mode it was halted in, the times kept moved on, before it acts in it. -/
def State.returned (s : State) (m : LineMode) : State :=
  ((s.modMode fun u => { u with saved := none }).anchorTimes.sendAll .resume).changeMode m .resumed

theorem leaveHalt_run (h : s.mode.saved = some .run) : s.leaveHalt = (s.returned .run).watchAll.pursueGrant := by
  unfold State.leaveHalt State.savedMode
  rw [h]
  rfl

theorem anchorTimes_record? (k : Nat) : s.anchorTimes.record? k
    = (s.record? k).map fun x => { x with deferral := x.deferral.map fun d => d.anchor s.lineTime } := by
  show (s.track.records.map _).find? _ = (s.track.records.find? _).map _
  rw [List.find?_map]
  rfl

theorem returned_keeps (s : State) (m : LineMode) : KeepsAllBut [.records, .grant, .check, .mass, .mode, .sent, .queue, .wakeHolds] s (s.returned m) := by
  simp [State.returned]

theorem returned_after (s : State) (m : LineMode) :
    KeepsAllBut [.mode, .queue, .wakeHolds] ((s.modMode fun u => { u with saved := none }).anchorTimes.sendAll .resume) (s.returned m) := by
  simp [State.returned]

theorem returned_record? (m : LineMode) (k : Nat) : (s.returned m).record? k
    = (s.record? k).map fun x => { x with deferral := x.deferral.map fun d => d.anchor s.lineTime } := by
  rw [(returned_after s m).record?]
  exact anchorTimes_record? k

theorem returned_records (m : LineMode) : (s.returned m).track.records.length = s.track.records.length := by
  rw [show (s.returned m).track.records = _ from returned_after s m .records (by decide)]
  exact List.length_map _

theorem returned_beside (s : State) (m : LineMode) (i : Infeed) : Beside i s (s.returned m) := by
  have k := returned_keeps s m
  have sent : (s.returned m).sent = _ := returned_after s m .sent (by decide)
  refine ⟨k.place _, congrArg (tget · i.idx) (k .entryTaken (by decide)), k.scanner _, k.input _,
    congrArg (tget · i.idx) (k .enabled (by decide)), k.setting _, k .lineTime (by decide), ?_, fun n hn => ?_⟩
  · rw [sent]
    exact ⟨[.resume (.wrapper .one), .resume (.wrapper .two), .resume .printer], by simp [State.sendAll, State.send]; rfl⟩
  · rw [returned_record?, Option.isSome_map]
    exact hn

theorem returned_queues (s : State) (m : LineMode) : Queues s (s.returned m) [modeReport s.lineTime m .resumed] := by
  have k : KeepsAllBut [.records, .grant, .check, .mass, .mode, .sent] s
      ((s.modMode fun u => { u with saved := none }).anchorTimes.sendAll .resume) := by simp
  have q := (Queues.of_keeps k).trans (changeMode_queues m .resumed)
  rw [show _ = s.lineTime from k .lineTime (by decide)] at q
  unfold State.returned modeReport
  exact q

/-- RESUME of a line with RUN saved watches the infeeds. -/
theorem resume_watches (h : Addressed q s) (hm : s.mode.mode = .halted) (he : s.field.estop = false) (hv : s.mode.saved = some .run)
    (hs : TableOpen 29 s) : ∃ t, exec (.resume q) s = .next t ∧ RunsWatched s t := by
  have op : resumeOp s.asked = ((s.asked.returned .run).watchAll.pursueGrant, .ok, .mode s.asked.savedMode) := by
    unfold resumeOp
    rw [if_neg (by simp [hm]), if_neg (by simp [he]), leaveHalt_run (s := s.asked) hv]
  have run : exec (.resume q) s
      = .next ((s.asked.returned .run).watchAll.pursueGrant.settle.send (s.reply 0x41 .ok (.mode s.asked.savedMode))) := by
    show Host.Outcome.next _ = _
    rw [serve_taken h op rfl (by decide)]
  have base (i : Infeed) : Beside i s (s.asked.returned .run) := (Beside.of_silent (asked_keeps s) i).trans (returned_beside _ _ i)
  have k := returned_keeps s.asked .run
  have queues := (Queues.of_keeps (asked_keeps s)).trans (returned_queues s.asked .run)
  refine ⟨_, run, entered_watched base (k .enabled (by decide)) hs.1 (by simp [State.returned]) ⟨?_, ?_⟩ (fun ho => ho.roomAfter queues (by simp))
    (settledSend_keeps _ _) (answered_sends _ _) (answered_grows _ _)⟩
  · rw [returned_records]
    exact hs.1
  · rw [show (s.asked.returned .run).track.nextNumber = _ from k .nextNumber (by decide)]
    exact hs.2

/-! ### INFEED_SET (R66, R69) -/

/-- The state of an infeed alone. -/
def State.infeedState (s : State) (i : Infeed) (on : Bool) : State := s.modTrack fun t => { t with enabled := tset t.enabled i.idx on }

theorem infeedState_keeps (s : State) (i : Infeed) (on : Bool) : KeepsAllBut [.enabled] s (s.infeedState i on) := by simp [State.infeedState]

theorem infeedState_enabled (on : Bool) (j : Infeed) :
    tget (s.infeedState i on).track.enabled j.idx = if j = i then on else tget s.track.enabled j.idx := by
  show tget (tset s.track.enabled i.idx on) j.idx = _
  split
  · rename_i e; rw [e, tget_tset_self]
  · rename_i e; exact tget_tset_of_ne _ _ fun h => e (infeed_idx_injective h).symm

theorem setEnabled_same {on : Bool} (h : tget s.track.enabled i.idx = on) : s.setEnabled i on = s := if_pos (by simp [h])

theorem setEnabled_on (h : tget s.track.enabled i.idx = false) : s.setEnabled i true = ((s.infeedState i true).watch i).startWake i :=
  if_neg (by simp [h])

theorem setEnabled_off (h : tget s.track.enabled i.idx = true) : s.setEnabled i false = (s.infeedState i false).stopWake i :=
  if_neg (by simp [h])

theorem startWake_keeps (s : State) (i : Infeed) : KeepsAllBut [.wakeHolds] s (s.startWake i) := (keeps_startWake (by decide)).mpr keeps_refl

theorem stopWake_keeps (s : State) (i : Infeed) : KeepsAllBut [.wakeHolds] s (s.stopWake i) := (keeps_stopWake (by decide)).mpr keeps_refl

theorem watch_keeps (s : State) (i : Infeed) : KeepsAllBut [.queue, .entryTaken, .places, .records, .nextNumber, .scanners, .sent] s (s.watch i) :=
  (keeps_watch (by decide)).mpr keeps_refl

/-- The three things that setting an infeed's state may come to. -/
theorem setEnabled_cases (s : State) (i : Infeed) (on : Bool) : (tget s.track.enabled i.idx = on ∧ s.setEnabled i on = s)
    ∨ (on = true ∧ tget s.track.enabled i.idx = false ∧ s.setEnabled i on = ((s.infeedState i true).watch i).startWake i)
    ∨ (on = false ∧ tget s.track.enabled i.idx = true ∧ s.setEnabled i on = (s.infeedState i false).stopWake i) := by
  cases on <;> cases h : tget s.track.enabled i.idx
  · exact .inl ⟨rfl, setEnabled_same h⟩
  · exact .inr (.inr ⟨rfl, rfl, setEnabled_off h⟩)
  · exact .inr (.inl ⟨rfl, rfl, setEnabled_on h⟩)
  · exact .inl ⟨rfl, setEnabled_same h⟩

theorem setEnabled_enabled (s : State) (i : Infeed) (on : Bool) (j : Infeed) :
    tget (s.setEnabled i on).track.enabled j.idx = if j = i then on else tget s.track.enabled j.idx := by
  rw [← infeedState_enabled]
  rcases setEnabled_cases s i on with ⟨h, e⟩ | ⟨rfl, h, e⟩ | ⟨rfl, h, e⟩ <;> rw [e]
  · rw [infeedState_enabled]
    split
    · rename_i hj; rw [hj, h]
    · rfl
  · exact congrArg (tget · j.idx) ((startWake_keeps _ i .enabled (by decide)).trans (watch_keeps _ i .enabled (by decide)))
  · rfl

/-- Without a covered entry sensor whose mark is clear, setting an infeed's state hands on no arrival. -/
theorem setEnabled_quiet (on : Bool) (h : s.input (.entry i) = false ∨ tget s.field.entryTaken i.idx = true ∨ on = false) :
    KeepsAllBut [.enabled, .wakeHolds] s (s.setEnabled i on) := by
  rcases setEnabled_cases s i on with ⟨-, e⟩ | ⟨rfl, -, e⟩ | ⟨rfl, -, e⟩ <;> rw [e]
  · exact keeps_refl
  · have clear : (s.infeedState i true).watch i = s.infeedState i true := by
      refine watch_of_clear (h.imp id fun h => h.resolve_right (by simp))
    rw [clear]
    exact ((infeedState_keeps s i true).mono (by decide)).trans ((startWake_keeps _ i).mono (by decide))
  · exact ((infeedState_keeps s i false).mono (by decide)).trans ((stopWake_keeps _ i).mono (by decide))

theorem setEnabled_other_hold {on : Bool} (hj : j ≠ i) : tget (s.setEnabled i on).field.wakeHolds j.idx = tget s.field.wakeHolds j.idx := by
  rcases setEnabled_cases s i on with ⟨-, e⟩ | ⟨rfl, -, e⟩ | ⟨rfl, -, e⟩ <;> rw [e]
  · rw [startWake_hold, if_neg fun c => hj c.1]
    exact congrArg (tget · j.idx) (watch_keeps _ i .wakeHolds (by decide))
  · exact tget_tset_of_ne _ _ fun h => hj (infeed_idx_injective h).symm

theorem KeepsAllBut.oldest (k : KeepsAllBut bs s t) (i : Infeed) (hp : .places ∉ bs := by decide) (hr : .records ∉ bs := by decide) :
    t.oldest i = s.oldest i := by
  unfold State.oldest
  rw [k.place _ hp]
  split
  · rfl
  · exact k.record? _ hr

/-- The answer to INFEED_SET: the infeed's state, its pallets and the stage of its oldest record (R69). -/
def State.infeedAnswer (s : State) (i : Infeed) (on : Bool) : ReplyBody :=
  .infeed on (s.place (.infeed i)).occupants.length ((s.oldest i).map (·.stage))

/-- INFEED_SET of an infeed and a state is answered with the infeed as it then stands. -/
theorem exec_infeedSet {a : Nat} (h : Addressed q s) (hi : infeedOf n = some i) (hv : a ≤ 1) : exec (.infeedSet q n a) s
    = .next ((s.asked.setEnabled i (a == 1)).settle.send (s.reply 0x28 .ok ((s.asked.setEnabled i (a == 1)).infeedAnswer i (a == 1)))) := by
  have op : setInfeed n a s.asked = (s.asked.setEnabled i (a == 1), .ok, (s.asked.setEnabled i (a == 1)).infeedAnswer i (a == 1)) := by
    unfold setInfeed State.infeedAnswer
    rw [hi]
    dsimp only
    rw [if_neg (by omega), setEnabled_enabled, if_pos rfl]
  show Host.Outcome.next _ = _
  rw [serve_taken h op rfl (by decide)]

theorem setEnabled_keeps (s : State) (i : Infeed) (on : Bool) : KeepsAllBut [.queue, .entryTaken, .wakeHolds, .places, .records, .nextNumber,
    .enabled, .scanners, .sent] s (s.setEnabled i on) := (keeps_setEnabled (by decide)).mpr keeps_refl

/-- An infeed enabled in STOPPED starts its wake hold where its conditions hold, and in another mode none (R33). -/
theorem setEnabled_wakes (he : tget s.track.enabled i.idx = false) (k : KeepsAllBut bs (s.setEnabled i true) t)
    (hw : .wakeHolds ∉ bs := by decide) (hs : .settings ∉ bs := by decide) (hen : .enabled ∉ bs := by decide) (hf : .filtered ∉ bs := by decide) :
    (s.mode.mode = .stopped → WakeStarts t i (tget s.field.wakeHolds i.idx))
      ∧ (s.mode.mode ≠ .stopped → t.field.wakeHolds = s.field.wakeHolds) := by
  have kw : KeepsAllBut [.queue, .entryTaken, .places, .records, .nextNumber, .scanners, .sent, .enabled] s ((s.infeedState i true).watch i) :=
    ((infeedState_keeps s i true).mono (by decide)).trans ((watch_keeps _ i).mono (by decide))
  have ks := startWake_keeps ((s.infeedState i true).watch i) i
  have mode : ((s.infeedState i true).watch i).mode = s.mode := kw .mode (by decide)
  have holds : ((s.infeedState i true).watch i).field.wakeHolds = s.field.wakeHolds := kw .wakeHolds (by decide)
  have enabled : tget (s.setEnabled i true).track.enabled i.idx = true := (setEnabled_enabled s i true i).trans (if_pos rfl)
  have on : tget ((s.infeedState i true).watch i).track.enabled i.idx = true :=
    (congrArg (tget · i.idx) (watch_keeps _ i .enabled (by decide))).trans ((infeedState_enabled true i).trans (if_pos rfl))
  have start : t.field.wakeHolds = (((s.infeedState i true).watch i).startWake i).field.wakeHolds := by
    rw [← setEnabled_on he]
    exact k .wakeHolds hw
  refine ⟨fun hm => ?_, fun hm => ?_⟩
  · unfold WakeStarts
    rw [start, startWake_hold, k.setting _ hs, k.setting _ hs, k.input _ hf, show t.track.enabled = _ from k .enabled hen, enabled, on, mode, holds,
      setEnabled_on he, ks.setting, ks.setting, ks.input]
    simp [hm]
  · rw [start, startWake_of_mode (by rw [mode]; exact hm), holds]

/-- INFEED_SET enabling an infeed hands on the arrival there in RUN and in DRAIN, and none in another mode (R29, R66). -/
theorem infeedSet_watches (h : Addressed q s) (hi : infeedOf n = some i) (he : tget s.track.enabled i.idx = false) (hs : TableOpen 29 s) :
    ∃ t, exec (.infeedSet q n 1) s = .next t ∧ (∀ j, j ≠ i → NotArrived s t j) ∧ (∀ k, (s.record? k).isSome = true → t.record? k = s.record? k)
      ∧ (s.mode.mode = .run ∨ s.mode.mode = .drain → Watched (s.infeedState i true) t i s.mode.mode)
      ∧ (s.mode.mode ≠ .run → s.mode.mode ≠ .drain → NotArrived s t i ∧ t.track.records = s.track.records) := by
  have run := exec_infeedSet (a := 1) h hi le_rfl
  have at' : s.asked.infeedState i true = (s.infeedState i true).asked := rfl
  rw [show ((1 : Nat) == 1) = true from rfl, setEnabled_on (s := s.asked) he, at'] at run
  have before := asked_keeps (s.infeedState i true)
  have first : KeepsAllBut [.enabled, .answering] s (s.infeedState i true).asked :=
    ((infeedState_keeps s i true).mono (by decide)).trans (before.mono (by decide))
  have mode : (s.infeedState i true).asked.mode = s.mode := rfl
  have table : TableOpen 31 (s.infeedState i true).asked := ⟨hs.1.trans (by decide), hs.2⟩
  generalize (s.infeedState i true).asked = u at run before first mode table
  have started := startWake_keeps (u.watch i) i
  have startSent : ((u.watch i).startWake i).sent = (u.watch i).sent := started .sent (by decide)
  have startGrows : Grows (fun _ => True) (u.watch i) ((u.watch i).startWake i) := .of_keeps started
  generalize (u.watch i).startWake i = w at run started startSent startGrows
  have k : KeepsAllBut (.wakeHolds :: .sent :: derived) (u.watch i) (w.settle.send (s.reply 0x28 .ok (w.infeedAnswer i true))) :=
    (started.mono (by decide)).trans ((settledSend_keeps _ _).mono (by decide))
  have sends := answered_sends w (s.reply 0x28 .ok (w.infeedAnswer i true))
  have grows := startGrows.trans (answered_grows w (s.reply 0x28 .ok (w.infeedAnswer i true)))
  rw [startSent] at sends
  refine ⟨_, run, fun j hj => ?_, fun k' hk => ?_, fun hm => ?_, fun h1 h2 => ?_⟩
  · have watched := watch_beside u hj
    refine ⟨?_, (congrArg (tget · j.idx) (k .entryTaken (by decide))).trans
      (watched.taken.trans (congrArg (tget · j.idx) (first .entryTaken (by decide))))⟩
    rw [k.place, watched.place, first.place]
  · obtain ⟨x, hx⟩ := Option.isSome_iff_exists.mp hk
    rw [k.record?, hx, watch_record?_held i ((first.record? k').trans hx)]
  · have full : (s.infeedState i true).track.records.length < 32 := by
      have := hs.1
      show s.track.records.length < 32
      omega
    refine watched_of (.of_silent before i) full (by rw [mode]) hm table (fun ho => ?_) (.of_keeps k i sends) (.of_keeps k) grows
    exact ((QueueOpen.room ho).mono (by decide) : RoomFor 1 (s.infeedState i true)).queues (new := []) (.of_keeps before)
  · have idle : u.working = false := Bool.eq_false_iff.mpr fun e => by
      rw [working_iff, mode] at e
      exact e.elim h1 h2
    rw [watch_of_idle idle] at k
    refine ⟨⟨?_, ?_⟩, ?_⟩
    · rw [k.place, first.place]
    · exact (congrArg (tget · i.idx) (k .entryTaken (by decide))).trans (congrArg (tget · i.idx) (first .entryTaken (by decide)))
    · exact (k .records (by decide)).trans (first .records (by decide))

/-- Settles O16: INFEED_SET, and the start of watching by each of its causes. -/
theorem infeedsAreSetAndWatched : Obligations.InfeedsAreSetAndWatched := by
  refine ⟨fun q n v i s h hi hv => ?set, fun q n v s h bad => ?refused, fun q s hl h1 h2 => ⟨fun c hc => ?run, fun n i h hi he u hu => ?enable⟩⟩
  case set =>
    have run := exec_infeedSet h hi hv
    have keep := setEnabled_keeps s.asked i (v == 1)
    have enabled (j : Infeed) := setEnabled_enabled s.asked i (v == 1) j
    have hold (j : Infeed) (hj : j ≠ i) := setEnabled_other_hold (s := s.asked) (on := v == 1) hj
    have same (e : tget s.track.enabled i.idx = (v == 1)) := setEnabled_same (s := s.asked) e
    have quiet := setEnabled_quiet (s := s.asked) (i := i) (v == 1)
    have k := settledSend_keeps (s.asked.setEnabled i (v == 1)) (s.reply 0x28 .ok ((s.asked.setEnabled i (v == 1)).infeedAnswer i (v == 1)))
    have kept : (tget s.track.enabled i.idx = (v == 1) → KeepsAllBut [] s.asked (s.asked.setEnabled i (v == 1))) := fun e => by
      rw [same e]; exact keeps_refl
    refine ⟨_, (s.asked.setEnabled i (v == 1)).infeedAnswer i (v == 1), run, ?_, fun j hj => ?_, ?_, ?_, ?_, fun e => requestKeeps_settle (kept e), fun c => requestKeeps_settle (quiet (c.imp id .inl)),
      fun c => requestKeeps_settle (quiet (.inr (.inr (by simp [c])))), fun c e => ?_, fun c e => ?_, fun j hj => ?_⟩
    · exact (congrArg (tget · i.idx) (k .enabled (by decide))).trans ((enabled i).trans (if_pos rfl))
    · exact (congrArg (tget · j.idx) (k .enabled (by decide))).trans ((enabled j).trans (if_neg hj))
    · exact (k .answering (by decide)).trans (keep .answering (by decide))
    · simp [State.send, State.reply]
    · rw [k.place, k.oldest]
      rfl
    · subst c
      exact setEnabled_wakes (s := s.asked) e k
    · subst c
      have off : (s.asked.setEnabled i (0 == 1)).field.wakeHolds = tset s.field.wakeHolds i.idx none :=
        congrArg (·.field.wakeHolds) (setEnabled_off (s := s.asked) e)
      exact (congrArg (tget · i.idx) ((k .wakeHolds (by decide)).trans off)).trans (tget_tset_self ..)
    · exact (congrArg (tget · j.idx) (k .wakeHolds (by decide))).trans (hold j hj)
  case refused =>
    refine request_refused rfl h (t := s.asked) ?_ rfl
    unfold setInfeed
    rcases e : infeedOf n with _ | i
    · rfl
    · have known : 1 ≤ n ∧ n ≤ 3 := by
        unfold infeedOf at e
        split at e <;> simp_all
      exact if_pos (by omega)
  case run =>
    have hs : TableOpen 29 s := ⟨hl, h1, h2⟩
    rcases hc with ⟨rfl, h, hm, hi⟩ | ⟨rfl, h, hm, he, hv⟩ | ⟨rfl, hm, hd⟩ | ⟨j, rfl, hm, hw, hi⟩
    · exact setModeRun_watches h hm hi hs
    · exact resume_watches h hm he hv hs
    · exact drainLimit_watches hm hd hs
    · exact wakeHold_watches hw hm hi hs
  case enable =>
    subst hu
    exact infeedSet_watches h hi he ⟨hl, h1, h2⟩

end Sys2Proof.Machine
end

section
/-! SUPPORT. The watch of the one-pallet places, and CHECK becoming UNKNOWN (R38, R108). -/

namespace Sys2Proof.Machine

open State

variable {bs : List Block} {r s t u : State} {p : Place} {i j : Input} {why : Int} {cap : Capture}

/-! ### A place becomes UNKNOWN (R38, R108) -/

/-- The place UNKNOWN and reported, the zero capture not yet told. -/
def State.unknownMarked (s : State) (p : Place) (why : Int) : State :=
  (s.modPlace p fun e => { e with unknown := true, clearing := false }).raise .placeUnknown { detail := p.number, value := some why }

theorem unknownMarked_keeps (s : State) (p : Place) (why : Int) : KeepsAllBut [.places, .queue] s (s.unknownMarked p why) := by
  simp [State.unknownMarked]

theorem unknownMarked_queues (s : State) (p : Place) (why : Int) : Queues s (s.unknownMarked p why) [s.unknownReport p why] := by
  have k : KeepsAllBut [.places] s (s.modPlace p fun e => { e with unknown := true, clearing := false }) := by simp
  exact Queues.raised k

theorem zeroOpen_iff : s.zeroOpen = true ↔ ∃ cap, s.mass.capture = some cap ∧ cap.purpose = .zero := by
  unfold State.zeroOpen
  cases s.mass.capture <;> simp

theorem markUnknown_eq (s : State) (p : Place) (why : Int) : s.markUnknown p why
    = if p = .check ∧ s.zeroOpen = true then (s.unknownMarked p why).failZero 5 none else s.unknownMarked p why := by
  have same : (s.unknownMarked p why).zeroOpen = s.zeroOpen := by
    unfold State.zeroOpen
    rw [show (s.unknownMarked p why).mass = s.mass from unknownMarked_keeps s p why .mass (by decide)]
  rw [← same]
  simp only [← beq_iff_eq (a := p), ← Bool.and_eq_true]
  rfl

theorem markUnknown_keeps (s : State) (p : Place) (why : Int) : KeepsAllBut [.places, .queue, .mass, .sent] s (s.markUnknown p why) :=
  (keeps_markUnknown (by decide)).mpr keeps_refl

theorem markUnknown_place (k : Place) : (s.markUnknown p why).place k
    = if k = p then { s.place p with unknown := true, clearing := false } else s.place k := by
  have e : (s.markUnknown p why).place k = _ := congrArg (tget · k.idx) (markUnknown_leaves s p why).1
  exact e.trans (modPlace_place p _ k)

/-- The report of a zero capture that CHECK becoming UNKNOWN disturbs. -/
def disturbedReport (at' : LineTime) : Report := ⟨.zeroDone, at', none, none, none, 5, none⟩

/-- CHECK becoming UNKNOWN ends an open zero capture FAILED (R107, R108). -/
theorem markUnknown_zero (hc : s.mass.capture = some cap) (hz : cap.purpose = .zero) :
    (s.markUnknown .check why).mass = ⟨none, s.mass.offset, .failed, s.mass.valid, none, none⟩
      ∧ (s.markUnknown .check why).sent = s.sent ++ [.hush]
      ∧ Queues s (s.markUnknown .check why) [s.unknownReport .check why, disturbedReport s.lineTime] := by
  have k := unknownMarked_keeps s .check why
  have queues := unknownMarked_queues s .check why
  rw [markUnknown_eq, if_pos ⟨rfl, zeroOpen_iff.mpr ⟨cap, hc, hz⟩⟩]
  have mass : (s.unknownMarked .check why).mass = s.mass := k .mass (by decide)
  have sent : (s.unknownMarked .check why).sent = s.sent := k .sent (by decide)
  have time : (s.unknownMarked .check why).lineTime = s.lineTime := k .lineTime (by decide)
  generalize s.unknownMarked .check why = u at *
  have closed : u.closeCapture = (u.modMass fun m => { m with capture := none, settleEnd := none, limit := none }).send .hush :=
    if_pos (by rw [mass, hc]; rfl)
  have ends : KeepsAllBut [.mass, .sent] u (u.closeCapture.modMass fun m => { m with status := .failed }) := by simp
  have raised := raise_keeps (u.closeCapture.modMass fun m => { m with status := .failed }) .zeroDone { detail := 5, value := none }
  have done := queues.trans (Queues.raised (k := .zeroDone) (n := { detail := 5, value := none }) ends)
  unfold State.report at done
  rw [time] at done
  refine ⟨?_, ?_, done⟩
  · unfold State.failZero
    rw [show State.mass _ = _ from raised .mass (by decide), closed, ← mass]
    rfl
  · unfold State.failZero
    rw [show State.sent _ = _ from raised .sent (by decide), closed, ← sent]
    rfl

theorem markUnknown_plain (h : p ≠ .check ∨ ∀ cap, s.mass.capture = some cap → cap.purpose ≠ .zero) :
    (s.markUnknown p why).mass = s.mass ∧ (s.markUnknown p why).sent = s.sent
      ∧ Queues s (s.markUnknown p why) [s.unknownReport p why] := by
  have k := unknownMarked_keeps s p why
  rw [markUnknown_eq, if_neg fun ⟨h1, h2⟩ => h.elim (· h1) fun h => by
    obtain ⟨cap, hc, hz⟩ := zeroOpen_iff.mp h2
    exact h cap hc hz]
  exact ⟨k .mass (by decide), k .sent (by decide), unknownMarked_queues s p why⟩

/-- In any case PLACE_UNKNOWN is queued. -/
theorem markUnknown_reported (ho : QueueOpen s) : Reported (s.markUnknown p why).settle .placeUnknown
    fun x => x.detail = p.number ∧ x.value = some why := by
  obtain ⟨rest, hl, fall⟩ := (markUnknown_leaves s p why).2
  refine fall.queues.reported (.head _) rfl ⟨rfl, rfl⟩ ho ?_
  rw [List.length_cons]
  omega

/-! ### The sensors of a place (R38) -/

/-- The sensors of a one-pallet place are those that the watch of it hears. -/
theorem mem_sensorsOf (hc : p.capacity = 1) : j ∈ sensorsOf p ↔ p.completedBy = some j ∨ (p = .check ∧ j = .checkExit)
    ∨ (p = .label ∧ j = .labelExit) := by
  cases p <;> simp [sensorsOf, Place.completedBy, Place.capacity, eq_comm] at hc ⊢

/-- With one sensor heard clear, a place is clear exactly when its other sensors are. -/
theorem heard_uncovered (p : Place) : (s.heardInput i false).covered p = false ↔ ∀ j ∈ sensorsOf p, j ≠ i → s.input j = false := by
  rw [← Bool.not_eq_true, covered_iff]
  simp only [heardInput_input, not_exists, not_and, Bool.not_eq_true]
  refine forall₂_congr fun j hj => ?_
  by_cases e : j = i
  · simp [e]
  · simp [e]

theorem completion_none (h : ∀ m ∈ s.field.moves, m.dest = p → m.state = .waiting) : s.completion p = none := by
  have e : (s.field.moves.find? fun m => m.dest == p && m.state != .waiting) = none :=
    List.find?_eq_none.mpr fun m hm => by
      rw [Bool.and_eq_true, beq_iff_eq, bne_iff_ne]
      exact fun ⟨h1, h2⟩ => h2 (h m hm h1)
  unfold State.completion
  rw [e]

/-- A sensor of a one-pallet place that becomes covered and completes no move is watched. -/
theorem handOn_covered (hc : p.capacity = 1) (hi : i ∈ sensorsOf p)
    (hm : p.completedBy = some i → ∀ m ∈ s.field.moves, m.dest = p → m.state = .waiting) : s.handOn i true = s.coverWatch p := by
  have arrival (h : p.completedBy = some i) : s.arrivalSensor p true = s.coverWatch p := by
    unfold State.arrivalSensor
    rw [completion_none (hm h)]
    rfl
  rcases (mem_sensorsOf hc).mp hi with h | ⟨rfl, rfl⟩ | ⟨rfl, rfl⟩
  · rw [← arrival h]
    cases p <;> cases h <;> simp [Place.capacity] at hc <;> rfl
  · rfl
  · rfl

theorem handOn_clear (hc : p.capacity = 1) (hi : i ∈ sensorsOf p) : s.handOn i false = s.clearWatch p := by
  rcases (mem_sensorsOf hc).mp hi with h | ⟨rfl, rfl⟩ | ⟨rfl, rfl⟩
  · cases p <;> cases h <;> simp [Place.capacity] at hc <;> rfl
  · rfl
  · rfl

end Sys2Proof.Machine
end

section
/-! Sensors outside moves (R28, R38, R42, R47, R67, R68, R108). -/

namespace Sys2Proof.Machine

open State

variable {bs : List Block} {r s t u v : State} {p : Place} {i j : Input} {n : Nat} {x : Record} {sp : Spur} {l : Lane} {why : Nat}

/-! ### The watch of the one-pallet places (R38) -/

/-- What the watch of a place makes of the line when it does, or does not, find the place UNKNOWN. -/
structure WatchedPlace (s t : State) (p : Place) (why : Nat) (hit : Prop) (left : PlaceEntry) : Prop where
  others : ∀ k, k ≠ p → t.place k = s.place k
  found : hit → t.place p = { s.place p with unknown := true, clearing := false }
    ∧ (QueueOpen s → Reported t .placeUnknown fun x => x.detail = p.number ∧ x.value = some (why : Int))
    ∧ (∀ cap, p = .check → s.mass.capture = some cap → cap.purpose = .zero →
        t.mass = ⟨none, s.mass.offset, .failed, s.mass.valid, none, none⟩ ∧ t.sent = s.sent ++ [.hush]
        ∧ (QueueOpen s → Reported t .zeroDone fun x => x.detail = 5 ∧ x.value = none))
    ∧ ((p ≠ .check ∨ ∀ cap, s.mass.capture = some cap → cap.purpose ≠ .zero) → t.mass = s.mass ∧ t.sent = s.sent)
  missed : ¬ hit → t.mass = s.mass ∧ t.sent = s.sent ∧ t.place p = left
  keeps : KeepsAllBut ([.filtered, .timing, .places, .mass, .sent] ++ derived) s t

/-- The watch that finds a place UNKNOWN. -/
theorem watchedPlace_found (k : KeepsAllBut [.filtered, .timing] s u) {hit : Prop} (h : hit) (left : PlaceEntry) :
    WatchedPlace s (u.markUnknown p why).settle p why hit left := by
  have w := settle_keeps (u.markUnknown p why)
  have marked := markUnknown_keeps u p why
  have mass : u.mass = s.mass := k .mass (by decide)
  have sent : u.sent = s.sent := k .sent (by decide)
  have massAfter : (u.markUnknown p why).settle.mass = (u.markUnknown p why).mass := w .mass (by decide)
  have sentAfter : (u.markUnknown p why).settle.sent = (u.markUnknown p why).sent := w .sent (by decide)
  refine ⟨fun j hj => ?_, fun _ => ⟨?_, fun ho => markUnknown_reported (k.queueOpen ho), fun cap hp hc hz => ?_, fun hp => ?_⟩, fun n => absurd h n,
    (k.mono (by decide)).trans ((marked.mono (by decide)).trans (w.mono (by decide)))⟩
  · rw [w.place, markUnknown_place, if_neg hj, k.place]
  · rw [w.place, markUnknown_place, if_pos rfl, k.place]
  · subst hp
    obtain ⟨e1, e2, q⟩ := markUnknown_zero (why := (why : Int)) (mass ▸ hc) hz
    rw [massAfter, sentAfter, e1, e2, mass, sent]
    exact ⟨rfl, rfl, fun ho => q.reported (.tail _ (.head _)) rfl ⟨rfl, rfl⟩ (k.queueOpen ho)⟩
  · obtain ⟨e1, e2, -⟩ := markUnknown_plain (s := u) (why := (why : Int)) (by rw [mass]; exact hp)
    rw [massAfter, sentAfter, e1, e2]
    exact ⟨mass, sent⟩

/-- The watch that leaves a place as it is, or no longer clearing. -/
theorem watchedPlace_missed (k : KeepsAllBut [.filtered, .timing] s u) (kv : KeepsAllBut [.places] u v) {hit : Prop} (h : ¬ hit)
    (others : ∀ c, c ≠ p → v.place c = u.place c) : WatchedPlace s v.settle p why hit (v.place p) := by
  have w := settle_keeps v
  refine ⟨fun j hj => ?_, fun n => absurd n h, fun _ => ⟨?_, ?_, w.place p⟩, (k.mono (by decide)).trans ((kv.mono (by decide)).trans (w.mono (by decide)))⟩
  · rw [w.place, others j hj, k.place]
  · exact (w .mass (by decide)).trans ((kv .mass (by decide)).trans (k .mass (by decide)))
  · exact (w .sent (by decide)).trans ((kv .sent (by decide)).trans (k .sent (by decide)))

/-- The place no longer clearing. -/
def State.settledClear (s : State) (p : Place) : State := s.modPlace p fun e => { e with clearing := false }

/-- A sensor that becomes covered and completes no move. -/
theorem coverWatch_watched (k : KeepsAllBut [.filtered, .timing] s u) : WatchedPlace s (u.coverWatch p).settle p 1 (s.placeState p = .free) (s.place p) := by
  have same : u.placeState p = s.placeState p := k.placeState p
  unfold State.coverWatch
  rw [same]
  by_cases h : s.placeState p = .free
  · rw [if_pos (by simp [h])]
    exact watchedPlace_found k h _
  · rw [if_neg (by simp [h]), ← k.place p]
    exact watchedPlace_missed k keeps_refl h fun _ _ => rfl

/-- The conditions under which a sensor that becomes clear finds its place UNKNOWN (R38). -/
def ClearFinds (s : State) (i : Input) (p : Place) : Prop := (∀ j ∈ sensorsOf p, j ≠ i → s.input j = false)
  ∧ (s.place p).unknown = false ∧ (s.place p).clearing = false ∧ (s.place p).occupants ≠ [] ∧ ∀ m ∈ s.field.moves, m.source = p → m.state ≠ .inFlight

theorem clearWatch_watched : WatchedPlace s ((s.heardInput i false).clearWatch p).settle p 2 (ClearFinds s i p)
    (if (s.heardInput i false).covered p = false ∧ (s.place p).unknown = false ∧ (s.place p).clearing = true
      then { s.place p with clearing := false } else s.place p) := by
  have k := heardInput_keeps (s := s) i false
  have clear := heard_uncovered (s := s) (i := i) p
  have place : (s.heardInput i false).place p = s.place p := k.place p
  have moves : (s.heardInput i false).field.moves = s.field.moves := k .moves (by decide)
  generalize s.heardInput i false = u at *
  have still (h : ¬ ClearFinds s i p) : WatchedPlace s u.settle p 2 (ClearFinds s i p) (s.place p) := by
    rw [← place]
    exact watchedPlace_missed k keeps_refl h fun _ _ => rfl
  unfold State.clearWatch
  rw [place, moves]
  dsimp only
  by_cases hc : u.covered p = true ∨ (s.place p).unknown = true
  · rw [if_pos (by simpa using hc), if_neg fun ⟨h1, h2, _⟩ => by simp [h1, h2] at hc]
    refine still fun h => ?_
    have := clear.mpr h.1
    simp [this, h.2.1] at hc
  · obtain ⟨h1, h2⟩ : u.covered p = false ∧ (s.place p).unknown = false := by simpa using hc
    rw [if_neg (by simp [h1, h2])]
    by_cases h3 : (s.place p).clearing = true
    · rw [if_pos h3, if_pos ⟨h1, h2, h3⟩]
      have kv : KeepsAllBut [.places] u (u.settledClear p) := by simp [State.settledClear]
      have self : (u.settledClear p).place p = { s.place p with clearing := false } := by
        rw [← place]
        exact (modPlace_place p _ p).trans (if_pos rfl)
      rw [← self]
      exact watchedPlace_missed k kv (fun h => by simp [h.2.2.1] at h3) fun c hc => (modPlace_place p _ c).trans (if_neg hc)
    · have rest (e f : PlaceEntry) : (if u.covered p = false ∧ (s.place p).unknown = false ∧ (s.place p).clearing = true then e else f) = f :=
        if_neg fun h => h3 h.2.2
      rw [if_neg h3, rest]
      have finds : ClearFinds s i p ↔ (!(s.place p).occupants.isEmpty && s.field.moves.all fun m => !(m.source == p && m.state == .inFlight)) = true := by
        unfold ClearFinds
        rw [and_iff_right (clear.mp h1)]
        simp [h2, h3, ← imp_iff_not_or]
      by_cases h : ClearFinds s i p
      · rw [if_pos (finds.mp h)]
        exact watchedPlace_found k h _
      · rw [if_neg (mt finds.mpr h)]
        exact still h

/-! ### The end of a reject spur (R47, R67, R68) -/

theorem KeepsAllBut.and_same {b : Block} (k : KeepsAllBut (b :: bs) s t) (h : b.Same s t) : KeepsAllBut bs s t := by
  intro c hc
  by_cases e : c = b
  · exact e ▸ h
  · exact k c (by simp [e, hc])

theorem told_spurEnd (s : State) (x : Record) : s.told x .spurEnd = s := by
  unfold State.told
  split
  · rfl
  · rfl

/-- The oldest pallet of a spur deleted and reported. -/
def State.spurEnded (s : State) (sp : Spur) (n : Nat) : State :=
  (s.deleteRecord n .spurEnd).raise .removed { track := some n, detail := (Place.spur sp).number, value := some 1 }

theorem spurRemoval_eq {rest : List Nat} (hu : (s.place (.spur sp)).unknown = false) (ho : (s.place (.spur sp)).occupants = n :: rest) :
    s.spurRemoval sp = s.spurEnded sp n := by
  unfold State.spurRemoval
  rw [hu, ho]
  rfl

theorem spurRemoval_idle (h : (s.place (.spur sp)).unknown = true ∨ (s.place (.spur sp)).occupants = []) : s.spurRemoval sp = s := by
  unfold State.spurRemoval
  rcases h with h | h <;> rw [h]
  split <;> simp_all

/-- The deletion at the end of a spur, but for the derived parts (R67, R68). -/
theorem spurEnded_deletes (hx : s.record? n = some x) (sp : Spur) : ∃ d, Deleted s d n x ∧ KeepsAllBut derived d (s.spurEnded sp n).settle
    ∧ d.plan.loads = s.plan.loads
    ∧ (QueueOpen s → Reported (s.spurEnded sp n).settle .removed fun y =>
        y.track = some n ∧ y.detail = (Place.spur sp).number ∧ y.value = some 1) := by
  have d := deleteRecord_leaves hx .spurEnd
  have loads := deleteRecord_loads hx .spurEnd
  obtain ⟨new, reports⟩ := deleteRecord_reports hx .spurEnd
  rw [told_spurEnd] at loads reports
  unfold State.spurEnded
  generalize s.deleteRecord n .spurEnd = e at *
  have raised := raise_keeps e .removed { track := some n, detail := (Place.spur sp).number, value := some 1 }
  have queues := reports.queues.trans (Queues.raise (s := e) .removed { track := some n, detail := (Place.spur sp).number, value := some 1 })
  refine ⟨e, d, (raised.mono (by decide)).trans (settle_keeps _), loads, fun ho => ?_⟩
  refine queues.reported (List.mem_append_right _ (List.mem_singleton_self _)) rfl ⟨rfl, rfl, rfl⟩ ho ?_
  have := reports.count
  rw [List.length_append, List.length_singleton]
  omega

/-- The end sensor of a known spur becomes clear: its oldest pallet's record is deleted (R47, R67, R68). -/
theorem spurEnd_deletes {rest : List Nat} (h : Senses s (.spurEnd sp) false) (hu : (s.place (.spur sp)).unknown = false)
    (ho : (s.place (.spur sp)).occupants = n :: rest) (hx : s.record? n = some x) (hl : x.location = .spur sp) :
    ∃ t, exec (.inputFilterExpiry (.spurEnd sp)) s = .next t
      ∧ t.record? n = none ∧ (∀ k, k ≠ n → t.record? k = s.record? k) ∧ t.move? n = none
      ∧ n ∉ (t.place (.spur sp)).occupants
      ∧ (s.move? n = none →
          t.place (.spur sp) = { s.place (.spur sp) with
            occupants := rest.filter (· != n)
            unknown := (rest.filter (· != n)).isEmpty && t.covered (.spur sp)
            clearing := (s.place (.spur sp)).clearing && !(rest.filter (· != n)).isEmpty }
          ∧ ∀ k, k ≠ .spur sp → t.place k = s.place k)
      ∧ (QueueOpen s → Reported t .removed fun x =>
          x.track = some n ∧ x.detail = (Place.spur sp).number ∧ x.value = some 1)
      ∧ KeepsAllBut ([.filtered, .timing, .places, .moves, .records, .scanners, .check, .mass, .wrap, .label, .buffer, .sent]
          ++ derived) s t := by
  have k := heardInput_keeps (s := s) (.spurEnd sp) false
  have run : exec (.inputFilterExpiry (.spurEnd sp)) s = .next ((s.heardInput (.spurEnd sp) false).spurEnded sp n).settle := by
    rw [exec_inputFilterExpiry h.1, h.2, filtered_eq]
    exact congrArg (fun u : State => Host.Outcome.next u.settle) (spurRemoval_eq (s := s.heardInput (.spurEnd sp) false) hu ho)
  obtain ⟨d, gone, kd, loads, reported⟩ := spurEnded_deletes ((k.record? n).trans hx) sp
  generalize s.heardInput (.spurEnd sp) false = u at *
  generalize (u.spurEnded sp n).settle = t at *
  have kd' : KeepsAllBut (.sent :: derived) d t := kd.mono (by decide)
  have move (c : Nat) := gone.move? kd' c
  have place := k.place (.spur sp)
  refine ⟨t, run, ?_, fun c hc => ?_, (move n).trans (if_pos rfl), hl ▸ gone.gone kd', fun hm => ⟨?_, fun c hc => ?_⟩,
    fun ho => reported (k.queueOpen ho), ?_⟩
  · rw [kd.record?, gone.record, if_pos rfl]
  · rw [kd.record?, gone.record, if_neg hc, k.record?]
  · have apart : NoMoveTo u n x.location := fun m hm' => absurd ((k.move? n).symm.trans hm') (by rw [hm]; exact nofun)
    have ho' : (u.place (.spur sp)).occupants = n :: rest := by rw [place]; exact ho
    have filter : (n :: rest).filter (· != n) = rest.filter (· != n) := by simp
    have covered : t.covered (.spur sp) = u.covered (.spur sp) := (kd.covered _).trans (gone.keeps.covered _)
    have last : LastOf u n x.location ↔ (rest.filter (· != n)).isEmpty = true := by
      unfold LastOf
      rw [hl, ho', ← filter, filter_isEmpty_iff]
      simp
    rw [covered]
    by_cases hr : (rest.filter (· != n)).isEmpty = true
    · have e := gone.place_last kd' apart (last.mpr hr)
      rw [hl, ho', filter, place] at e
      rw [e, hr]
      simp
    · have e := gone.place_notLast kd' apart (mt last.mp hr)
      rw [hl, ho', filter, place] at e
      rw [e, Bool.eq_false_iff.mpr hr, ← hu]
      simp [hu]
  · have apart : NoMoveTo u n c := fun m hm' => absurd ((k.move? n).symm.trans hm') (by rw [hm]; exact nofun)
    rw [gone.place_other kd' (by rw [hl]; exact hc) apart, k.place]
  · have deleted : KeepsAllBut (.loads :: [.queue, .places, .moves, .records, .scanners, .check, .mass, .wrap, .label, .printLimit, .buffer, .sent,
        .reported]) u d := gone.keeps.mono (by decide)
    exact (k.mono (by decide)).trans (((deleted.and_same loads).mono (by decide)).trans (kd.mono (by decide)))

/-! ### The end of a lane (R47) -/

/-- The end sensor of a lane becomes clear: it counts down, unless its place is UNKNOWN. -/
theorem laneEnd_counts (ht : tget s.field.timing (Input.laneEnd l).idx = some 0) (hr : s.rawLevel (.laneEnd l) = false) :
    ∃ t, exec (.inputFilterExpiry (.laneEnd l)) s = .next t
      ∧ (tget t.lanes l).count = (if (s.place (.lane l)).unknown then (tget s.lanes l).count else (tget s.lanes l).count - 1)
      ∧ (∀ k, k ≠ l → (tget t.lanes k).count = (tget s.lanes k).count)
      ∧ (∀ k, (tget t.lanes k).halt = (tget s.lanes k).halt)
      ∧ KeepsAllBut ([.filtered, .timing, .lanes] ++ derived) s t := by
  have k := heardInput_keeps (s := s) (.laneEnd l) false
  have run : exec (.inputFilterExpiry (.laneEnd l)) s = .next ((s.heardInput (.laneEnd l) false).laneRemoval l).settle := by
    rw [exec_inputFilterExpiry ht, hr, filtered_eq]
    rfl
  have place := k.place (.lane l)
  have lanes : (s.heardInput (.laneEnd l) false).lanes = s.lanes := rfl
  generalize s.heardInput (.laneEnd l) false = u at *
  have w := settle_keeps (u.laneRemoval l)
  have removed : KeepsAllBut [.lanes] u (u.laneRemoval l) := (keeps_laneRemoval (by decide)).mpr keeps_refl
  have lane (j : Lane) : (tget (u.laneRemoval l).lanes j).count = (if j = l ∧ (s.place (.lane l)).unknown = false
      then (tget s.lanes l).count - 1 else (tget s.lanes j).count) ∧ (tget (u.laneRemoval l).lanes j).halt = (tget s.lanes j).halt := by
    unfold State.laneRemoval
    rw [place]
    split
    · rename_i hu
      rw [if_neg (by simp [hu]), lanes]
      exact ⟨rfl, rfl⟩
    · rename_i hu
      show (tget (tmod u.lanes l _) j).count = _ ∧ (tget (tmod u.lanes l _) j).halt = _
      rw [tget_tmod, lanes]
      by_cases e : j = l
      · subst e; simp [hu]
      · simp [e, Ne.symm e]
  refine ⟨_, run, ?_, fun j hj => ?_, fun j => ((w .lanes (by decide) j).2).trans (lane j).2,
    (k.mono (by decide)).trans ((removed.mono (by decide)).trans (w.mono (by decide)))⟩
  · rw [(w .lanes (by decide) l).1, (lane l).1]
    cases (s.place (.lane l)).unknown <;> simp
  · rw [(w .lanes (by decide) j).1, (lane j).1, if_neg fun h => hj h.1]

/-! ### Sensors that act on nothing (R28) -/

/-- A level that no block acts on changes the filter alone. -/
theorem heard_idle {b : Bool} (h : Senses s i b) (idle : (s.heardInput i b).handOn i b = s.heardInput i b) :
    ∃ t, exec (.inputFilterExpiry i) s = .next t ∧ KeepsAllBut ([.filtered, .timing] ++ derived) s t := by
  refine ⟨_, exec_inputFilterExpiry h.1, ?_⟩
  rw [h.2, filtered_eq, idle]
  exact ((heardInput_keeps i b).mono (by decide)).trans ((settle_keeps _).mono (by decide))

theorem completion_idle (h : ∀ m ∈ s.field.moves, m.dest = p → m.state = .waiting) : (s.completion p).getD s = s := by
  rw [completion_none h]
  rfl

/-- Settles O11: the watch of the one-pallet places, the ends of spurs and lanes, and the sensors that act on nothing. -/
theorem sensorsActOutsideMoves : Obligations.SensorsActOutsideMoves := by
  refine ⟨fun p i s hc hi why hit hw => ?_, fun s => ⟨fun sp n rest r h hu ho hx hl => spurEnd_deletes h hu ho hx hl, fun i hi => ?_⟩,
    fun l s ht hr => laneEnd_counts ht hr⟩
  · have sensor : i ∈ sensorsOf p := (mem_sensorsOf hc).mpr hi
    have others : (∀ j, j ≠ i → p.completedBy = some j ∨ (p = .check ∧ j = .checkExit) ∨ (p = .label ∧ j = .labelExit) → s.input j = false)
        ↔ ∀ j ∈ sensorsOf p, j ≠ i → s.input j = false := by
      refine forall_congr' fun j => ?_
      rw [mem_sensorsOf hc]
      exact ⟨fun h sensor ne => h ne sensor, fun h ne sensor => h sensor ne⟩
    rcases hw with ⟨rfl, h, hm, hh⟩ | ⟨rfl, h, hh⟩
    · have run : exec (.inputFilterExpiry i) s = .next ((s.heardInput i true).coverWatch p).settle := by
        rw [exec_inputFilterExpiry h.1, h.2, filtered_eq, handOn_covered (s := s.heardInput i true) hc sensor hm]
      obtain ⟨places, found, missed, keeps⟩ := coverWatch_watched (p := p) (heardInput_keeps (s := s) i true)
      rw [← hh] at found missed
      refine ⟨_, run, places, found, fun n => ?_, keeps⟩
      obtain ⟨mass, sent, place⟩ := missed n
      exact ⟨mass, sent, by rw [place, if_neg (by simp)]⟩
    · have run : exec (.inputFilterExpiry i) s = .next ((s.heardInput i false).clearWatch p).settle := by
        rw [exec_inputFilterExpiry h.1, h.2, filtered_eq, handOn_clear (s := s.heardInput i false) hc sensor]
      have covered : (((s.heardInput i false).clearWatch p).settle).covered p = (s.heardInput i false).covered p := by
        have w : KeepsAllBut [.places, .queue, .mass, .sent] (s.heardInput i false) ((s.heardInput i false).clearWatch p) := by simp
        exact ((settle_keeps _).covered p).trans (w.covered p)
      obtain ⟨places, found, missed, keeps⟩ := clearWatch_watched (s := s) (i := i) (p := p)
      have same : hit ↔ ClearFinds s i p := by rw [hh, others]; rfl
      rw [← same] at found missed
      refine ⟨_, run, places, found, fun n => ?_, keeps⟩
      obtain ⟨mass, sent, place⟩ := missed n
      rw [covered]
      exact ⟨mass, sent, by rw [place]; simp⟩
  · rcases hi with ⟨sp, rfl, h, he⟩ | ⟨sp, rfl, h⟩ | ⟨l, rfl, h⟩ | ⟨sp, rfl, h | ⟨h, hm⟩⟩ | ⟨l, rfl, h | ⟨h, hm⟩⟩ | ⟨j, rfl, h⟩
    · exact heard_idle h (spurRemoval_idle he)
    · exact heard_idle h rfl
    · exact heard_idle h rfl
    · exact heard_idle h rfl
    · exact heard_idle h (completion_idle (s := s.heardInput (.spurEntry sp) true) hm)
    · exact heard_idle h rfl
    · exact heard_idle h (completion_idle (s := s.heardInput (.laneEntry l) true) hm)
    · exact heard_idle h rfl

end Sys2Proof.Machine
end

section
/-! SUPPORT. The completion of a move at any place but a lane: the pallet joins its destination, in time or late (R42, R44). -/

namespace Sys2Proof.Machine

open State

variable {bs : List Block} {r s t u v w : State} {p : Place} {i : Input} {n : Nat} {x a : Record} {m : Move}

/-! ### The pallet joins its destination -/

theorem joinDest_stands (s : State) (hl : ∀ l, m.dest ≠ .lane l) (k : Place) : (s.joinDest m).place k = if k = m.dest then
    { s.place m.dest with
      incoming := (s.place m.dest).incoming.filter (· != m.track)
      occupants := (s.place m.dest).occupants ++ [m.track] } else s.place k := by
  obtain ⟨track, source, dest, zone, state, limit, b, c⟩ := m
  cases dest with
  | lane l => exact absurd rfl (hl l)
  | _ => exact modPlace_place _ _ k

theorem joinDest_moves (s : State) (m : Move) : (s.joinDest m).field.moves = s.field.moves.filter fun k => k.track != m.track := rfl

/-- The pallet of a completing move stands in its destination, before the owners of the two places act. -/
structure Joined (s w : State) (m : Move) (a : Record) : Prop where
  record : w.record? m.track = some a
  records : ∀ k, k ≠ m.track → w.record? k = s.record? k
  moves : w.field.moves = s.field.moves.filter fun k => k.track != m.track
  stands : StandsIn s w m
  late : m.state = .lost → w.place m.source = s.place m.source
  inTime : m.state ≠ .lost → LeftBehind s w m
  places : ∀ k, k ≠ m.dest → k ≠ m.source → w.place k = s.place k
  keeps : KeepsAllBut [.filtered, .timing, .places, .moves, .records] s w

theorem Joined.move? (j : Joined s w m a) (k : Nat) : w.move? k = if k = m.track then none else s.move? k := by
  unfold State.move?
  rw [j.moves]
  exact find?_filter_key _ k

/-- The pallet has left its place and stands in its destination. -/
theorem joined_inTime (k : KeepsAllBut [.filtered, .timing] s u) (hl : ∀ l, m.dest ≠ .lane l) (hs : m.source ≠ m.dest) (hi : m.state ≠ .lost)
    (hx : s.record? m.track = some x) : Joined s ((u.leaveSource m).joinDest m) m (x.arrivedAt m) := by
  have k2 := leaveSource_keeps u m
  have place (c : Place) := leaveSource_place u m c
  generalize u.leaveSource m = b at *
  have k3 := joinDest_keeps b m
  have k12 : KeepsAllBut [.filtered, .timing, .places] s b := (k.mono (by decide)).trans (k2.mono (by decide))
  have covered : (b.joinDest m).covered m.source = u.covered m.source := (k3.covered _).trans (k2.covered _)
  refine ⟨?_, fun c hc => ?_, ?_, ?_, fun h => absurd h hi, fun _ => ?_, fun c h1 h2 => ?_, (k12.mono (by decide)).trans (k3.mono (by decide))⟩
  · rw [joinDest_record?, if_pos rfl, k12.record?, hx, Record.arrivedAt, if_neg hi]
    rfl
  · rw [joinDest_record?, if_neg hc, k12.record?]
  · rw [joinDest_moves, show b.field.moves = _ from k12 .moves (by decide)]
  · unfold StandsIn
    rw [joinDest_stands b hl, if_pos rfl, place, if_neg (Ne.symm hs), k.place]
  · unfold LeftBehind
    rw [covered, joinDest_stands b hl, if_neg hs, place, if_pos rfl, k.place]
  · rw [joinDest_stands b hl, if_neg h1, place, if_neg h2, k.place]

/-- The pallet of a lost move stands in its destination, its record in the stage it had. -/
theorem joined_late (k : KeepsAllBut [.filtered, .timing] s u) (hl : ∀ l, m.dest ≠ .lane l) (hs : m.source ≠ m.dest) (hi : m.state = .lost)
    (hx : s.record? m.track = some x) : Joined s ((u.stageRestored m.track).joinDest m) m (x.arrivedAt m) := by
  have k2 : KeepsAllBut [.records] u (u.stageRestored m.track) := by simp [State.stageRestored]
  have find (c : Nat) := stageRestored_record? u m.track c
  generalize u.stageRestored m.track = b at *
  have k3 := joinDest_keeps b m
  have k12 : KeepsAllBut [.filtered, .timing, .records] s b := (k.mono (by decide)).trans (k2.mono (by decide))
  refine ⟨?_, fun c hc => ?_, ?_, ?_, fun _ => ?_, fun h => absurd hi h, fun c h1 h2 => ?_, (k12.mono (by decide)).trans (k3.mono (by decide))⟩
  · rw [joinDest_record?, if_pos rfl, find, if_pos rfl, k.record?, hx, Record.arrivedAt, if_pos hi]
    rfl
  · rw [joinDest_record?, if_neg hc, find, if_neg hc, k.record?]
  · rw [joinDest_moves, show b.field.moves = _ from k12 .moves (by decide)]
  · unfold StandsIn
    rw [joinDest_stands b hl, if_pos rfl, k12.place]
  · rw [joinDest_stands b hl, if_neg hs, k12.place]
  · rw [joinDest_stands b hl, if_neg h1, k12.place]

/-! ### The owners of the two places -/

/-- The owner of the place that the pallet left is told, unless the move was lost. -/
def State.leftTold (w : State) (m : Move) : State := if m.state = .lost then w else w.leftPlace m.track m.source

/-- The late completion is reported. -/
def State.lateTold (v : State) (m : Move) : State :=
  if m.state = .lost then v.raise .late { track := some m.track, detail := m.dest.number } else v

theorem lateTold_keeps (v : State) (m : Move) : KeepsAllBut [.queue] v (v.lateTold m) := by
  unfold State.lateTold
  split
  · exact raise_keeps _ _ _
  · exact keeps_refl

theorem handOn_completes (hi : p.completedBy = some i) (hc : s.completion p = some v) : s.handOn i true = v := by
  cases p <;> cases hi <;> simp [State.handOn, State.arrivalSensor, hc]

/-- A covering that completes a move: the pallet joins its destination, and the owners of the two places act (R42, R44). -/
theorem completion_run (hi : p.completedBy = some i) (hl : ∀ l, p ≠ .lane l) (hs : Senses s i true) (hb : BoundFor s p m) (hne : m.source ≠ p)
    (hx : s.record? m.track = some x) : ∃ w, Joined s w m (x.arrivedAt m)
      ∧ exec (.inputFilterExpiry i) s = .next (((w.leftTold m).reachedPlace m.track p).lateTold m).settle := by
  have k := heardInput_keeps (s := s) i true
  have moves : (s.heardInput i true).field.moves = s.field.moves := k .moves (by decide)
  have found := List.find?_some hb
  obtain ⟨hd, hw⟩ : m.dest = p ∧ m.state ≠ .waiting := by simpa using found
  have run := exec_inputFilterExpiry hs.1
  rw [hs.2, filtered_eq] at run
  generalize s.heardInput i true = u at *
  have completes : u.completion p = some (if m.state == .inFlight then u.completeMove m else u.completeLate m) := by
    unfold State.completion
    rw [moves, hb]
  rw [handOn_completes hi completes] at run
  subst hd
  by_cases lost : m.state = .lost
  · refine ⟨_, joined_late k hl hne lost hx, ?_⟩
    rw [run, lost, State.leftTold, State.lateTold, if_pos lost, if_pos lost]
    rfl
  · have flight : m.state = .inFlight := by
      cases h : m.state with
      | inFlight => rfl
      | waiting => exact absurd h hw
      | lost => exact absurd h lost
    refine ⟨_, joined_inTime k hl hne lost hx, ?_⟩
    rw [run, flight, State.leftTold, State.lateTold, if_neg lost, if_neg lost]
    rfl

/-- The reports of the owners, and the late completion's, stand in the queue at the end of the step. -/
theorem lateTold_reported {new : List Report} {y : Report} {q : Report → Prop} {kind : ReportKind} (h : Queues s v new) (hn : new.length ≤ 31)
    (hy : y ∈ new) (hk : y.kind = kind) (hq : q y) (ho : QueueOpen s) : Reported (v.lateTold m).settle kind q := by
  unfold State.lateTold
  split
  · exact (h.trans (.raise _ _)).reported (List.mem_append_left _ hy) hk hq ho (by simp; omega)
  · exact h.reported hy hk hq ho (by omega)

theorem lateTold_late {new : List Report} (h : Queues s v new) (hn : new.length ≤ 31) (hi : m.state = .lost) (ho : QueueOpen s) :
    Reported (v.lateTold m).settle .late fun x => x.track = some m.track ∧ x.detail = m.dest.number := by
  unfold State.lateTold
  rw [if_pos hi]
  exact (h.trans (.raise _ _)).reported (List.mem_append_right _ (List.mem_singleton_self _)) rfl ⟨rfl, rfl⟩ ho (by simp; omega)

/-- The place the pallet left, where no owner has changed it since. -/
theorem Joined.sourceAfter {new : List Report} (j : Joined s w m a) (h : Queues s v new) (hn : new.length ≤ 31)
    (place : (v.lateTold m).settle.place m.source = w.place m.source)
    (covered : (v.lateTold m).settle.covered m.source = w.covered m.source) : SourceAfter s (v.lateTold m).settle m := by
  refine ⟨fun hi => ⟨place.trans (j.late hi), fun ho => lateTold_late h hn hi ho⟩, fun hi => ?_⟩
  unfold LeftBehind
  rw [place, covered]
  exact j.inTime hi

end Sys2Proof.Machine
end

section
/-! The head sensor and the check arrival sensor (R12, R42, R44, R46, R54, R65, R84, R85, R89, R90, R95). -/

namespace Sys2Proof.Machine

open State

variable {bs : List Block} {r s t u v w : State} {i : Infeed} {n : Nat} {x a : Record} {m : Move}

/-! ### The head sensor (R46, R65) -/

theorem exec_headExpiry (h : Senses s (.head i) true) :
    exec (.inputFilterExpiry (.head i)) s = .next ((s.heardInput (.head i) true).reachHead i).settle := by
  rw [exec_inputFilterExpiry h.1, h.2, filtered_eq]
  rfl

theorem reachHead_passes (h : ∀ k ∈ (s.place (.infeed i)).occupants, s.stageOf k = some .checking) : s.reachHead i = s := by
  have none : ((s.place (.infeed i)).occupants.find? fun k => s.stageOf k != some .checking) = none :=
    List.find?_eq_none.mpr fun k hk => by simp [h k hk]
  unfold State.reachHead
  rw [none]

theorem reachHead_first {before after : List Nat} (ho : (s.place (.infeed i)).occupants = before ++ n :: after)
    (hb : ∀ k ∈ before, s.stageOf k = some .checking) (hx : s.record? n = some x) (hs : x.stage ≠ .checking) :
    s.reachHead i = (s.modRecord n fun r => { r with headMark := true }).testReady n := by
  have first : ((s.place (.infeed i)).occupants.find? fun k => s.stageOf k != some .checking) = some n := by
    have passed : (before.find? fun k => s.stageOf k != some .checking) = none := List.find?_eq_none.mpr fun k hk => by simp [hb k hk]
    have stays : s.stageOf n = some x.stage := by rw [State.stageOf, hx]; rfl
    rw [ho, List.find?_append, passed, Option.none_or, List.find?_cons_of_pos]
    simp [stays, hs]
  unfold State.reachHead
  rw [first]

/-- The record of a pallet at the head, with its head mark and READY where its entry read is resolved (R65). -/
theorem headMarked_record? (hx : s.record? n = some x) (k : Nat) :
    ((s.modRecord n fun r => { r with headMark := true }).testReady n).record? k = if k = n then some { x with
      headMark := true, stage := if x.stage = .entering ∧ s.entryResolved x = true then .ready else x.stage } else s.record? k := by
  have kept : KeepsAllBut [.records] s (s.modRecord n fun r => { r with headMark := true }) := by simp
  have resolved : (s.modRecord n fun r => { r with headMark := true }).entryResolved { x with headMark := true } = s.entryResolved x :=
    kept.entryResolved _
  rw [testReady_record?, modRecord_record?, modRecord_record?, if_pos rfl, hx]
  split
  · rw [Option.map_some, Option.map_some, State.readied, resolved]
    by_cases c : x.stage = .entering ∧ s.entryResolved x = true
    · rw [if_pos c, if_pos ⟨c.1, rfl, c.2⟩]
    · rw [if_neg c, if_neg fun h => c ⟨h.1, h.2.2⟩]
  · rfl

/-- The head sensor becomes covered (R46, R65). -/
theorem headSensor_marks (h : Senses s (.head i) true) {before after : List Nat} (ho : (s.place (.infeed i)).occupants = before ++ n :: after)
    (hb : ∀ k ∈ before, s.stageOf k = some .checking) (hx : s.record? n = some x) (hs : x.stage ≠ .checking) :
    ∃ t resolved, exec (.inputFilterExpiry (.head i)) s = .next t
      ∧ (resolved = true ↔ (∀ rd left, (s.scanner (.entry x.infeed)).outstanding = some (rd, left) → rd.track ≠ n)
          ∧ ∀ rd ∈ (s.scanner (.entry x.infeed)).waiting, rd.track ≠ n)
      ∧ t.record? n = some { x with
          headMark := true, stage := if x.stage = .entering ∧ resolved = true then .ready else x.stage }
      ∧ (∀ k, k ≠ n → t.record? k = s.record? k)
      ∧ KeepsAllBut ([.filtered, .timing, .records] ++ derived) s t := by
  have k := heardInput_keeps (s := s) (.head i) true
  have run := exec_headExpiry h
  have stage (c : Nat) : (s.heardInput (.head i) true).stageOf c = s.stageOf c := by
    unfold State.stageOf
    rw [k.record?]
  rw [reachHead_first ((congrArg (·.occupants) (k.place _)).trans ho) (fun c hc => (stage c).trans (hb c hc)) ((k.record? n).trans hx) hs] at run
  have record := headMarked_record? ((k.record? n).trans hx)
  have resolved : (s.heardInput (.head i) true).entryResolved x = s.entryResolved x := k.entryResolved x
  rw [resolved] at record
  have keeps : KeepsAllBut [.records] (s.heardInput (.head i) true)
      (((s.heardInput (.head i) true).modRecord n fun r => { r with headMark := true }).testReady n) := by simp
  generalize ((s.heardInput (.head i) true).modRecord n fun r => { r with headMark := true }).testReady n = v at *
  have w := settle_keeps v
  refine ⟨_, s.entryResolved x, run, ?_, ?_, fun c hc => ?_, (k.mono (by decide)).trans ((keeps.mono (by decide)).trans (w.mono (by decide)))⟩
  · rw [entryResolved_iff, EntryReadOver, record?_number hx]
  · rw [w.record?, record, if_pos rfl]
  · rw [w.record?, record, if_neg hc, k.record?]

/-! ### The beginning of a check (R85) -/

/-- The check of a record as it begins (R85). -/
def State.freshCheck (s : State) (x : Record) : Check :=
  ⟨x.number, s.lineTime, s.deadline (s.setting .settleDelay), s.deadline (s.setting .settleLimit), .pending, .pending,
    if x.ref.isSome then .present else .pending, true⟩

/-- The check stands and the capture is open, before scanner 4 is asked. -/
def State.checkOpened (s : State) (x : Record) : State :=
  ((s.modCheck fun k => { k with condition := .weighing, current := some (s.freshCheck x) }).openCapture (.check x.number)).send .measure

theorem checkOpened_keeps (s : State) (x : Record) : KeepsAllBut [.check, .mass, .sent] s (s.checkOpened x) := by
  simp [State.checkOpened]

theorem beginCheck_eq (s : State) (x : Record) : s.beginCheck x
    = if x.tag.isNone then (s.checkOpened x).askRead .check ⟨x.number, .check⟩ else s.checkOpened x := rfl

theorem beginCheck_keeps (s : State) (x : Record) : KeepsAllBut [.check, .mass, .sent, .scanners] s (s.beginCheck x) :=
  (keeps_beginCheck (by decide)).mpr keeps_refl

theorem checkOpened_sent (s : State) (x : Record) : (s.checkOpened x).sent = s.sent ++ [.stream, .measure] := by
  simp [State.checkOpened, State.openCapture, State.send]

theorem beginCheck_begins (hx : s.record? n = some x) (hf : s.check.fault = false) : CheckBegun s (s.beginCheck x) x [] := by
  have hn := record?_number hx
  have k := beginCheck_keeps s x
  have opened := checkOpened_keeps s x
  have sent := checkOpened_sent s x
  have asked (rd : Read) : KeepsAllBut [.scanners, .sent] (s.checkOpened x) ((s.checkOpened x).askRead .check rd) := by simp
  have after : KeepsAllBut [.scanners, .sent] (s.checkOpened x) (s.beginCheck x) := by
    rw [beginCheck_eq]
    split
    · exact asked _
    · exact keeps_refl
  have check : (s.checkOpened x).check = ⟨.weighing, s.check.fault, some (s.freshCheck x)⟩ := rfl
  have mass : (s.checkOpened x).mass = { s.mass with capture := some ⟨.check x.number, [], s.setting .windowSize, s.setting .stabilityWidth,
    s.setting .division, s.setting .settleDelay == 0⟩ } := rfl
  have scanner : (s.checkOpened x).scanner .check = s.scanner .check := opened.scanner _
  have limit : (s.checkOpened x).setting .ackLimit = s.setting .ackLimit := opened.setting _
  refine ⟨?_, (after .mass (by decide)).trans mass, ?_, fun ht => ?_, fun ⟨ht, ho, he, hw⟩ => ?_, fun ht hb => ?_, fun h => ?_⟩
  · rw [show (s.beginCheck x).check = _ from after .check (by decide), check, hf]
    rfl
  · rw [k.record?, hn, hx]
  all_goals rw [beginCheck_eq]
  · rw [if_neg (by simpa using ht), scanner]
  · have idle : (s.checkOpened x).scanner .check = ⟨none, [], none⟩ := by
      rw [scanner]
      rcases e : s.scanner .check with ⟨o, l, d⟩
      simp_all
    obtain ⟨e1, e2⟩ := askRead_idle (rd := ⟨x.number, .check⟩) idle
    rw [if_pos (by simp [ht]), e1, e2, limit, sent]
    exact ⟨rfl, by simp [readMessage]⟩
  · rw [if_pos (by simp [ht]), askRead_busy (by rw [scanner]; exact hb), queueRead_scanner, if_pos rfl, scanner]
  · rw [List.append_nil, ← sent]
    split
    · rename_i ht
      rw [askRead_busy (by rw [scanner]; exact h.resolve_left (by simpa using ht))]
      rfl
    · rfl

/-- A check begun, between a state before it and one after it. -/
theorem CheckBegun.between {after : List Message} (h : CheckBegun w v x after) (k : KeepsAllBut [.filtered, .timing, .places, .moves, .records] s w)
    (kt : KeepsAllBut derived v t) : CheckBegun s t x after := by
  have sent : w.sent = s.sent := k .sent (by decide)
  have time : w.lineTime = s.lineTime := k .lineTime (by decide)
  have mass : w.mass = s.mass := k .mass (by decide)
  unfold CheckBegun at h ⊢
  dsimp only at h ⊢
  rw [kt.scanner, kt.record?, show t.check = _ from kt .check (by decide), show t.mass = _ from kt .mass (by decide),
    show t.sent = _ from kt .sent (by decide)]
  rw [k.scanner, k.setting, k.setting, k.setting, k.setting, k.setting, k.setting, sent, time, mass] at h
  exact h

/-! ### A marked pallet (R84, R89, R90) -/

theorem startCheck_unmarked (hx : s.record? n = some x) (hm : x.mark = none) : s.startCheck n = s.beginCheck x := by
  unfold State.startCheck
  rw [hx]
  dsimp only
  rw [hm]

theorem startCheck_marked (hx : s.record? n = some x) {k : PlanMark} (hm : x.mark = some k) :
    s.startCheck n = s.conclude n [k.verdict] k.verdict none := by
  unfold State.startCheck
  rw [hx]
  dsimp only
  rw [hm]
  cases k <;> rfl

theorem reachCheck_faulted (h : s.check.fault = true) (n : Nat) : s.reachCheck n = s.modCheck fun c => { c with condition := .arrived } := by
  unfold State.reachCheck
  rw [if_pos h]

theorem reachCheck_starts (h : s.check.fault = false) (n : Nat) : s.reachCheck n = s.startCheck n := by
  unfold State.reachCheck
  rw [if_neg (by simp [h])]

theorem verdict_fails (k : PlanMark) : k.verdict.passes = false := by cases k <;> rfl

theorem hasRoom_spur {sp : Spur} (h : w.place (.spur sp) = s.place (.spur sp)) : w.hasRoom (.spur sp) = s.hasRoom (.spur sp) := by
  have held : w.occupancy (.spur sp) = s.occupancy (.spur sp) := congrArg (fun e : PlaceEntry => e.occupants.length) h
  simp only [State.hasRoom, held, h]

/-- A pallet failed unweighed for its mark, between a state before it and one after it. -/
theorem failedUnchecked_of {k : PlanMark} (j : Joined s w m a) (hd : m.dest = .check) (hs : m.source ≠ .spur .check)
    (hl : a.location = .check) (hf : s.check.fault = false)
    (c : ConcludedBy w v m.track a [k.verdict] k.verdict none (wayOut w a false)) (kt : KeepsAllBut derived v t)
    (reported : ∀ {y : Report} {q : Report → Prop} {kind : ReportKind}, y ∈ [w.checkDoneReport a k.verdict none, w.rejectReport a k.verdict] →
      y.kind = kind → q y → QueueOpen s → Reported t kind q) : FailedUnchecked s t a k.verdict := by
  have hn : a.number = m.track := record?_number j.record
  have fails := verdict_fails k
  have spur : w.place (.spur .check) = s.place (.spur .check) := j.places _ (by rw [hd]; simp) (Ne.symm hs)
  have room := hasRoom_spur spur
  have free : w.move? a.number = none := by rw [j.move?, hn, if_pos rfl]
  have way : wayOut w a false = if s.hasRoom (.spur .check) = true then some (.spur .check) else none := by
    unfold wayOut
    rw [if_pos ⟨hl, free⟩, waysOut, if_neg (by simp), List.find?_cons, room]
    cases s.hasRoom (.spur .check) <;> rfl
  have fault : w.check.fault = s.check.fault := congrArg (·.fault) (j.keeps .check (by decide))
  have kd : KeepsAllBut (.queue :: derived) v t := kt.mono (by decide)
  refine ⟨s.hasRoom (.spur .check), Iff.rfl, ?_, ?_, fun h => ?_, fun h => ⟨?_, ?_⟩, fun ref sl hr hsl => ?_, fun hr => ?_, ?_, fun ho => ?_, fun ho => ?_⟩
  · rw [kt.record?, hn, c.record, way, Record.judged, fails]
    cases s.hasRoom (.spur .check) <;> rfl
  · rw [show t.check = _ from kt .check (by decide), c.check, way, fault, hf]
    cases s.hasRoom (.spur .check) <;> rfl
  · have asked := c.asked (.spur .check) (by rw [way, if_pos h])
    exact ⟨by rw [kt.move?, hn]; exact asked.1, by rw [kt.place, hn, asked.2, spur]⟩
  · have stays := c.stays (by rw [way, if_neg (by simp [h])])
    have same : v.move? a.number = w.move? a.number := by unfold State.move?; rw [stays]
    rw [kt.move?, same, free]
  · rw [kt.place, c.places _ (by rw [way, if_neg (by simp [h])]; simp), spur]
  · rw [kt.slot?]
    exact c.slot fails ref sl hr ((j.keeps.slot? ref).trans hsl)
  · exact (kt .loads (by decide)).trans ((c.loads (.inr hr)).trans (j.keeps .loads (by decide)))
  · exact (kt .mass (by decide)).trans ((c.keeps .mass (by decide)).trans (j.keeps .mass (by decide)))
  · exact reported (.head _) rfl ⟨congrArg some rfl, rfl, rfl⟩ ho
  · refine reported (.tail _ (.head _)) ?_ ?_ ho
    · unfold State.rejectReport; cases a.ref <;> rfl
    · unfold State.rejectReport; cases a.ref <;> exact ⟨rfl, rfl⟩

/-! ### The check arrival sensor (R42, R44, R84) -/

/-- What the owner of CHECK leaves of the places, the other records and the other moves. -/
structure CheckTold (w v : State) (n : Nat) (new : List Report) : Prop where
  others : ∀ k, k ≠ n → v.move? k = w.move? k ∧ v.record? k = w.record? k
  places : ∀ k, k ≠ .spur .check → v.place k = w.place k
  queues : Queues w v new
  few : new.length ≤ 31
  filtered : v.field.filtered = w.field.filtered

theorem CheckTold.of_keeps (k : KeepsAllBut [.check, .mass, .sent, .scanners] w v) : CheckTold w v n [] :=
  ⟨fun c _ => ⟨k.move? c, k.record? c⟩, fun c _ => k.place c, .of_keeps k, by simp, k .filtered (by decide)⟩

theorem CheckTold.of_concluded {fails : List Code} {primary : Code} {d : Option Int} (hp : primary.passes = false)
    (c : ConcludedBy w v n x fails primary d (wayOut w x false)) :
    CheckTold w v n [w.checkDoneReport x primary d, w.rejectReport x primary] := by
  have queues := c.queues
  rw [hp] at queues
  refine ⟨fun k hk => ⟨c.moves k hk, c.others k hk⟩, fun k hk => c.places k fun h => ?_, queues, by simp, c.keeps .filtered (by decide)⟩
  have way := (wayOut_mem h).1
  simp [waysOut] at way
  exact hk way

/-- What the arrival at CHECK leaves in every case. -/
theorem arrivesAtCheck {i : Infeed} {new : List Report} (j : Joined s w m a) (hd : m.dest = .check) (hs : m.source = .infeed i)
    (c : CheckTold w v m.track new) : StandsIn s (v.lateTold m).settle m ∧ SourceAfter s (v.lateTold m).settle m
      ∧ (∀ k, k ≠ m.track → (v.lateTold m).settle.move? k = s.move? k ∧ (v.lateTold m).settle.record? k = s.record? k)
      ∧ (∀ k, k ≠ .check → k ≠ m.source → k ≠ .spur .check → (v.lateTold m).settle.place k = s.place k) := by
  have kt : KeepsAllBut derived v (v.lateTold m).settle := ((lateTold_keeps v m).mono (by decide)).trans (settle_keeps _)
  have queues := (Queues.of_keeps j.keeps).trans c.queues
  have covered : (v.lateTold m).settle.covered m.source = w.covered m.source := by
    rw [kt.covered, hs]
    unfold State.covered State.input
    dsimp only
    rw [c.filtered]
  refine ⟨?_, j.sourceAfter queues (by simpa using c.few) ?_ covered, fun k hk => ⟨?_, ?_⟩, fun k h1 h2 h3 => ?_⟩
  · unfold StandsIn
    rw [kt.place, c.places _ (by rw [hd]; simp)]
    exact j.stands
  · rw [kt.place, c.places _ (by rw [hs]; simp)]
  · rw [kt.move?, (c.others k hk).1, j.move?, if_neg hk]
  · rw [kt.record?, (c.others k hk).2, j.records k hk]
  · rw [kt.place, c.places k h3, j.places k (by rw [hd]; exact h1) h2]

/-- Settles O20: the head sensor, and the arrival at CHECK in each of its cases. -/
theorem palletsReachTheHeadAndTheCheck : Obligations.PalletsReachTheHeadAndTheCheck := by
  refine ⟨fun i s h => ⟨fun n before after r ho hb hr hs => headSensor_marks h ho hb hr hs, fun all => ?_⟩, ?_⟩
  · have k := heardInput_keeps (s := s) (.head i) true
    refine ⟨_, exec_headExpiry h, ?_⟩
    rw [reachHead_passes fun n hn => by
      unfold State.stageOf
      rw [k.record?]
      exact all n (by rwa [k.place] at hn)]
    exact (k.mono (by decide)).trans ((settle_keeps _).mono (by decide))
  · rintro s m r _ i h hb hs hr rfl
    obtain ⟨hd, -⟩ : m.dest = .check ∧ m.state ≠ .waiting := by simpa using List.find?_some hb
    obtain ⟨w, j, run⟩ := completion_run rfl (by simp) h hb (by rw [hs]; simp) hr
    have left : w.leftTold m = w := by
      unfold State.leftTold
      rw [hs]
      split <;> rfl
    have check : w.check = s.check := j.keeps .check (by decide)
    have location : (r.arrivedAt m).location = .check := by
      rw [← hd]
      unfold Record.arrivedAt
      split <;> rfl
    have mark : (r.arrivedAt m).mark = r.mark := by
      unfold Record.arrivedAt
      split <;> rfl
    have free : w.move? m.track = none := by rw [j.move?, if_pos rfl]
    rw [left, show w.reachedPlace m.track .check = w.reachCheck m.track from rfl] at run
    have settled (v : State) : KeepsAllBut derived v (v.lateTold m).settle := ((lateTold_keeps v m).mono (by decide)).trans (settle_keeps _)
    cases hf : s.check.fault with
    | true =>
      rw [reachCheck_faulted (by rw [check, hf])] at run
      have kv : KeepsAllBut [.check] w (w.modCheck fun c => { c with condition := .arrived }) := by simp
      obtain ⟨stands, source, others, places⟩ := arrivesAtCheck j hd hs (.of_keeps (kv.mono (by decide)))
      have after : (w.modCheck fun c => { c with condition := .arrived }).check = { s.check with condition := .arrived } := by rw [← check]; rfl
      generalize (w.modCheck fun c => { c with condition := .arrived }) = v at *
      have kt := settled v
      refine ⟨_, run, stands, source, others, places, fun _ => ⟨?_, ?_, ?_, ?_⟩, nofun, nofun⟩
      · exact (kt .check (by decide)).trans after
      · rw [kt.record?, kv.record?, j.record]
      · rw [kt.move?, kv.move?, free]
      · exact (j.keeps.mono (by decide)).trans ((kv.mono (by decide)).trans (kt.mono (by decide)))
    | false =>
      rw [reachCheck_starts (by rw [check, hf])] at run
      cases hm : r.mark with
      | none =>
        rw [startCheck_unmarked j.record (mark.trans hm)] at run
        have begun := beginCheck_begins j.record (by rw [check, hf])
        have kv := beginCheck_keeps w (r.arrivedAt m)
        generalize w.beginCheck (r.arrivedAt m) = v at *
        obtain ⟨stands, source, others, places⟩ := arrivesAtCheck j hd hs (.of_keeps kv)
        have kt := settled v
        refine ⟨_, run, stands, source, others, places, nofun, fun _ _ => ⟨begun.between j.keeps kt, ?_, ?_⟩, fun k _ h => nomatch h⟩
        · rw [kt.move?, kv.move?, free]
        · exact (j.keeps.mono (by decide)).trans ((kv.mono (by decide)).trans (kt.mono (by decide)))
      | some k =>
        rw [startCheck_marked j.record (mark.trans hm)] at run
        have c := conclude_leaves j.record [k.verdict] k.verdict none
        rw [verdict_fails k] at c
        generalize w.conclude m.track [k.verdict] k.verdict none = v at *
        have told := CheckTold.of_concluded (verdict_fails k) c
        obtain ⟨stands, source, others, places⟩ := arrivesAtCheck j hd hs told
        have kt := settled v
        refine ⟨_, run, stands, source, others, places, nofun, (fun _ h => nomatch h), fun _ _ e => ?_⟩
        obtain rfl := Option.some.inj e
        refine ⟨failedUnchecked_of j hd (by rw [hs]; simp) location hf c kt fun hy hk hq ho => ?_, ?_⟩
        · exact lateTold_reported ((Queues.of_keeps j.keeps).trans told.queues) (by simp) hy hk hq ho
        · exact (j.keeps.mono (by decide)).trans ((c.keeps.mono (by decide)).trans (kt.mono (by decide)))

end Sys2Proof.Machine
end

section
/-! SUPPORT. What the owners of the two places of a completing move do: the place left (R90, R126, R144) and the place reached
(R113, R117, R136, R163). -/

namespace Sys2Proof.Machine

open State

variable {bs : List Block} {r s t u v w : State} {p : Place} {i : Input} {n : Nat} {x a : Record} {m : Move}

/-! ### The place left -/

/-- The blocks of the owners of places that a move may leave. -/
def leavers : List Block := [.check, .wrap, .label, .printLimit, .buffer]

theorem leftPlace_keeps (w : State) (n : Nat) (p : Place) : KeepsAllBut leavers w (w.leftPlace n p) := by
  cases p with
  | check => simp [leavers, State.leftPlace]
  | wrapper k => simp [leavers, State.leftPlace]
  | label => simp [leavers, State.leftPlace]
  | _ => exact keeps_refl

theorem leftTold_keeps (w : State) (m : Move) : KeepsAllBut leavers w (w.leftTold m) := by
  unfold State.leftTold
  split
  · exact keeps_refl
  · exact leftPlace_keeps w _ _

theorem leftTold_inTime (h : m.state ≠ .lost) : w.leftTold m = w.leftPlace m.track m.source := if_neg h

/-- A place without an owner that is told leaves every block as it is. -/
theorem leftTold_plain (hc : m.source ≠ .check) (hw : ∀ k, m.source ≠ .wrapper k) (hl : m.source ≠ .label) : w.leftTold m = w := by
  unfold State.leftTold
  split
  · rfl
  · unfold State.leftPlace
    split
    · exact absurd ‹_› hc
    · exact absurd ‹_› (hw _)
    · exact absurd ‹_› hl
    · rfl

theorem leftPlace_check (w : State) (n : Nat) (p : Place) : (w.leftPlace n p).check = if p = .check then
    { w.check with condition := if w.movesTo .check then .incoming else .empty, current := none } else w.check := by
  cases p with
  | label =>
    rw [if_neg nofun]
    have kept : KeepsAllBut [.label, .printLimit, .buffer] w (w.leftPlace n .label) := by simp [State.leftPlace]
    exact kept .check (by decide)
  | _ => rfl

theorem leftPlace_wrapper (w : State) (n : Nat) (p : Place) (k : Side) :
    (w.leftPlace n p).wrapper k = if p = .wrapper k then (w.wrapper k).given w.lineTime else w.wrapper k := by
  cases p with
  | wrapper j =>
    refine (leaveWrapper_wrapper w j k).trans ?_
    by_cases e : k = j
    · rw [if_pos e, if_pos (by rw [e]), e]
    · rw [if_neg e, if_neg fun h => e (by cases h; rfl)]
  | label =>
    rw [if_neg nofun]
    have kept : KeepsAllBut [.label, .printLimit, .buffer] w (w.leftPlace n .label) := by simp [State.leftPlace]
    exact kept.wrapper k
  | _ => rfl

theorem leftPlace_label (w : State) (n : Nat) (p : Place) : (w.leftPlace n p).label = if p = .label then w.label.given n else w.label := by
  cases p with
  | label => exact leaveLabel_label w n
  | _ => rfl

theorem leftPlace_buffer (w : State) (n : Nat) (p : Place) : (w.leftPlace n p).buffer = if p = .label then
    { w.buffer with exitPallet := if w.buffer.exitPallet = some n then none else w.buffer.exitPallet } else w.buffer := by
  cases p with
  | label =>
    have same : (w.leaveLabel n).buffer = w.buffer := by
      unfold State.leaveLabel
      split <;> rfl
    show ({ (w.leaveLabel n).buffer with
      exitPallet := if ((w.leaveLabel n).buffer.exitPallet == some n) = true then none else (w.leaveLabel n).buffer.exitPallet } : BufferController) = _
    rw [same]
    simp only [beq_iff_eq, if_true]
  | _ => rfl

theorem leftPlace_wrapLists (w : State) (n : Nat) (p : Place) :
    (w.leftPlace n p).wrap.staging = w.wrap.staging ∧ (w.leftPlace n p).wrap.labelOrder = w.wrap.labelOrder := by
  cases p with
  | label =>
    have kept : KeepsAllBut [.label, .printLimit, .buffer] w (w.leftPlace n .label) := by simp [State.leftPlace]
    rw [show State.wrap _ = _ from kept .wrap (by decide)]
    exact ⟨rfl, rfl⟩
  | _ => exact ⟨rfl, rfl⟩

/-- With the move gone from the list, CHECK is INCOMING for another move to it only (R90). -/
theorem Joined.movesTo_iff (j : Joined s w m a) : w.movesTo .check = true ↔ ∃ k ∈ s.field.moves, k.track ≠ m.track ∧ k.dest = .check := by
  unfold State.movesTo
  rw [j.moves, List.any_eq_true]
  simp [and_assoc]

/-! ### The place reached -/

/-- The blocks of the owners of places that a move may reach, but CHECK and a lane. -/
def reachers : List Block := [.queue, .records, .wrap, .sent, .label, .moves, .places, .buffer]

/-- The places of O10. -/
structure OrdinaryEnd (p : Place) (i : Input) : Prop where
  completed : p.completedBy = some i
  lane : ∀ l, p ≠ .lane l
  check : p ≠ .check
  shuttle : p ≠ .shuttle

/-- The place reached is a spur, a staging position, a wrapper, LABEL or a buffer position. -/
theorem OrdinaryEnd.elim {motive : Place → Prop} (h : OrdinaryEnd p i) (spur : ∀ sp, motive (.spur sp)) (staging : ∀ k, motive (.staging k))
    (wrapper : ∀ k, motive (.wrapper k)) (label : motive .label) (position : ∀ q, motive (.position q)) : motive p := by
  cases p with
  | infeed j => cases h.completed
  | check => exact absurd rfl h.check
  | staging k => exact staging k
  | wrapper k => exact wrapper k
  | label => exact label
  | shuttle => exact absurd rfl h.shuttle
  | position q => exact position q
  | spur sp => exact spur sp
  | lane l => exact absurd rfl (h.lane l)

/-- What the owner of the place reached leaves of the places, the other records and the other moves. -/
structure ReachTold (u v : State) (m : Move) (p : Place) (new : List Report) : Prop where
  others : ∀ k, k ≠ m.track → (p = .label ∧ u.label.pallet.map (·.track) = some k) ∨ v.move? k = u.move? k ∧ v.record? k = u.record? k
  places : ∀ k, (p = .label ∧ k = .spur .finish) ∨ v.place k = u.place k
  queues : Queues u v new
  few : new.length ≤ 1
  keeps : KeepsAllBut reachers u v

theorem ReachTold.unchanged (u : State) (m : Move) (p : Place) : ReachTold u u m p [] :=
  ⟨fun _ _ => .inr ⟨rfl, rfl⟩, fun _ => .inr rfl, .of_keeps (bs := []) keeps_refl, by simp, keeps_refl⟩

/-- A pallet is STAGED (R113). -/
def State.stagedAt (s : State) (n : Nat) (k : Side) : State := (s.setStage n .staged).setStaging k (some ⟨n, s.lineTime⟩)

theorem stagedAt_keeps (s : State) (n : Nat) (k : Side) : KeepsAllBut [.records, .wrap] s (s.stagedAt n k) := by simp [State.stagedAt]

theorem stagedAt_record? (s : State) (n j : Nat) (k : Side) :
    (s.stagedAt n k).record? j = if j = n then (s.record? n).map fun r => { r with stage := .staged } else s.record? j :=
  setStage_record? (s := s) j

theorem enterStaging_raised (s : State) (n : Nat) (k : Side) : KeepsAllBut [.queue] (s.stagedAt n k) (s.enterStaging n k) :=
  raise_keeps _ _ _

theorem staged_told (u : State) (m : Move) (k : Side) :
    ReachTold u (u.enterStaging m.track k) m (.staging k) [u.report .wrapDone (noteOf m.track (u.refOf m.track) 4 (some k.number))] := by
  have kept := stagedAt_keeps u m.track k
  have raised := enterStaging_raised u m.track k
  refine ⟨fun c hc => .inr ⟨?_, ?_⟩, fun c => .inr ?_, .raised kept, by simp, (kept.mono (by decide)).trans (raised.mono (by decide))⟩
  · exact (raised.move? c).trans (kept.move? c)
  · exact (raised.record? c).trans ((stagedAt_record? u _ c k).trans (if_neg hc))
  · exact (raised.place c).trans (kept.place c)

/-- A wrapper that its pallet reaches (R117). -/
theorem wrapped_told (u : State) (m : Move) (k : Side) : ReachTold u (u.reachWrapper k) m (.wrapper k) [] := by
  have kept : KeepsAllBut [.wrap, .sent] u (u.reachWrapper k) := by simp
  exact ⟨fun c _ => .inr ⟨kept.move? c, kept.record? c⟩, fun c => .inr (kept.place c), .of_keeps kept, by simp, kept.mono (by decide)⟩

/-- A pallet is HELD (R163). -/
def State.heldAt (s : State) (n : Nat) : State := (s.modBuffer fun b => (b.unreserve n).endTask n).setStage n .held

theorem heldAt_keeps (s : State) (n : Nat) : KeepsAllBut [.records, .buffer] s (s.heldAt n) := by
  simp [State.heldAt, BufferController.unreserve, BufferController.endTask]

theorem heldAt_record? (s : State) (n k : Nat) :
    (s.heldAt n).record? k = if k = n then (s.record? n).map fun r => { r with stage := .held } else s.record? k :=
  setStage_record? (s := s.modBuffer _) k

/-- The report that a pallet is HELD (R163). -/
def State.heldReport (s : State) (n : Nat) (q : Position) : Report :=
  s.report .held (noteOf n ((s.heldAt n).refOf n) (q.val + 1)
    (some (laneNumber ((((s.heldAt n).record? n).bind (s.heldAt n).boundLane).map (·.2.2)))))

theorem heldReport_load (hx : u.record? n = some x) (q : Position) : (u.heldReport n q).load = x.ref.map (·.load) := by
  have ref : (u.heldAt n).refOf n = x.ref := by
    unfold State.refOf
    rw [heldAt_record?, if_pos rfl, hx]
    rfl
  rw [← ref]
  rfl

theorem heldReport_value (hx : u.record? n = some x) (q : Position) {ld : Load} {ref : LoadRef} {l : Lane}
    (hl : u.boundLane x = some (ld, ref, l)) : (u.heldReport n q).value = some ((l.val + 1 : Nat) : Int) := by
  have lane : (u.heldAt n).boundLane { x with stage := .held } = some (ld, ref, l) := by
    obtain ⟨hr, hd, hb⟩ := boundLane_iff.mp hl
    exact boundLane_iff.mpr ⟨hr, by rw [(heldAt_keeps u n).load?, hd], hb⟩
  show some ((laneNumber _ : Nat) : Int) = _
  rw [heldAt_record?, if_pos rfl, hx, Option.map_some, Option.bind_some, lane]
  rfl

theorem storeCompleted_raised (s : State) (n : Nat) (q : Position) : KeepsAllBut [.queue] (s.heldAt n) (s.storeCompleted n q) :=
  raise_keeps _ _ _

theorem held_told (u : State) (m : Move) (q : Position) :
    ReachTold u (u.storeCompleted m.track q) m (.position q) [u.heldReport m.track q] := by
  have kept := heldAt_keeps u m.track
  have raised := storeCompleted_raised u m.track q
  refine ⟨fun c hc => .inr ⟨?_, ?_⟩, fun c => .inr ?_, .raised kept, by simp, (kept.mono (by decide)).trans (raised.mono (by decide))⟩
  · exact (raised.move? c).trans (kept.move? c)
  · exact (raised.record? c).trans ((heldAt_record? u m.track c).trans (if_neg hc))
  · exact (raised.place c).trans (kept.place c)

/-! ### LABEL reached (R136) -/

theorem passOn_always_keeps (s : State) (n : Nat) : KeepsAllBut [.moves, .records, .places, .label] s (s.passOn n) := by
  rcases hx : s.record? n with _ | x
  · have none : s.askMove n (.spur .finish) = none := by simp only [State.askMove, hx]
    rw [State.passOn, none]
    simp
  · exact passOn_keeps hx

theorem passOn_otherPlace (s : State) (n : Nat) {k : Place} (hk : k ≠ .spur .finish) : (s.passOn n).place k = s.place k := by
  rcases hx : s.record? n with _ | x
  · have none : s.askMove n (.spur .finish) = none := by simp only [State.askMove, hx]
    rw [State.passOn, none]
    rfl
  · exact passOn_place hx (.inl hk)

theorem reachLabel_faulted (h : u.label.fault.isSome = true) : u.reachLabel = u.modLabel fun k => { k with condition := .arrived } := if_pos h

theorem reachLabel_begins (h : u.label.fault = none) : u.reachLabel = u.beginLabelWork := if_neg (by simp [h])

theorem labelled_told (u : State) (m : Move) : ∃ new, ReachTold u u.reachLabel m .label new := by
  have only {v : State} (k : KeepsAllBut [.label] u v) : ReachTold u v m .label [] :=
    ⟨fun c _ => .inr ⟨k.move? c, k.record? c⟩, fun c => .inr (k.place c), .of_keeps k, by simp, k.mono (by decide)⟩
  rcases hf : u.label.fault with _ | f
  · rw [reachLabel_begins hf]
    rcases hp : u.label.pallet with _ | p
    · rw [beginLabelWork_none hp]
      exact ⟨[], .unchanged u m .label⟩
    · have touched := beginLabelWork_touches hp
      have others : ∀ k, k ≠ m.track → (Place.label = .label ∧ u.label.pallet.map (·.track) = some k) ∨
          u.beginLabelWork.move? k = u.move? k ∧ u.beginLabelWork.record? k = u.record? k := by
        intro k _
        by_cases hk : k = p.track
        · exact .inl ⟨rfl, by rw [hp, hk]; rfl⟩
        · exact .inr (touched.others k hk).symm
      rw [beginLabelWork_some hp] at others ⊢
      cases failed : p.failed with
      | false =>
        rw [if_neg (by decide)]
        exact ⟨[], only (by simp [State.waitForPrint])⟩
      | true =>
        rw [failed, if_pos rfl] at others
        have work := workFailing_keeps u p.track
        obtain ⟨d, queues⟩ := workFailing_queues u p.track
        have pass := passOn_always_keeps (u.workFailing p.track) p.track
        rw [if_pos rfl]
        refine ⟨_, others, fun k => ?_, queues.trans (.of_keeps pass), by simp, (work.mono (by decide)).trans (pass.mono (by decide))⟩
        by_cases hk : k = .spur .finish
        · exact .inl ⟨rfl, hk⟩
        · exact .inr ((passOn_otherPlace _ _ hk).trans (work.place k))
  · rw [reachLabel_faulted (by rw [hf]; rfl)]
    exact ⟨[], only (by simp)⟩

/-- The owner of an ordinary place reached changes nothing but what is its own. -/
theorem reachedPlace_told (h : OrdinaryEnd p i) (u : State) (m : Move) : ∃ new, ReachTold u (u.reachedPlace m.track p) m p new :=
  h.elim (motive := fun p => ∃ new, ReachTold u (u.reachedPlace m.track p) m p new) (fun sp => ⟨_, .unchanged u m (.spur sp)⟩)
    (fun k => ⟨_, staged_told u m k⟩) (fun k => ⟨_, wrapped_told u m k⟩) (labelled_told u m) (fun q => ⟨_, held_told u m q⟩)

end Sys2Proof.Machine
end

section
/-! PROOF. O10: a move completes, in time or late, as the sensor of its destination becomes covered. -/

namespace Sys2Proof.Machine

open State

variable {bs : List Block} {r s t u v w : State} {p : Place} {i : Input} {n : Nat} {x a : Record} {m : Move} {new : List Report}

/-! ### In every case -/

theorem leftTold_wrapOnly {k : Side} (hs : m.source = .wrapper k) : KeepsAllBut [.wrap] w (w.leftTold m) := by
  unfold State.leftTold
  rw [hs]
  split
  · exact keeps_refl
  · simp [State.leftPlace]

theorem moveZone_source {p q : Place} {z : Zone} (h : moveZone p q = some z) : p ≠ q ∧ ∀ sp, p ≠ .spur sp := by
  cases p with
  | spur sp => cases h
  | _ =>
    refine ⟨?_, nofun⟩
    rintro rfl
    cases h

/-- A completion at an ordinary place: the pallet joined, the owners told, and the outputs settled. -/
structure Completes (s w v t : State) (m : Move) (a : Record) (p : Place) (new : List Report) : Prop where
  joined : Joined s w m a
  dest : m.dest = p
  zone : moveZone m.source p = some m.zone
  reached : v = (w.leftTold m).reachedPlace m.track p
  told : ReachTold (w.leftTold m) v m p new
  ends : t = (v.lateTold m).settle

namespace Completes

variable (c : Completes s w v t m a p new)
include c

theorem settled : KeepsAllBut derived v t := by
  rw [c.ends]
  exact ((lateTold_keeps v m).mono (by decide)).trans (settle_keeps _)

theorem reachedKeeps : KeepsAllBut (reachers ++ derived) (w.leftTold m) t := (c.told.keeps.mono (by decide)).trans (c.settled.mono (by decide))

theorem ownersKeep : KeepsAllBut (leavers ++ reachers ++ derived) w t :=
  ((leftTold_keeps w m).mono (by decide)).trans (c.reachedKeeps.mono (by decide))

theorem place_eq {k : Place} (h : k ≠ .spur .finish) : t.place k = w.place k :=
  (c.settled.place k).trans ((((c.told.places k).resolve_left fun e => h e.2)).trans ((leftTold_keeps w m).place k))

theorem leftKeeps : KeepsAllBut ([.filtered, .timing, .places, .moves, .records] ++ leavers) s (w.leftTold m) :=
  (c.joined.keeps.mono (by decide)).trans ((leftTold_keeps w m).mono (by decide))

theorem queuesLeft : Queues s (w.leftTold m) [] := .of_keeps c.leftKeeps

theorem queues : Queues s v new := c.queuesLeft.trans c.told.queues

theorem reports {y : Report} {q : Report → Prop} {kind : ReportKind} (hy : y ∈ new) (hk : y.kind = kind) (hq : q y) (ho : QueueOpen s) :
    Reported t kind q := by
  rw [c.ends]
  exact lateTold_reported c.queues (c.told.few.trans (by decide)) hy hk hq ho

theorem stands : StandsIn s t m := by
  unfold StandsIn
  by_cases h : m.dest = .spur .finish
  · have same := (c.told.places m.dest).resolve_left fun e => by rw [← c.dest, h] at e; cases e.1
    rw [c.settled.place, same, (leftTold_keeps w m).place]
    exact c.joined.stands
  · rw [c.place_eq h]
    exact c.joined.stands

theorem source : SourceAfter s t m := by
  have place : t.place m.source = w.place m.source := c.place_eq ((moveZone_source c.zone).2 _)
  have covered : t.covered m.source = w.covered m.source := c.ownersKeep.covered m.source
  rw [c.ends] at place covered ⊢
  exact c.joined.sourceAfter c.queues (c.told.few.trans (by decide)) place covered

/-- A move to LABEL starts in a wrapper, whose owner leaves the label unit as it is. -/
theorem fromWrapper (hp : p = .label) : ∃ k, m.source = .wrapper k := by
  have zone := c.zone
  rw [hp] at zone
  cases hs : m.source with
  | wrapper k => exact ⟨k, rfl⟩
  | _ => rw [hs] at zone; cases zone

theorem wrapOnly (hp : p = .label) : KeepsAllBut [.filtered, .timing, .places, .moves, .records, .wrap] s (w.leftTold m) := by
  obtain ⟨k, hs⟩ := c.fromWrapper hp
  exact (c.joined.keeps.mono (by decide)).trans ((leftTold_wrapOnly hs).mono (by decide))

theorem labelBefore (hp : p = .label) : (w.leftTold m).label = s.label := (c.wrapOnly hp).wholeLabel

theorem others (k : Nat) (hk : k ≠ m.track) : (p = .label ∧ s.label.pallet.map (·.track) = some k) ∨
    (t.move? k = s.move? k ∧ t.record? k = s.record? k) := by
  by_cases label : p = .label ∧ s.label.pallet.map (·.track) = some k
  · exact .inl label
  · have left := leftTold_keeps w m
    have same : v.move? k = (w.leftTold m).move? k ∧ v.record? k = (w.leftTold m).record? k := by
      refine (c.told.others k hk).resolve_left fun ⟨hp, hl⟩ => label ⟨hp, ?_⟩
      rwa [c.labelBefore hp] at hl
    refine .inr ⟨?_, ?_⟩
    · rw [c.settled.move?, same.1, left.move?, c.joined.move?, if_neg hk]
    · rw [c.settled.record?, same.2, left.record?, c.joined.records k hk]

theorem otherPlaces (k : Place) (hp : k ≠ p) (hs : k ≠ m.source) : (p = .label ∧ k = .spur .finish) ∨ t.place k = s.place k := by
  refine (c.told.places k).imp_right fun same => ?_
  rw [c.settled.place, same, (leftTold_keeps w m).place, c.joined.places k (by rw [c.dest]; exact hp) hs]

theorem keeps : KeepsAllBut ([.filtered, .timing, .moves, .records, .places, .check, .wrap, .label, .buffer, .sent] ++ derived) s t :=
  (c.joined.keeps.mono (by decide)).trans (c.ownersKeep.mono (by decide))

/-! ### The place left -/

theorem check (h : m.state ≠ .lost) (hs : m.source = .check) : t.check = { s.check with
    condition := if ∃ k ∈ s.field.moves, k.track ≠ m.track ∧ k.dest = .check then .incoming else .empty, current := none } := by
  have before : w.check = s.check := c.joined.keeps .check (by decide)
  have bound := c.joined.movesTo_iff
  rw [show t.check = (w.leftTold m).check from c.reachedKeeps .check (by decide), leftTold_inTime h, hs, leftPlace_check, if_pos rfl, before]
  simp only [bound]

theorem wrapper {k : Side} (h : m.state ≠ .lost) (hs : m.source = .wrapper k) : t.wrapper k = { s.wrapper k with
    pallet := none, order := none
    status := if (s.wrapper k).status = .faulted then .faulted else .idle
    idleSince := if (s.wrapper k).status = .faulted then (s.wrapper k).idleSince else s.lineTime } := by
  have label : p = .label := by
    have zone := c.zone
    rw [hs] at zone
    cases p with
    | label => rfl
    | _ => cases zone
  have reached : v = (w.leftTold m).reachLabel := by rw [c.reached, label]; rfl
  have kept : KeepsAllBut [.queue, .places, .moves, .records, .check, .label] (w.leftTold m) v := by rw [reached]; simp
  have before : w.wrapper k = s.wrapper k := c.joined.keeps.wrapper k
  have time : w.lineTime = s.lineTime := c.joined.keeps .lineTime (by decide)
  rw [c.settled.wrapper, kept.wrapper, leftTold_inTime h, hs, leftPlace_wrapper, if_pos rfl, before, time]
  rfl

theorem label (ends : p ≠ .shuttle) (h : m.state ≠ .lost) (hs : m.source = .label) :
    t.buffer.exitPallet = (if s.buffer.exitPallet = some m.track then none else s.buffer.exitPallet)
    ∧ (s.label.pallet.map (·.track) = some m.track → t.label.pallet = none ∧ t.label.condition = .empty) := by
  have reached : v = w.leftTold m := by
    have zone := c.zone
    rw [hs] at zone
    rw [c.reached]
    cases p with
    | spur sp => rfl
    | shuttle => exact absurd rfl ends
    | _ => cases zone
  have buffer : w.buffer = s.buffer := c.joined.keeps.wholeBuffer
  have label : w.label = s.label := c.joined.keeps.wholeLabel
  refine ⟨?_, fun own => ?_⟩
  · rw [c.settled.buffer, reached]
    show (w.leftTold m).buffer.exitPallet = _
    rw [leftTold_inTime h, hs, leftPlace_buffer, if_pos rfl, buffer]
  · rw [c.settled.label, reached, leftTold_inTime h, hs, leftPlace_label, if_pos rfl, label, LabelController.given, if_pos own]
    exact ⟨rfl, rfl⟩

/-! ### The place reached -/

theorem record (h : v.record? m.track = (w.leftTold m).record? m.track) : t.record? m.track = some a := by
  rw [c.settled.record?, h, (leftTold_keeps w m).record?, c.joined.record]

theorem moveOver (h : v.move? m.track = (w.leftTold m).move? m.track) : t.move? m.track = none := by
  rw [c.settled.move?, h, (leftTold_keeps w m).move?, c.joined.move?, if_pos rfl]

theorem spur {sp : Spur} (hp : p = .spur sp) : t.record? m.track = some a ∧ t.move? m.track = none := by
  have reached : v = w.leftTold m := by rw [c.reached, hp]; rfl
  exact ⟨c.record (by rw [reached]), c.moveOver (by rw [reached])⟩

/-- A move to a wrapper or a buffer position starts in a place without an owner that is told. -/
theorem leftUntold (staging : ∀ k, p ≠ .staging k) (spur : ∀ sp, p ≠ .spur sp) (label : p ≠ .label) (shuttle : p ≠ .shuttle := by simp) :
    w.leftTold m = w := by
  have zone := c.zone
  refine leftTold_plain (fun hs => ?_) (fun k hs => ?_) fun hs => ?_
  all_goals
    rw [hs] at zone
    cases p <;> simp_all [moveZone]

theorem retold {new' : List Report} (h : ReachTold (w.leftTold m) v m p new') : Completes s w v t m a p new' := { c with told := h }

theorem recordBefore : (w.leftTold m).record? m.track = some a := ((leftTold_keeps w m).record? _).trans c.joined.record

theorem time : (w.leftTold m).lineTime = s.lineTime :=
  ((leftTold_keeps w m) .lineTime (by decide)).trans (c.joined.keeps .lineTime (by decide))

theorem reference {r : Record} (ha : a = r.arrivedAt m) : (w.leftTold m).refOf m.track = r.ref := by
  unfold State.refOf
  rw [(leftTold_keeps w m).record?, c.joined.record, ha]
  unfold Record.arrivedAt
  split <;> rfl

theorem staging {r : Record} {k : Side} (ha : a = r.arrivedAt m) (hp : p = .staging k) :
    t.record? m.track = some { a with stage := .staged } ∧ t.move? m.track = none ∧ t.staging k = some ⟨m.track, s.lineTime⟩
      ∧ (QueueOpen s → Reported t .wrapDone fun x =>
        x.track = some m.track ∧ x.load = r.ref.map (·.load) ∧ x.detail = 4 ∧ x.value = some (k.number : Int)) := by
  have reached : v = (w.leftTold m).enterStaging m.track k := by rw [c.reached, hp]; rfl
  subst hp
  have told := staged_told (w.leftTold m) m k
  rw [← reached] at told
  have c := c.retold told
  have kept := stagedAt_keeps (w.leftTold m) m.track k
  have raised := enterStaging_raised (w.leftTold m) m.track k
  rw [← reached] at raised
  refine ⟨?_, c.moveOver ((raised.move? _).trans (kept.move? _)), ?_, c.reports (.head _) rfl ⟨rfl, ?_, rfl, rfl⟩⟩
  · rw [c.settled.record?, raised.record?, stagedAt_record?, if_pos rfl, c.recordBefore]
    rfl
  · rw [c.settled.staging, raised.staging, ← c.time]
    exact (setStaging_staging k _ k).trans (if_pos rfl)
  · rw [← c.reference ha]; rfl

theorem wrapped {k : Side} (hp : p = .wrapper k) : t.record? m.track = some a ∧ t.move? m.track = none
    ∧ ((s.wrapper k).status ≠ .idle → t.wrapper k = s.wrapper k ∧ t.sent = s.sent)
    ∧ ((s.wrapper k).status = .idle → ∀ o, (s.wrapper k).order = some o → OrderedWith s t k o []) := by
  subst hp
  have same : w.leftTold m = w := c.leftUntold (by simp) (by simp) (by simp)
  have reached : v = w.reachWrapper k := by rw [c.reached, same]; rfl
  have kept : KeepsAllBut [.wrap, .sent] (w.leftTold m) v := by rw [reached, same]; simp
  have before : w.wrapper k = s.wrapper k := c.joined.keeps.wrapper k
  have sent : w.sent = s.sent := c.joined.keeps .sent (by decide)
  have limit : w.setting .ackLimit = s.setting .ackLimit := c.joined.keeps.setting _
  have mode : w.mode = s.mode := c.joined.keeps .mode (by decide)
  have wrapper : t.wrapper k = v.wrapper k := c.settled.wrapper k
  have after : t.sent = v.sent := c.settled .sent (by decide)
  refine ⟨c.record (kept.record? _), c.moveOver (kept.move? _), fun busy => ?_, fun idle o ho => ?_⟩
  · have stays : w.reachWrapper k = w := by
      unfold State.reachWrapper
      rw [before, if_neg (by simpa using busy)]
    rw [wrapper, after, reached, stays]
    exact ⟨before, sent⟩
  · have orders : w.reachWrapper k = w.orderWrapper k := by
      unfold State.reachWrapper
      rw [before, if_pos (by simpa using idle)]
    obtain ⟨now, later⟩ := orderWrapper_ordered (before ▸ ho)
    have working : w.working = true ↔ s.mode.mode = .run ∨ s.mode.mode = .drain := by rw [working_iff, mode]
    rw [before, sent, limit] at now
    rw [before, sent] at later
    unfold OrderedWith
    rw [wrapper, after, reached, orders, List.append_nil]
    refine ⟨fun h => now (working.mpr h), fun h1 h2 => later ?_⟩
    cases h : w.working with
    | false => rfl
    | true => exact absurd (working.mp h) (by rintro (e | e) <;> contradiction)

theorem held {r : Record} {q : Position} (ha : a = r.arrivedAt m) (hp : p = .position q) :
    t.record? m.track = some { a with stage := .held } ∧ t.move? m.track = none
      ∧ (∀ k, tget t.buffer.reserved k = if tget s.buffer.reserved k = some m.track then none else tget s.buffer.reserved k)
      ∧ (∀ k, t.buffer.task = some k → k.track ≠ m.track)
      ∧ (QueueOpen s → Reported t .held fun x => x.track = some m.track ∧ x.load = r.ref.map (·.load) ∧ x.detail = q.val + 1
        ∧ (∀ ref ld l, LaneOf s r ref ld l → x.value = some ((l.val + 1 : Nat) : Int))) := by
  subst hp
  have same : w.leftTold m = w := c.leftUntold (by simp) (by simp) (by simp)
  have reached : v = (w.leftTold m).storeCompleted m.track q := by rw [c.reached]; rfl
  have told := held_told (w.leftTold m) m q
  rw [← reached] at told
  have c := c.retold told
  have before : w.buffer = s.buffer := c.joined.keeps.wholeBuffer
  have ref : a.ref = r.ref := by
    rw [ha]
    unfold Record.arrivedAt
    split <;> rfl
  have kept := heldAt_keeps (w.leftTold m) m.track
  have raised := storeCompleted_raised (w.leftTold m) m.track q
  rw [← reached] at raised
  have reserved : t.buffer.reserved = tmap (fun k => if k == some m.track then none else k) s.buffer.reserved := by
    rw [c.settled.buffer, raised.buffer, ← before, same]
    rfl
  have task : t.buffer.task = (s.buffer.endTask m.track).task := by
    rw [c.settled.buffer, raised.buffer, ← before, same]
    rfl
  refine ⟨?_, c.moveOver ((raised.move? _).trans (kept.move? _)), fun k => ?_, fun k hk => ?_,
    c.reports (.head _) rfl ⟨rfl, ?_, rfl, fun rf ld l hl => ?_⟩⟩
  · rw [c.settled.record?, raised.record?, heldAt_record?, if_pos rfl, c.recordBefore]
    rfl
  · rw [reserved, tget_tmap]
    simp only [beq_iff_eq]
  · rw [task] at hk
    unfold BufferController.endTask at hk
    grind
  · exact (heldReport_load c.recordBefore q).trans (by rw [ref])
  · refine heldReport_value c.recordBefore q (boundLane_iff.mpr ⟨ref.trans hl.1, ?_, hl.2.2⟩)
    rw [c.leftKeeps.load?, hl.2.1]

/-- LABEL is reached by a pallet of the label unit (R136). -/
theorem labelled (hp : p = .label) :
    (s.label.fault.isSome = true → t.record? m.track = some a ∧ t.label.condition = .arrived ∧ t.move? m.track = none)
    ∧ (s.label.fault = none → ∀ failed, s.label.pallet = some ⟨m.track, failed⟩ → LabelWorkBegun s t a failed) := by
  have before := c.labelBefore hp
  have number : a.number = m.track := record?_number c.joined.record
  have reached : v = (w.leftTold m).reachLabel := by rw [c.reached, hp]; rfl
  have free : (w.leftTold m).move? m.track = none := by rw [(leftTold_keeps w m).move?, c.joined.move?, if_pos rfl]
  refine ⟨fun faulted => ?_, fun working failed hl => ?_⟩
  · rw [reachLabel_faulted (by rwa [before])] at reached
    have kept : KeepsAllBut [.label] (w.leftTold m) v := by rw [reached]; simp
    refine ⟨c.record (kept.record? _), ?_, c.moveOver (kept.move? _)⟩
    rw [c.settled.label, reached]
    rfl
  · have pallet : (w.leftTold m).label.pallet = some ⟨m.track, failed⟩ := by rw [before, hl]
    rw [reachLabel_begins (by rw [before, working]), beginLabelWork_some pallet] at reached
    cases failed with
    | false =>
      rw [if_neg Bool.false_ne_true] at reached
      have kept : KeepsAllBut [.label] (w.leftTold m) v := by rw [reached]; simp [State.waitForPrint]
      refine ⟨fun _ => ⟨?_, ?_, ?_, ?_⟩, nofun⟩
      · rw [number]
        exact c.record (kept.record? _)
      all_goals (rw [c.settled.label, reached]; rfl)
    | true =>
      rw [if_pos rfl] at reached
      have work := workFailing_keeps (w.leftTold m) m.track
      obtain ⟨d, failing⟩ := workFailing_queues (w.leftTold m) m.track
      obtain ⟨goes, l⟩ := passOn_leaves (s := (w.leftTold m).workFailing m.track) (n := m.track) (x := { a with stage := .toReject }) (by
        rw [workFailing_record?, if_pos rfl, c.recordBefore]; rfl)
      rw [← reached] at l
      have finish : (w.leftTold m).place (.spur .finish) = s.place (.spur .finish) := by
        rw [(leftTold_keeps w m).place, c.joined.places _ (by rw [c.dest, hp]; simp) (Ne.symm ((moveZone_source c.zone).2 _))]
      refine ⟨nofun, fun _ => ⟨?_, fun ho => ?_⟩⟩
      · obtain ⟨goes, may, record, condition, asked, stays⟩ := l.passedOn number work c.settled free
        rw [hasRoom_spur finish] at may
        exact ⟨goes, may, record, condition, fun h => ⟨(asked h).1, by rw [← finish]; exact (asked h).2⟩, fun h => by
          rw [← finish]; exact stays h⟩
      · rw [c.ends]
        have queues := c.queuesLeft.trans (failing.trans (.of_keeps l.keeps))
        exact lateTold_reported queues (by simp) (.head _) rfl ⟨congrArg some number.symm, rfl, rfl⟩ ho

end Completes

/-- Only a wrapper is sent anything as a pallet reaches a place of O10. -/
theorem reachedPlace_silent (h : OrdinaryEnd p i) (hw : ∀ k, p ≠ .wrapper k) (u : State) (n : Nat) : (u.reachedPlace n p).sent = u.sent := by
  refine h.elim (motive := fun p => (∀ k, p ≠ .wrapper k) → (u.reachedPlace n p).sent = u.sent) (fun _ _ => rfl) (fun k _ => ?_)
    (fun k hk => absurd rfl (hk k)) (fun _ => ?_) (fun q _ => ?_) hw
  · exact (stagedAt_keeps u n k |>.mono (cs := [.records, .wrap, .queue]) (by decide) |>.trans
      ((enterStaging_raised u n k).mono (by decide))) .sent (by decide)
  · have kept : KeepsAllBut [.queue, .places, .moves, .records, .check, .label] u u.reachLabel := by simp
    exact kept .sent (by decide)
  · exact (heldAt_keeps u n |>.mono (cs := [.records, .buffer, .queue]) (by decide) |>.trans
      ((storeCompleted_raised u n q).mono (by decide))) .sent (by decide)

theorem Completes.sent (c : Completes s w v t m a p new) (h : OrdinaryEnd p i) (hw : ∀ k, p ≠ .wrapper k) : t.sent = s.sent := by
  have after : t.sent = v.sent := c.settled .sent (by decide)
  have before : (w.leftTold m).sent = s.sent := c.leftKeeps .sent (by decide)
  rw [after, c.reached, reachedPlace_silent h hw, before]

/-- Settles O10: the move of a pallet completes at its destination, in time or late. -/
theorem aMoveCompletesAtItsDestination : Obligations.AMoveCompletesAtItsDestination := by
  intro p i s m r a completed lane check shuttle senses bound zone hr ha
  have hd : m.dest = p := by
    have found := List.find?_some bound
    simp only [Bool.and_eq_true, beq_iff_eq] at found
    exact found.1
  have ends : OrdinaryEnd p i := ⟨completed, lane, check, shuttle⟩
  obtain ⟨w, j, run⟩ := completion_run completed lane senses bound (moveZone_source zone).1 hr
  obtain ⟨new, told⟩ := reachedPlace_told ends (w.leftTold m) m
  rw [← ha] at j
  have c : Completes s w _ _ m a p new := ⟨j, hd, zone, rfl, told, rfl⟩
  exact ⟨_, run, c.stands, c.source, c.others, c.otherPlaces, c.check, fun _ => c.wrapper, c.label shuttle, fun _ => c.spur,
    fun _ => c.staging ha, fun _ => c.wrapped, c.labelled, fun _ => c.held ha, c.sent ends, c.keeps⟩

end Sys2Proof.Machine
end

section
/-! SUPPORT. A lost move (R43): the place it left, the station answerable for it and the reports of its loss. -/

namespace Sys2Proof.Machine

open State

variable {bs : List Block} {r s t u v w : State} {p : Place} {i : Input} {n : Nat} {x a : Record} {m : Move} {new : List Report}

/-! ### The change of a station's reported state (R83) -/

/-- A station's change of state, as it is reported. -/
def Announces (s : State) (st : Station) (x : Report) : Prop :=
  x.kind = .stationChange ∧ x.detail = st.number ∧ x.value = some (s.stationState st).number

theorem settleStation_stationState (s : State) (a b : Station) : (s.settleStation a).stationState b = s.stationState b :=
  KeepsAllBut.stationState_same ((keeps_settleStation (by decide)).mpr keeps_refl) b

theorem settleStation_announces (h : tget s.reported st.idx ≠ s.stationState st) :
    ∃ x, Announces s st x ∧ Queues s (s.settleStation st) [x] := by
  have kept : KeepsAllBut [.reported] s { s with reported := tset s.reported st.idx (s.stationState st) } :=
    (keeps_setReported (by simp)).mpr keeps_refl
  have step : s.settleStation st = State.raise { s with reported := tset s.reported st.idx (s.stationState st) } .stationChange
      { detail := st.number, value := some ((s.stationState st).number : Int) } := by
    unfold State.settleStation
    dsimp only
    rw [if_neg (by simpa using h)]
  rw [step]
  exact ⟨_, ⟨rfl, rfl, rfl⟩, .raised kept⟩

/-- Stations brought up to date report their changes, each of those listed once its state is not the reported one. -/
theorem stations_announce (l : List Station) (s : State) : ∃ new, (new.length ≤ l.length ∧ ∀ x ∈ new, x.kind = .stationChange)
    ∧ Queues s (l.foldl State.settleStation s) new
    ∧ ∀ st ∈ l, tget s.reported st.idx ≠ s.stationState st → ∃ x ∈ new, Announces s st x := by
  induction l generalizing s with
  | nil => exact ⟨[], by simp, .refl s, nofun⟩
  | cons b l ih =>
    obtain ⟨rest, ⟨hl, hk⟩, queues, told⟩ := ih (s.settleStation b)
    by_cases hb : tget s.reported b.idx = s.stationState b
    · have stays : s.settleStation b = s := if_pos (by simpa using hb)
      rw [stays] at queues told
      refine ⟨rest, ⟨by simp; omega, hk⟩, by rw [List.foldl_cons, stays]; exact queues, fun st hm changed => ?_⟩
      rcases List.mem_cons.mp hm with rfl | hm
      · exact absurd hb changed
      · exact told st hm changed
    · obtain ⟨x, hx, queued⟩ := settleStation_announces hb
      refine ⟨x :: rest, ⟨by simpa using hl, ?_⟩, queued.trans queues, fun st hm changed => ?_⟩
      · exact List.forall_mem_cons.mpr ⟨hx.1, hk⟩
      · by_cases e : st = b
        · exact ⟨x, .head _, e ▸ hx⟩
        · have reported : tget (s.settleStation b).reported st.idx = tget s.reported st.idx := by
            rw [settleStation_reported, if_neg e]
          obtain ⟨y, hy, hz⟩ := told st ((List.mem_cons.mp hm).resolve_left e) (by rwa [reported, settleStation_stationState])
          unfold Announces at hz
          rw [settleStation_stationState] at hz
          exact ⟨y, .tail _ hy, hz⟩

theorem settleStations_announces (s : State) : ∃ new, StationReports new ∧ Queues s s.settleStations new
    ∧ ∀ st, tget s.reported st.idx ≠ s.stationState st → ∃ x ∈ new, Announces s st x := by
  obtain ⟨new, kinds, queues, told⟩ := stations_announce allStations s
  exact ⟨new, kinds, queues, fun st => told st (mem_allStations st)⟩

/-! ### The place left for good (R43) -/

/-- What the loss of a move does to the place it left and to the Mass Unit. -/
structure SourceLost (s t : State) (m : Move) (new : List Report) : Prop where
  place : ∀ k, t.place k = if k = m.source then
    (if m.source.capacity = 1 then { s.place k with
        occupants := (s.place k).occupants.filter (· != m.track), unknown := s.covered k, clearing := false }
      else { s.place k with occupants := (s.place k).occupants.filter (· != m.track) }) else s.place k
  queues : Queues s t new
  few : new.length ≤ 2
  plain : ∀ y ∈ new, y.kind ≠ .counterHalf
  unknown : m.source.capacity = 1 → s.covered m.source = true → s.unknownReport m.source 4 ∈ new
  zero : ∀ cap, m.source = .check ∧ s.covered .check = true → s.mass.capture = some cap → cap.purpose = .zero →
    t.mass = ⟨none, s.mass.offset, .failed, s.mass.valid, none, none⟩ ∧ t.sent = s.sent ++ [.hush] ∧ disturbedReport s.lineTime ∈ new
  still : ¬ (m.source = .check ∧ s.covered .check = true) ∨ (∀ cap, s.mass.capture = some cap → cap.purpose ≠ .zero) →
    t.mass = s.mass ∧ t.sent = s.sent
  keeps : KeepsAllBut [.places, .queue, .mass, .sent] s t

theorem leaveOccupants_same (s : State) (p : Place) (n : Nat) : (s.leaveOccupants p n).mass = s.mass ∧ (s.leaveOccupants p n).sent = s.sent
    ∧ (∀ q, (s.leaveOccupants p n).unknownReport q 4 = s.unknownReport q 4) := by
  have left := leaveOccupants_keeps s p n
  have time : (s.leaveOccupants p n).lineTime = s.lineTime := left .lineTime (by decide)
  refine ⟨left .mass (by decide), left .sent (by decide), fun q => ?_⟩
  unfold State.unknownReport State.report
  rw [time]

/-- A place of several pallets loses one. -/
theorem SourceLost.ofMany (many : m.source.capacity ≠ 1) : SourceLost s (s.leaveOccupants m.source m.track) m [] := by
  have left := leaveOccupants_keeps s m.source m.track
  obtain ⟨mass, sent, -⟩ := leaveOccupants_same s m.source m.track
  refine ⟨fun k => ?_, .of_keeps left, by simp, by simp, fun h => absurd h many, fun _ h => absurd (by rw [h.1]; rfl) many,
    fun _ => ⟨mass, sent⟩, left.mono (by decide)⟩
  rw [leaveOccupants_place, if_neg many]
  split
  · next e => rw [e]
  · rfl

/-- The place of a lost pallet, set anew by the sensors that cover it. -/
theorem setAnew_place {b : Bool} (one : m.source.capacity = 1) (hc : s.covered m.source = b)
    (hv : ∀ k, v.place k = if k = m.source then { (s.leaveOccupants m.source m.track).place m.source with unknown := b, clearing := false }
      else (s.leaveOccupants m.source m.track).place k) (k : Place) : v.place k = if k = m.source then
    (if m.source.capacity = 1 then { s.place k with
        occupants := (s.place k).occupants.filter (· != m.track), unknown := s.covered k, clearing := false }
      else { s.place k with occupants := (s.place k).occupants.filter (· != m.track) }) else s.place k := by
  rw [hv, leaveOccupants_place, if_pos rfl, if_pos one]
  split
  · next e => rw [e, hc]
  · next e => rw [leaveOccupants_place, if_neg e]

/-- A place of one pallet is FREE again when it is not covered. -/
theorem SourceLost.ofClear (one : m.source.capacity = 1) (hc : s.covered m.source = false) : SourceLost s
    ((s.leaveOccupants m.source m.track).modPlace m.source fun e => { e with unknown := false, clearing := false }) m [] := by
  have left := leaveOccupants_keeps s m.source m.track
  obtain ⟨mass, sent, -⟩ := leaveOccupants_same s m.source m.track
  have kept (u : State) : KeepsAllBut [.places] u (u.modPlace m.source fun e => { e with unknown := false, clearing := false }) := by simp
  have apart : ¬ (m.source = .check ∧ s.covered .check = true) := fun ⟨h1, h2⟩ => by rw [← h1, hc] at h2; cases h2
  exact ⟨setAnew_place one hc fun k => modPlace_place m.source _ k, (Queues.of_keeps left).trans (.of_keeps (kept _)), by simp, by simp,
    fun _ h => (nomatch hc.symm.trans h), fun cap h => absurd h apart, fun _ => ⟨mass, sent⟩, (left.mono (by decide)).trans ((kept _).mono (by decide))⟩

/-- A place of one pallet is UNKNOWN when it is covered, and CHECK then disturbs an open zero capture. -/
theorem SourceLost.ofCovered (one : m.source.capacity = 1) (hc : s.covered m.source = true) :
    ∃ new, SourceLost s ((s.leaveOccupants m.source m.track).markUnknown m.source 4) m new := by
  have left := leaveOccupants_keeps s m.source m.track
  obtain ⟨mass, sent, report⟩ := leaveOccupants_same s m.source m.track
  have time : (s.leaveOccupants m.source m.track).lineTime = s.lineTime := left .lineTime (by decide)
  have kept := markUnknown_keeps (s.leaveOccupants m.source m.track) m.source 4
  have places := setAnew_place (v := (s.leaveOccupants m.source m.track).markUnknown m.source 4) one hc fun k => markUnknown_place k
  have queued := Queues.of_keeps left
  generalize s.leaveOccupants m.source m.track = u at *
  have whole : KeepsAllBut [.places, .queue, .mass, .sent] s (u.markUnknown m.source 4) := (left.mono (by decide)).trans (kept.mono (by decide))
  by_cases disturbed : m.source = .check ∧ ∃ cap, s.mass.capture = some cap ∧ cap.purpose = .zero
  · obtain ⟨hs, cap, hcap, hz⟩ := disturbed
    obtain ⟨failed, hush, queues⟩ := markUnknown_zero (s := u) (why := 4) (mass.symm ▸ hcap) hz
    rw [hs] at places whole ⊢
    rw [report, time] at queues
    rw [mass] at failed
    rw [sent] at hush
    refine ⟨_, ⟨by rw [hs]; exact places, queued.trans queues, by simp, ?_, fun _ _ => by rw [hs]; exact .head _,
      fun _ _ _ _ => ⟨failed, hush, .tail _ (.head _)⟩, fun h => ?_, whole⟩⟩
    · simp [State.unknownReport, State.report, disturbedReport]
    · exact ((h.resolve_left fun h => h ⟨hs, hs ▸ hc⟩) cap hcap hz).elim
  · have plain : m.source ≠ .check ∨ ∀ cap, u.mass.capture = some cap → cap.purpose ≠ .zero := by
      rw [mass]
      by_cases hs : m.source = .check
      · exact .inr fun cap h1 h2 => disturbed ⟨hs, cap, h1, h2⟩
      · exact .inl hs
    obtain ⟨same, silent, queues⟩ := markUnknown_plain (why := 4) plain
    rw [report] at queues
    refine ⟨_, ⟨places, queued.trans queues, by simp, ?_, fun _ _ => .head _,
      fun cap h1 h2 h3 => absurd ⟨h1.1, cap, h2, h3⟩ disturbed, fun _ => ⟨same.trans mass, silent.trans sent⟩, whole⟩⟩
    simp [State.unknownReport, State.report]

theorem loseSource_loses (s : State) (m : Move) : ∃ new, SourceLost s (s.loseSource m) m new := by
  unfold State.loseSource
  dsimp only
  by_cases one : m.source.capacity = 1
  · rw [if_pos (by simpa using one)]
    unfold State.vacate
    rw [(leaveOccupants_keeps s m.source m.track).covered]
    cases hc : s.covered m.source with
    | false => exact ⟨_, .ofClear one hc⟩
    | true => exact SourceLost.ofCovered one hc
  · rw [if_neg (by simpa using one)]
    exact ⟨_, .ofMany one⟩

end Sys2Proof.Machine
end

section
/-! PROOF. O9: a move whose travel limit runs out is lost. -/

namespace Sys2Proof.Machine

open State

variable {bs : List Block} {r s t u v w : State} {p : Place} {i : Input} {n : Nat} {x a : Record} {m : Move} {new : List Report}

/-! ### The answerable station (R43) -/

theorem station_ne_mergeGate (m : Move) : m.station ≠ .mergeGate := by
  unfold Move.station
  split <;> nofun

/-- The blocks of the stations that a lost move may fault. -/
def stations : List Block := [.check, .wrap, .label, .buffer]

theorem faultStation_keeps (s : State) (m : Move) : KeepsAllBut stations s (s.faultStation m) := by simp [stations]

theorem faultStation_check (s : State) (m : Move) :
    (s.faultStation m).check = { s.check with fault := s.check.fault || m.station = .check } := by
  unfold State.faultStation
  split <;> next h => simp [h, State.modCheck, State.modWrapper, State.modWrap, State.modLabel, State.faultShuttle, State.modBuffer]

theorem faultStation_wrapper (s : State) (m : Move) (k : Side) : (s.faultStation m).wrapper k
    = if m.station = .wrapper k then { s.wrapper k with status := .faulted, cause := some .move } else s.wrapper k := by
  unfold State.faultStation
  split
  · next h => rw [h]; rfl
  · next j h =>
    rw [h]
    refine (modWrapper_wrapper j _ k).trans ?_
    by_cases e : k = j
    · rw [if_pos e, if_pos (by rw [e]), e]
    · rw [if_neg e, if_neg fun h => e (by cases h; rfl)]
  all_goals (next h => rw [h]; rfl)

theorem faultStation_wrapLists (s : State) (m : Move) :
    (s.faultStation m).wrap.staging = s.wrap.staging ∧ (s.faultStation m).wrap.labelOrder = s.wrap.labelOrder := by
  unfold State.faultStation
  split <;> exact ⟨rfl, rfl⟩

theorem faultStation_label (s : State) (m : Move) :
    (s.faultStation m).label = { s.label with fault := if m.station = .label then some .move else s.label.fault } := by
  unfold State.faultStation
  split <;> (next h => rw [h]; rfl)

theorem faultStation_buffer (s : State) (m : Move) : (s.faultStation m).buffer = { s.buffer with
    fault := s.buffer.fault || m.station = .shuttle
    reserved := if m.station = .shuttle ∧ m.source = .shuttle then
      tmap (fun k => if k = some m.track then none else k) s.buffer.reserved else s.buffer.reserved } := by
  have plain (h : m.station ≠ .shuttle) : ({ s.buffer with
      fault := s.buffer.fault || m.station = .shuttle
      reserved := if m.station = .shuttle ∧ m.source = .shuttle then
        tmap (fun k => if k = some m.track then none else k) s.buffer.reserved else s.buffer.reserved } : BufferController) = s.buffer := by
    simp [h]
  unfold State.faultStation
  split
  case h_4 h =>
    unfold State.faultShuttle
    by_cases hs : m.source = .shuttle
    · simp [h, hs, State.modBuffer, BufferController.unreserve]
    · simp [h, hs, State.modBuffer]
  all_goals (next h => exact (plain (by rw [h]; nofun)).symm)

theorem faultStation_faults (s : State) (m : Move) : (s.faultStation m).stationState m.station = .faulted := by
  unfold State.stationState
  split
  · next h => simp [faultStation_check, h]
  · next k h => simp [faultStation_wrapper, h]
  · next h => simp [faultStation_label, h]
  · next h => simp [faultStation_buffer, h]
  · next h => exact absurd h (station_ne_mergeGate m)

/-! ### The lost move and its record (R43) -/

/-- The move in the list and its record, lost. -/
def State.moveLost (s : State) (n : Nat) : State := (s.modMove n fun k => { k with state := .lost, left := 0 }).modRecord n Record.lose

theorem moveLost_keeps (s : State) (n : Nat) : KeepsAllBut [.moves, .records] s (s.moveLost n) := by simp [State.moveLost]

theorem moveLost_record? (s : State) (n k : Nat) :
    (s.moveLost n).record? k = if k = n then (s.record? n).map Record.lose else s.record? k :=
  modRecord_record? (s := s.modMove n _) k fun x => by
    unfold Record.lose Record.enterFault
    split <;> rfl

theorem moveLost_move? (s : State) (n k : Nat) :
    (s.moveLost n).move? k = if k = n then (s.move? n).map fun m => { m with state := .lost, left := 0 } else s.move? k :=
  modMove_move? k

theorem moveLost_movesTo (s : State) (n : Nat) (p : Place) : (s.moveLost n).movesTo p = true ↔ ∃ k ∈ s.field.moves, k.dest = p := by
  have same : (s.moveLost n).movesTo p = s.movesTo p := by
    show List.any (List.map _ _) _ = _
    rw [List.any_map]
    refine congrArg (List.any _) (funext fun k => ?_)
    show ((if (k.track == n) = true then _ else _ : Move).dest == p) = _
    split <;> rfl
  rw [same]
  simp [State.movesTo]

theorem lose_eq (x : Record) : x.lose = { x with
    stage := .lost, preLost := some x.stage
    faults := if x.faults.length < 4 then x.faults ++ [.moveTimeout] else x.faults
    faultsLost := if x.faults.length < 4 then x.faultsLost else min 255 (x.faultsLost + 1) } := by
  unfold Record.lose Record.enterFault
  split <;> rfl

/-! ### The loss, as a chain of states -/

/-- A lost move, before its reports: its source left, the owner there told, and its station faulted. -/
structure Loses (s u v : State) (m : Move) (new : List Report) : Prop where
  source : SourceLost (s.moveLost m.track) u m new
  ends : v = (u.leftPlace m.track m.source).faultStation m

namespace Loses

variable (l : Loses s u v m new)
include l

theorem before : KeepsAllBut [.moves, .records, .places, .queue, .mass, .sent] s u :=
  ((moveLost_keeps s _).mono (by decide)).trans (l.source.keeps.mono (by decide))

theorem after : KeepsAllBut (leavers ++ stations) u v := by
  rw [l.ends]
  exact ((leftPlace_keeps u _ _).mono (by decide)).trans ((faultStation_keeps _ m).mono (by decide))

theorem owners (kt : KeepsAllBut (.counters :: derived) v t)
    (hp : m.source = .label → s.label.pallet.map (·.track) = some m.track → t.label.print = none) : OwnersAfterLoss s t m := by
  have check : u.check = s.check := l.before .check (by decide)
  have moved : u.movesTo .check = (s.moveLost m.track).movesTo .check := by
    unfold State.movesTo
    rw [show u.field.moves = _ from l.source.keeps .moves (by decide)]
  have wrapper (k : Side) : u.wrapper k = s.wrapper k := l.before.wrapper k
  have wrap : u.wrap = s.wrap := l.before .wrap (by decide)
  have label : u.label = s.label := l.before.wholeLabel
  have buffer : u.buffer = s.buffer := l.before.wholeBuffer
  have time : u.lineTime = s.lineTime := l.before .lineTime (by decide)
  have checked : t.check = _ := (kt .check (by decide)).trans (by rw [l.ends, faultStation_check, leftPlace_check, check, moved])
  have wrapped (k : Side) : t.wrapper k = _ := (kt.wrapper k).trans (by rw [l.ends, faultStation_wrapper, leftPlace_wrapper, wrapper, time])
  have lists : t.wrap.staging = s.wrap.staging ∧ t.wrap.labelOrder = s.wrap.labelOrder := by
    rw [show t.wrap = v.wrap from kt .wrap (by decide), l.ends, (faultStation_wrapLists _ m).1, (faultStation_wrapLists _ m).2,
      (leftPlace_wrapLists u _ _).1, (leftPlace_wrapLists u _ _).2, wrap]
    exact ⟨rfl, rfl⟩
  have labelled : t.label = _ := kt.label.trans (by rw [l.ends, faultStation_label, leftPlace_label, label])
  have buffered : t.buffer = _ := kt.buffer.trans (by rw [l.ends, faultStation_buffer, leftPlace_buffer, buffer])
  refine ⟨⟨?_, ?_, fun h => ?_, fun h => ?_⟩, fun k => wrapped k, lists.1, lists.2, labelled, hp, ?_⟩
  · rw [checked]
    by_cases h : m.source = .check
    · simp only [h, if_true, moveLost_movesTo]
    · simp only [h, if_false]
  · rw [checked]
    split <;> rfl
  · rw [checked, if_neg h]
  · rw [checked]
    split
    · rfl
    · exact h
  · rw [buffered]
    by_cases h : m.source = .label
    · simp only [h, if_true, true_and]
    · simp only [h, if_false, false_and]

theorem record? (kt : KeepsAllBut (.counters :: derived) v t) (k : Nat) :
    t.record? k = if k = m.track then (s.record? m.track).map Record.lose else s.record? k := by
  rw [kt.record?, l.after.record?, l.source.keeps.record?, moveLost_record?]

theorem lostRecord : ((u.leftPlace m.track m.source).faultStation m).record? m.track = (s.record? m.track).map Record.lose := by
  rw [← l.ends, l.after.record?, l.source.keeps.record?, moveLost_record?, if_pos rfl]

theorem labelEmptied (hs : m.source = .label) (own : s.label.pallet.map (·.track) = some m.track) :
    ((u.leftPlace m.track m.source).faultStation m).label.condition = .empty := by
  have label : u.label = s.label := l.before.wholeLabel
  rw [faultStation_label, leftPlace_label, if_pos hs, label, LabelController.given, if_pos own]

theorem move? (kt : KeepsAllBut (.counters :: derived) v t) (k : Nat) :
    t.move? k = if k = m.track then (s.move? m.track).map fun m => { m with state := .lost, left := 0 } else s.move? k := by
  rw [kt.move?, l.after.move?, l.source.keeps.move?, moveLost_move?]

theorem place (kt : KeepsAllBut (.counters :: derived) v t) (k : Place) : t.place k = if k = m.source then
    (if m.source.capacity = 1 then { s.place k with
        occupants := (s.place k).occupants.filter (· != m.track), unknown := s.covered k, clearing := false }
      else { s.place k with occupants := (s.place k).occupants.filter (· != m.track) }) else s.place k := by
  have kept := moveLost_keeps s m.track
  rw [kt.place, l.after.place, l.source.place, kept.place, kept.covered]

theorem givenUp (kt : KeepsAllBut (.counters :: derived) v t) (report : ∀ {y : Report} {q : Report → Prop} {kind : ReportKind},
    y ∈ new → y.kind = kind → q y → QueueOpen s → Reported t kind q) : GivenUp s t m.source m.track (m.source.capacity = 1) 4 := by
  have place := (l.place kt m.source).trans (if_pos rfl)
  refine ⟨fun one => ?_, fun many => place.trans (if_neg many)⟩
  rw [if_pos one] at place
  refine ⟨place, fun covered => ⟨?_, fun ho => ?_⟩⟩
  · unfold State.placeState
    rw [place]
    simp [covered]
  · have covered : (s.moveLost m.track).covered m.source = true := ((moveLost_keeps s m.track).covered _).trans covered
    exact report (l.source.unknown one covered) rfl ⟨rfl, rfl⟩ ho

theorem freed (kt : KeepsAllBut (.counters :: derived) v t) (one : m.source.capacity = 1) (clear : s.covered m.source = false)
    (only : ∀ k ∈ (s.place m.source).occupants, k = m.track) (none : (s.place m.source).incoming = []) : t.placeState m.source = .free := by
  have place := (l.place kt m.source).trans ((if_pos rfl).trans (if_pos one))
  have empty : (s.place m.source).occupants.filter (· != m.track) = [] := List.filter_eq_nil_iff.mpr fun k hk => by simp [only k hk]
  rw [empty, clear] at place
  have held : t.occupancy m.source = 0 := by
    unfold State.occupancy
    split
    · next lane h => rw [h] at one; cases one
    · rw [place]; rfl
  unfold State.placeState
  rw [held, place]
  simp [none]

theorem zero (kt : KeepsAllBut (.counters :: derived) v t) (report : ∀ {y : Report} {q : Report → Prop} {kind : ReportKind},
    y ∈ new → y.kind = kind → q y → QueueOpen s → Reported t kind q) : ZeroDisturbed s t (m.source = .check ∧ s.covered .check = true) := by
  have kept := moveLost_keeps s m.track
  have mass : (s.moveLost m.track).mass = s.mass := kept .mass (by decide)
  have sent : (s.moveLost m.track).sent = s.sent := kept .sent (by decide)
  have mass' : t.mass = u.mass := (kt .mass (by decide)).trans (l.after .mass (by decide))
  have sent' : t.sent = u.sent := (kt .sent (by decide)).trans (l.after .sent (by decide))
  obtain ⟨-, -, -, -, -, zero, still, -⟩ := l.source
  rw [kept.covered, mass, sent] at zero still
  rw [← mass', ← sent'] at zero still
  exact ⟨fun cap h1 h2 h3 => ⟨(zero cap h1 h2 h3).1, (zero cap h1 h2 h3).2.1, fun ho => report (zero cap h1 h2 h3).2.2 rfl ⟨rfl, rfl⟩ ho⟩, still⟩

theorem queues : Queues s v new := by
  have kept := Queues.of_keeps (moveLost_keeps s m.track)
  simpa using (kept.trans l.source.queues).trans (.of_keeps l.after)

end Loses

/-! ### The reports of the loss -/

/-- The note of a lost pallet. -/
def State.lossNote (s : State) (m : Move) : Note := noteOf m.track (s.refOf m.track) m.dest.number (some m.limit)

/-- A lost move, its reports queued and its counter raised. -/
def State.lossTold (v : State) (m : Move) : State := (v.settleStations.raise .palletLost (v.settleStations.lossNote m)).count .lostMoves

theorem loseMove_eq (s : State) (m : Move) :
    s.loseMove m = ((((s.moveLost m.track).loseSource m).leftPlace m.track m.source).faultStation m).lossTold m := rfl

theorem lossTold_keeps (v : State) (m : Move) : KeepsAllBut [.queue, .reported, .counters] v (v.lossTold m) := by simp [State.lossTold]

theorem lossTold_counters (v : State) (m : Move) : (v.lossTold m).link.counters = v.counted .lostMoves := by
  have kept : KeepsAllBut [.queue, .reported] v (v.settleStations.raise .palletLost (v.settleStations.lossNote m)) := by simp
  unfold State.lossTold
  rw [count_counters, counted_congr kept]

theorem lossNote_settled (v : State) (m : Move) : v.settleStations.lossNote m = v.lossNote m := by
  unfold State.lossNote State.refOf
  rw [(settleStations_keeps v).record?]

/-- A report queued and a counter raised, after the derived signals. -/
theorem Queues.raisedAndCounted {c : Counter} {k : ReportKind} {note : Note} (h : Queues v u new) (kept : KeepsAllBut [.queue, .reported] v u) :
    Queues v ((u.raise k note).count c) (new ++ ([v.report k note] ++ halfReports v c)) := by
  have time : u.lineTime = v.lineTime := kept .lineTime (by decide)
  have raised := raise_keeps u k note
  have lost := Queues.raise (s := u) k note
  have count := Queues.count (u.raise k note) c
  rw [halfReports_congr raised, halfReports_congr kept] at count
  have report : u.report k note = v.report k note := by
    unfold State.report
    rw [time]
  rw [report] at lost
  exact h.trans (lost.trans count)

/-- The reports of a loss: the changes of stations, the lost pallet, and the half mark of the counter. -/
theorem lossTold_queues (v : State) (m : Move) : ∃ sts, StationReports sts
    ∧ Queues v (v.lossTold m) (sts ++ ([v.report .palletLost (v.lossNote m)] ++ halfReports v .lostMoves))
    ∧ ∀ st, tget v.reported st.idx ≠ v.stationState st → ∃ x ∈ sts, Announces v st x := by
  obtain ⟨sts, kinds, queued, told⟩ := settleStations_announces v
  refine ⟨sts, kinds, ?_, told⟩
  unfold State.lossTold
  rw [lossNote_settled]
  exact queued.raisedAndCounted (settleStations_keeps v)

theorem filter_without {l : List Report} {c : Counter} (h : ∀ z ∈ l, z.kind ≠ .counterHalf) :
    l.filter (fun z => z.kind == .counterHalf && z.detail == c.number) = [] :=
  List.filter_eq_nil_iff.mpr fun z hz => by simp [h z hz]

/-- The half marks among the reports of a loss are those of the lost moves. -/
theorem loss_halfReports {sts : List Report} {y : Report} (hn : ∀ z ∈ new, z.kind ≠ .counterHalf) (kinds : StationReports sts)
    (hy : y.kind = .palletLost) : (new ++ (sts ++ ([y] ++ halfReports v .lostMoves))).filter
      (fun z => z.kind == .counterHalf && z.detail == Counter.lostMoves.number) = halfReports v .lostMoves := by
  have others : ∀ z ∈ sts, z.kind ≠ .counterHalf := fun z hz => by rw [kinds.2 z hz]; nofun
  have own : ∀ z ∈ [y], z.kind ≠ .counterHalf := fun z hz => by rw [List.mem_singleton.mp hz, hy]; nofun
  rw [List.filter_append, List.filter_append, List.filter_append, filter_halfReports, filter_without hn, filter_without others, filter_without own]
  rfl

theorem execTravelLimitExpiry_loses (hm : s.move? m.track = some m) (flight : m.state = .inFlight) (left : m.left = 0)
    (halted : s.mode.mode ≠ .halted) : exec (.travelLimitExpiry m.track) s = .next
      ((((s.moveLost m.track).loseSource m).leftPlace m.track m.source).faultStation m |>.lossTold m).settle := by
  rw [← loseMove_eq]
  show execTravelLimitExpiry m.track s = _
  unfold execTravelLimitExpiry
  rw [hm]
  dsimp only
  rw [if_pos (by simp [flight, left, halted])]

theorem execTravelLimitExpiry_stays (hm : s.move? n = some m) (left : 0 < m.left) : exec (.travelLimitExpiry n) s = .next s := by
  show execTravelLimitExpiry n s = _
  unfold execTravelLimitExpiry
  rw [hm]
  dsimp only
  rw [if_neg (by simp [left.ne'])]

/-- Settles O9: a move whose travel limit runs out is lost, with its record, and the answerable station is FAULTED. -/
theorem anExpiredTravelLimitLosesTheMove : Obligations.AnExpiredTravelLimitLosesTheMove := by
  intro n s m x hm hx flight halted
  refine ⟨fun left => ?_, execTravelLimitExpiry_stays hm⟩
  obtain rfl : m.track = n := move?_track hm
  obtain ⟨new, source⟩ := loseSource_loses (s.moveLost m.track) m
  have run := execTravelLimitExpiry_loses hm flight left halted
  have l : Loses s _ _ m new := ⟨source, rfl⟩
  generalize hv : (((s.moveLost m.track).loseSource m).leftPlace m.track m.source).faultStation m = v at *
  have told := lossTold_keeps v m
  have counters := lossTold_counters v m
  obtain ⟨sts, kinds, reports, announced⟩ := lossTold_queues v m
  generalize v.lossTold m = y at *
  have kt : KeepsAllBut (.counters :: derived) v y.settle := (told.mono (by decide)).trans ((settle_keeps _).mono (by decide))
  have kv : KeepsAllBut ([.moves, .records, .places, .queue, .mass, .sent] ++ (leavers ++ stations)) s v :=
    (l.before.mono (by decide)).trans (l.after.mono (by decide))
  have queues := l.queues.trans reports
  have half := Queues.halfReports_length v .lostMoves
  have few : (new ++ (sts ++ ([v.report .palletLost (v.lossNote m)] ++ halfReports v .lostMoves))).length ≤ 32 := by
    have := l.source.few
    have := kinds.1
    simp only [List.length_append, List.length_singleton]
    omega
  have tell {q : Report → Prop} {kind : ReportKind} {z : Report}
      (hz : z ∈ new ++ (sts ++ ([v.report .palletLost (v.lossNote m)] ++ halfReports v .lostMoves)))
      (hk : z.kind = kind) (hq : q z) (ho : QueueOpen s) : Reported y.settle kind q := queues.reported hz hk hq ho few
  have faulted : v.stationState m.station = .faulted := by rw [← hv]; exact faultStation_faults _ m
  have reported : v.reported = s.reported := kv .reported (by decide)
  refine ⟨_, run, ?_, ?_, fun k hk => ⟨?_, ?_⟩, ?_, l.givenUp kt fun hy => tell (List.mem_append_left _ hy), l.freed kt, fun k hk => ?_, ?_,
    fun ho changed => ?_, l.owners kt ?_, l.zero kt fun hy => tell (List.mem_append_left _ hy), ?_, fun c hc => ?_, fun ho => ?_, ?_⟩
  · rw [l.move? kt, if_pos rfl, hm]; rfl
  · rw [l.record? kt, if_pos rfl, hx, Option.map_some, lose_eq]
  · rw [l.move? kt, if_neg hk]
  · rw [l.record? kt, if_neg hk]
  · rw [l.place kt, if_pos rfl]
    split <;> simp
  · rw [l.place kt, if_neg hk]
  · rw [(kt.mono (cs := offSignals) (by decide)).stationState_same, faulted]
  · obtain ⟨z, hz, kind, detail, value⟩ := announced m.station (by rw [reported, faulted]; exact changed)
    exact tell (List.mem_append_right _ (List.mem_append_left _ hz)) kind ⟨detail, by rw [value, faulted]; rfl⟩ ho
  · intro hs own
    have emptied : y.label.condition = .empty := (told .label (by decide)).2.1.trans (by rw [← hv]; exact l.labelEmptied hs own)
    rw [settle_print, State.printNow, State.printRuns, emptied]
    rfl
  · refine counted_of .lostMoves (counters.trans (counted_congr kv _)) queues few ?_
    rw [loss_halfReports l.source.plain kinds rfl, halfReports_congr kv]
  · have same : y.settle.link.counters = y.link.counters := settle_keeps y .counters (by decide)
    rw [same, counters, counted_congr kv, tget_counted_of_ne _ hc]
  · refine tell (List.mem_append_right _ (List.mem_append_right _ (.head _))) rfl ⟨rfl, ?_, rfl, rfl⟩ ho
    show Option.map _ (v.refOf m.track) = _
    unfold State.refOf
    rw [← hv, l.lostRecord, hx, Option.map_some, Option.bind_some, lose_eq]
  · exact (kv.mono (by decide)).trans (kt.mono (by decide))

end Sys2Proof.Machine
end

section
/-! PROOF. O8: a waiting move that may start starts under its travel limit. -/

namespace Sys2Proof.Machine

open State

variable {bs : List Block} {r s t u v w : State} {p q : Place} {i : Input} {n : Nat} {x a : Record} {m : Move} {new : List Report}

/-! ### Whether a move may start (R40) -/

theorem startable_iff : s.startable m = true ∧ s.carWaitsFor m = false ↔ MayStart s m := by
  unfold State.startable MayStart
  simp only [Bool.and_eq_true, working_iff, beq_iff_eq, bne_iff_ne, List.all_eq_true, Bool.not_eq_eq_eq_not,
    Bool.not_true, Bool.and_eq_false_imp, bne_eq_false_iff_eq, and_assoc]
  cases m.dest.completedBy <;> simp

theorem execMoveStart_starts (hm : s.move? n = some m) (h : MayStart s m) : exec (.moveStart n) s = .next (s.startMove m).settle := by
  obtain ⟨may, first⟩ := startable_iff.mpr h
  show execMoveStart n s = _
  unfold execMoveStart
  rw [hm]
  dsimp only
  rw [may, first]
  rfl

theorem execMoveStart_stays (h : ∀ m, s.move? n = some m → ¬ MayStart s m) : exec (.moveStart n) s = .next s := by
  show execMoveStart n s = _
  unfold execMoveStart
  cases hm : s.move? n with
  | none => rfl
  | some m =>
    have blocked : ¬ (s.startable m && !s.carWaitsFor m) = true := fun e => by
      rw [Bool.and_eq_true, Bool.not_eq_true'] at e
      exact h m hm (startable_iff.mp e)
    exact if_neg blocked

/-! ### The owner of the pallet is told (R78, R115, R126, R161) -/

/-- What the owner of a starting move's pallet does to its record, the wrappers and the label unit. -/
theorem startedMove_keeps (u : State) (n : Nat) (p q : Place) : KeepsAllBut [.queue, .records, .wrap, .label] u (u.startedMove n p q) :=
  (keeps_startedMove (by decide)).mpr keeps_refl

theorem startedMove_checking {j : Infeed} (k : Nat) : (u.startedMove n (.infeed j) .check).record? k
    = if k = n then (u.record? n).map fun r => { r with headMark := false, stage := .checking } else u.record? k :=
  modRecord_record? k

/-- The record of a pallet on its way into a wrapper, and its staging entry (R115). -/
def State.wrappingFrom (u : State) (n : Nat) (k : Side) : State := (u.setStage n .wrapping).setStaging k none

theorem wrappingFrom_keeps (u : State) (n : Nat) (k : Side) : KeepsAllBut [.records, .wrap] u (u.wrappingFrom n k) := by
  simp [State.wrappingFrom]

theorem startedMove_wrapping (u : State) (n : Nat) (k w : Side) : u.startedMove n (.staging k) (.wrapper w)
    = (u.wrappingFrom n k).raise .wrapDone (noteOf n (u.refOf n) 5 (some w.number)) := rfl

/-- The pallet of a move to LABEL is the label unit's from its start (R126, R136; log entry 22). -/
def State.labellingFor (u : State) (n : Nat) : State :=
  ((u.setStage n .labelling).modWrap fun c => { c with labelOrder := c.labelOrder.filter fun e => e.track != n }).modLabel fun c =>
    { c with pallet := some ⟨n, u.wrap.labelOrder.any fun e => e.track == n && e.failed⟩, condition := .incoming }

theorem labellingFor_keeps (u : State) (n : Nat) : KeepsAllBut [.records, .wrap, .label] u (u.labellingFor n) := by
  simp [State.labellingFor]

theorem labellingFor_refOf (u : State) (n : Nat) : (u.labellingFor n).refOf n = u.refOf n := by
  unfold State.refOf
  rw [show (u.labellingFor n).record? n = _ from setStage_record? (s := u) (st := .labelling) n, if_pos rfl]
  cases u.record? n <;> rfl

theorem startedMove_labelling (u : State) (n : Nat) (w : Side) : u.startedMove n (.wrapper w) .label
    = (u.labellingFor n).raise .labelDone (noteOf n ((u.labellingFor n).refOf n) 2 (some w.number)) := rfl

theorem startedMove_shuttle (u : State) (n : Nat) (p : Place) : u.startedMove n p .shuttle =
    (match u.buffer.task with
    | some ⟨k, .release _, _⟩ => if k == n then u.setStage n .releasing else u
    | _ => u) := by
  cases p <;> rfl

/-- Any other move starts without a word to an owner. -/
theorem startedMove_plain (u : State) (n : Nat) (p : Place) (hc : q ≠ .check) (hl : q ≠ .label) (hs : q ≠ .shuttle) (hw : ∀ w, q ≠ .wrapper w) :
    u.startedMove n p q = u := by
  cases q with
  | check => exact absurd rfl hc
  | label => exact absurd rfl hl
  | shuttle => exact absurd rfl hs
  | wrapper w => exact absurd rfl (hw w)
  | _ => cases p <;> rfl

theorem startedMove_others (u : State) (n : Nat) (p q : Place) {k : Nat} (hk : k ≠ n) : (u.startedMove n p q).record? k = u.record? k := by
  have staged (st : Stage) : (u.setStage n st).record? k = u.record? k := (setStage_record? k).trans (if_neg hk)
  unfold State.startedMove
  split
  · exact (modRecord_record? k).trans (if_neg hk)
  · exact ((raise_keeps _ _ _).record? k).trans (staged .wrapping)
  · exact ((raise_keeps _ _ _).record? k).trans (staged .labelling)
  · split
    · split
      · exact staged .releasing
      · rfl
    · rfl
  · rfl

/-! ### The move under way (R30, R41) -/

/-- The travel limit that a move starts with. -/
def State.travelLimit (s : State) (m : Move) : Nat :=
  if (s.zone m.zone).state = .degraded then 2 * s.setting .travelLimit else s.setting .travelLimit

/-- A move in flight under its travel limit. -/
def Move.started (m : Move) (s : State) : Move :=
  { m with state := .inFlight, left := s.travelLimit m, limit := s.travelLimit m, doubled := (s.zone m.zone).state == .degraded }

/-- The move in flight, and the diverter set for one out of CHECK. -/
def State.underWay (s : State) (m : Move) : State :=
  (s.modMove m.track fun k => { k with
    state := .inFlight, left := s.travelLimit m, limit := s.travelLimit m, doubled := (s.zone m.zone).state == .degraded }).setDiverter m

theorem startMove_eq (s : State) (m : Move) : s.startMove m = (s.underWay m).startedMove m.track m.source m.dest := by
  unfold State.startMove State.underWay State.travelLimit
  simp only [beq_iff_eq]

theorem underWay_keeps (s : State) (m : Move) : KeepsAllBut [.moves, .diverter] s (s.underWay m) := by simp [State.underWay]

theorem underWay_move? (hm : s.move? m.track = some m) (k : Nat) :
    (s.underWay m).move? k = if k = m.track then some (m.started s) else s.move? k := by
  have kept (v : State) : KeepsAllBut [.diverter] v (v.setDiverter m) := by simp
  unfold State.underWay
  rw [(kept _).move?, modMove_move?, hm]
  rfl

theorem underWay_diverter (s : State) (m : Move) :
    (s.underWay m).field.diverterReject = if m.source = .check then m.dest == .spur .check else s.field.diverterReject := by
  unfold State.underWay State.setDiverter
  by_cases h : m.source = .check
  · rw [if_pos (by simpa using h), if_pos h]
    rfl
  · rw [if_neg (by simpa using h), if_neg h]
    rfl

/-- The drives follow at the end of every step (R30). -/
theorem settle_drives (s : State) : DrivesFollow s.settle := settle_eq s ▸ settleOutputs_drives _

theorem zone_driven {k : Move} (live : t.mode.mode = .run ∨ t.mode.mode = .drain) (drives : DrivesFollow t) (hk : t.move? n = some k)
    (flight : k.state = .inFlight) : (t.zone k.zone).drive = true := by
  have moving : (t.field.moves.any fun m => m.zone == k.zone && m.state == .inFlight) = true :=
    List.any_eq_true.mpr ⟨k, move?_mem hk, by simp [flight]⟩
  rw [drives.drives]
  unfold State.zoneDrive State.drivesLive
  rw [moving, Bool.true_or, Bool.and_true]
  rcases live with h | h <;> rw [h] <;> rfl

/-! ### The start, by destination -/

/-- A move that starts: it is under way, its owner is told, and the outputs settled. -/
structure Starts (s u v t : State) (m : Move) (x : Record) : Prop where
  before : KeepsAllBut [.moves, .diverter] s u
  told : v = u.startedMove m.track m.source m.dest
  ends : t = v.settle
  record : s.record? m.track = some x

namespace Starts

variable (c : Starts s u v t m x)
include c

theorem settled : KeepsAllBut derived v t := by
  rw [c.ends]
  exact settle_keeps v

theorem after : KeepsAllBut [.queue, .records, .wrap, .label] u v := by
  rw [c.told]
  exact startedMove_keeps _ _ _ _

theorem recordBefore : u.record? m.track = some x := (c.before.record? _).trans c.record

theorem reference : u.refOf m.track = x.ref := by
  unfold State.refOf
  rw [c.recordBefore]
  rfl

theorem report {y : Report} {q : Report → Prop} {kind : ReportKind} (queues : Queues u v [y]) (hk : y.kind = kind) (hq : q y)
    (ho : QueueOpen s) : Reported t kind q := by
  rw [c.ends]
  exact ((Queues.of_keeps c.before).trans queues).reported (.head _) hk hq ho

theorem checking {j : Infeed} (hs : m.source = .infeed j) (hd : m.dest = .check) :
    t.record? m.track = some { x with headMark := false, stage := .checking } := by
  rw [c.settled.record?, c.told, hs, hd, startedMove_checking, if_pos rfl, c.recordBefore]
  rfl

theorem wrapping {k w : Side} (hs : m.source = .staging k) (hd : m.dest = .wrapper w) : t.record? m.track = some { x with stage := .wrapping }
    ∧ t.wrap = { s.wrap with staging := tset s.wrap.staging k.idx none }
    ∧ (QueueOpen s → Reported t .wrapDone fun y => y.track = some m.track ∧ y.load = x.ref.map (·.load)
      ∧ y.position = x.ref.map (·.position) ∧ y.detail = 5 ∧ y.value = some (w.number : Int)) := by
  have told : v = (u.wrappingFrom m.track k).raise .wrapDone (noteOf m.track (u.refOf m.track) 5 (some w.number)) := by
    rw [c.told, hs, hd, startedMove_wrapping]
  have kept := wrappingFrom_keeps u m.track k
  have raised := raise_keeps (u.wrappingFrom m.track k) .wrapDone (noteOf m.track (u.refOf m.track) 5 (some w.number))
  have queues : Queues u v [u.report .wrapDone (noteOf m.track (u.refOf m.track) 5 (some w.number))] := by
    rw [told]
    exact .raised kept
  rw [← told] at raised
  have wrap : (u.wrappingFrom m.track k).wrap = { u.wrap with staging := tset u.wrap.staging k.idx none } := rfl
  refine ⟨?_, ?_, c.report queues rfl ⟨rfl, ?_, ?_, rfl, rfl⟩⟩
  · rw [c.settled.record?, raised.record?]
    exact (setStage_record? (s := u) _).trans ((if_pos rfl).trans (by rw [c.recordBefore]; rfl))
  · rw [show t.wrap = v.wrap from c.settled .wrap (by decide), show v.wrap = _ from raised .wrap (by decide), wrap,
      show u.wrap = s.wrap from c.before .wrap (by decide)]
  · rw [← c.reference]; rfl
  · rw [← c.reference]; rfl

theorem labelling {w : Side} (hs : m.source = .wrapper w) (hd : m.dest = .label) : t.record? m.track = some { x with stage := .labelling }
    ∧ (∃ failed, (failed = true ↔ ∃ e ∈ s.wrap.labelOrder, e.track = m.track ∧ e.failed = true)
      ∧ t.label = { s.label with pallet := some ⟨m.track, failed⟩, condition := .incoming, print := t.label.print })
    ∧ t.wrap = { s.wrap with labelOrder := s.wrap.labelOrder.filter (·.track != m.track) }
    ∧ (QueueOpen s → Reported t .labelDone fun y => y.track = some m.track ∧ y.load = x.ref.map (·.load)
      ∧ y.position = x.ref.map (·.position) ∧ y.detail = 2 ∧ y.value = some (w.number : Int)) := by
  have told : v = (u.labellingFor m.track).raise .labelDone (noteOf m.track (u.refOf m.track) 2 (some w.number)) := by
    rw [c.told, hs, hd, startedMove_labelling, labellingFor_refOf]
  have kept := labellingFor_keeps u m.track
  have raised := raise_keeps (u.labellingFor m.track) .labelDone (noteOf m.track (u.refOf m.track) 2 (some w.number))
  have queues : Queues u v [u.report .labelDone (noteOf m.track (u.refOf m.track) 2 (some w.number))] := by
    rw [told]
    exact .raised kept
  rw [← told] at raised
  have wrap : u.wrap = s.wrap := c.before .wrap (by decide)
  have label : u.label = s.label := c.before.wholeLabel
  have listed : (u.labellingFor m.track).wrap = { u.wrap with labelOrder := u.wrap.labelOrder.filter (·.track != m.track) } := rfl
  have given : (u.labellingFor m.track).label = { u.label with
    pallet := some ⟨m.track, u.wrap.labelOrder.any fun e => e.track == m.track && e.failed⟩, condition := .incoming } := rfl
  refine ⟨?_, ⟨s.wrap.labelOrder.any fun e => e.track == m.track && e.failed, ?_, ?_⟩, ?_, c.report queues rfl ⟨rfl, ?_, ?_, rfl, rfl⟩⟩
  · rw [c.settled.record?, raised.record?]
    exact (setStage_record? (s := u) _).trans ((if_pos rfl).trans (by rw [c.recordBefore]; rfl))
  · simp [List.any_eq_true]
  · rw [← wrap, ← label]
    exact c.settled.label.trans (by rw [raised.wholeLabel, given])
  · rw [show t.wrap = v.wrap from c.settled .wrap (by decide), show v.wrap = _ from raised .wrap (by decide), listed, wrap]
  · rw [← c.reference]; rfl
  · rw [← c.reference]; rfl

/-- A move to another place than LABEL leaves the label unit. -/
theorem labelStays (hd : m.dest ≠ .label) : t.label = { s.label with print := t.label.print } := by
  have kept : KeepsAllBut [.queue, .records, .wrap] u v := by
    rw [c.told]
    unfold State.startedMove
    split
    case h_3 _ h => exact absurd h hd
    case h_4 => split <;> [split; skip] <;> simp
    all_goals simp
  exact ((c.before.mono (cs := [.moves, .diverter, .queue, .records, .wrap] ++ derived) (by decide)).trans
    ((kept.mono (by decide)).trans (c.settled.mono (by decide)))).label

/-- A move to SHUTTLE makes the record of a RELEASE RELEASING, and nothing else (R161). -/
theorem shuttled (hd : m.dest = .shuttle) : t.record? m.track = some { x with stage :=
    match s.buffer.task with
    | some ⟨k, .release _, _⟩ => if k = m.track then .releasing else x.stage
    | _ => x.stage } := by
  have buffer : u.buffer = s.buffer := c.before.wholeBuffer
  rw [c.settled.record?, c.told, hd, startedMove_shuttle, buffer]
  split
  · next k l leg _ =>
    by_cases own : k = m.track
    · simp only [own, beq_self_eq_true, if_true]
      exact (setStage_record? _).trans ((if_pos rfl).trans (by rw [c.recordBefore]; rfl))
    · simp only [own, beq_iff_eq, if_false]
      exact c.recordBefore
  · exact c.recordBefore

theorem plain (hc : m.dest ≠ .check) (hl : m.dest ≠ .label) (hs : m.dest ≠ .shuttle) (hw : ∀ w, m.dest ≠ .wrapper w) :
    t.record? m.track = some x := by
  rw [c.settled.record?, c.told, startedMove_plain u _ _ hc hl hs hw, c.recordBefore]

theorem wrapStays (hl : m.dest ≠ .label) (hw : ∀ w, m.dest ≠ .wrapper w) : t.wrap = s.wrap := by
  have kept : KeepsAllBut [.queue, .records] u v := by
    rw [c.told]
    unfold State.startedMove
    split
    case h_2 _ h => exact absurd h (hw _)
    case h_3 _ h => exact absurd h hl
    case h_4 => split <;> [split; skip] <;> simp
    all_goals simp
  exact (c.settled .wrap (by decide)).trans ((kept .wrap (by decide)).trans (c.before .wrap (by decide)))

end Starts

/-- Settles O8: a waiting move for which every condition of R40 holds starts, and no other does. -/
theorem aWaitingMoveStartsUnderItsTravelLimit : Obligations.AWaitingMoveStartsUnderItsTravelLimit := by
  refine ⟨fun n s h => execMoveStart_stays h, fun n s m x hm hx may => ?_⟩
  obtain rfl : m.track = n := move?_track hm
  have run := execMoveStart_starts hm may
  rw [startMove_eq] at run
  have c : Starts s (s.underWay m) _ _ m x := ⟨underWay_keeps s m, rfl, rfl, hx⟩
  have moves := underWay_move? hm
  have diverter := underWay_diverter s m
  have others := fun k hk => startedMove_others (s.underWay m) m.track m.source m.dest (k := k) hk
  have drives := settle_drives ((s.underWay m).startedMove m.track m.source m.dest)
  generalize (s.underWay m).startedMove m.track m.source m.dest = v at *
  generalize s.underWay m = u at *
  have kt := c.settled
  have whole : KeepsAllBut ([.moves, .diverter, .records, .wrap, .label] ++ derived) s v.settle :=
    (c.before.mono (by decide)).trans ((c.after.mono (by decide)).trans (kt.mono (by decide)))
  have move (k : Nat) : v.settle.move? k = u.move? k := (kt.move? k).trans (c.after.move? k)
  have started : v.settle.move? m.track = some (m.started s) := by rw [move, moves, if_pos rfl]
  have live : v.settle.mode.mode = .run ∨ v.settle.mode.mode = .drain := by
    rw [show v.settle.mode = s.mode from whole .mode (by decide)]
    exact may.2.1
  refine ⟨_, _, run, rfl, started, fun k hk => ⟨?_, ?_⟩, zone_driven (k := m.started s) live drives started rfl, ?_, fun _ => c.checking, fun _ _ => c.wrapping,
    fun _ => c.labelling, c.labelStays, c.wrapStays, c.shuttled, c.plain, whole⟩
  · rw [move, moves, if_neg hk]
  · rw [kt.record?, others k hk, c.before.record?]
  · rw [← diverter]
    exact (kt .diverter (by decide)).trans (c.after .diverter (by decide))

end Sys2Proof.Machine
end
